-- ==== Sys2Proof/Word.lean ====
section
/-! DEFINITION. The word types of the node: bytes, register words, lines and digests. -/

namespace Sys2Proof

/-- A byte of host memory, of a message or of a record. -/
abbrev Byte := BitVec 8

/-- An IEEE 754 binary32 value as its 32 bits (R95, R110). -/
abbrev F32 := BitVec 32

/-- A 64-bit word: a step, a record identifier, a host value. -/
abbrev W64 := BitVec 64

/-- A 256-bit SM3 digest. -/
abbrev Digest := BitVec 256

/-- Steps, sequence numbers, node identifiers, partitions, sizes and addresses are counts that the
spec compares and adds without wrapping within a run, so they are natural numbers. -/
abbrev Step := Nat

end Sys2Proof
end

