-- ==== Sys2Proof/Machine/Tab.lean ====
section
/-! DEFINITION. Sparse tables: lists of (key, value) pairs with strictly rising keys, in which an
absent key stands for a default. Every table, queue index and memory of State is held in this form, so
that equal contents are equal data. -/

namespace Sys2Proof

/-- A sparse table from natural-number keys. -/
abbrev Tab (α : Type) := List (Nat × α)

/-- The entry of key k, if listed. -/
def tfind {α : Type} : Tab α → Nat → Option α
  | [], _ => none
  | (k, v) :: t, q => if q = k then some v else tfind t q

/-- The value of key k, d standing for an absent key. -/
def tget {α : Type} (d : α) (t : Tab α) (k : Nat) : α := (tfind t k).getD d

/-- The table with key k holding v. -/
def tput {α : Type} : Tab α → Nat → α → Tab α
  | [], q, v => [(q, v)]
  | (k, w) :: t, q, v =>
    if q < k then (q, v) :: (k, w) :: t
    else if q = k then (q, v) :: t
    else (k, w) :: tput t q v

/-- The table without key k. -/
def tdel {α : Type} : Tab α → Nat → Tab α
  | [], _ => []
  | (k, w) :: t, q => if q = k then t else (k, w) :: tdel t q

/-- The table with key k reading v, where d is what an unlisted key reads as: a value equal to d is
not listed. -/
def tset {α : Type} [DecidableEq α] (d : α) (t : Tab α) (k : Nat) (v : α) : Tab α :=
  if v = d then tdel t k else tput t k v

/-- Change the listed entry of key k, if there is one. -/
def tmod {α : Type} (t : Tab α) (k : Nat) (f : α → α) : Tab α :=
  t.map (fun e => if e.1 = k then (e.1, f e.2) else e)

/-- The canonical form: keys strictly rising. -/
def tabRising {α : Type} (t : Tab α) : Bool :=
  match t with
  | [] => true
  | [_] => true
  | a :: b :: r => decide (a.1 < b.1) && tabRising (b :: r)

/-- The canonical form with a default: rising, and no entry equal to the default. -/
def tabWf {α : Type} [DecidableEq α] (d : α) (t : Tab α) : Bool :=
  tabRising t && t.all (fun e => decide (e.2 ≠ d))

/-- Insert into a list sorted by a key, before the first entry with a greater key. -/
def insSorted {α : Type} (le : α → α → Bool) (x : α) : List α → List α
  | [] => [x]
  | y :: ys => if le x y then x :: y :: ys else y :: insSorted le x ys

/-- Sort a list by insertion (stable from the right). -/
def sortBy {α : Type} (le : α → α → Bool) : List α → List α
  | [] => []
  | x :: xs => insSorted le x (sortBy le xs)

/-- Replace the entry at position i of a list, if it is there. -/
def lset {α : Type} : List α → Nat → α → List α
  | [], _, _ => []
  | _ :: xs, 0, v => v :: xs
  | x :: xs, i + 1, v => x :: lset xs i v

/-- Change every entry of a list that satisfies p. -/
def lmod {α : Type} (p : α → Bool) (f : α → α) (l : List α) : List α :=
  l.map (fun x => if p x then f x else x)

end Sys2Proof
end

