-- ==== Sys2Proof/Syntax.lean ====
section
/-! DEFINITION. The commands the node takes and the operands they carry: one constructor of Instr per row of
spec/opcode_table.json. A message that the node sends is the command it becomes at the node it is sent to. -/

namespace Sys2Proof

/-- Who sent a host command: the requester's port identifier (R327), the port it arrived on, and whether it
arrived inside an established IDE stream (R339). -/
structure HostReq where
  pid : Nat
  port : Nat
  ide : Bool
  deriving DecidableEq, Repr

/-- How a write at offsets 32 to 63 of a synchronisation object fails to be a well-formed operation (R336, R337). -/
inductive SyncForm where
  /-- Not one aligned 32-byte write at offset 32. -/
  | badShape
  /-- REPLY neither 0 nor a multiple of 16. -/
  | badReply
  /-- A reserved CODE, with a good REPLY and TAG. -/
  | badCode (code reply tag : Nat)
  deriving DecidableEq, Repr

/-- The body of a step or membership message, and whether its CRC held (R32). -/
structure StepMsg where
  flags : Nat
  sender : Nat
  epoch : Nat
  step : Nat
  subject : Nat
  root : Nat
  count : Nat
  crcOk : Bool
  deriving DecidableEq, Repr

/-- Where the final sheaf or completion of an operation goes, fixed at its admission (R92, R101): the sheaf ring and
slot index, the slot's host address, its owner, its units, the phase bit, and the descriptor's TAG and USER. -/
structure Delivery where
  part : Nat
  ring : Nat
  idx : Nat
  addr : Nat
  pid : Nat
  units : Nat
  phase : Nat
  tag : Nat
  user : Nat
  deriving DecidableEq, Repr

/-- The identity of an admitted operation: step, admission sequence number, admitting node (R118, R356). -/
structure OpId where
  step : Nat
  seq : Nat
  admitter : Nat
  deriving DecidableEq, Repr

/-- A query as QUERY_DIST carries it (R94, R356), with its delivery (assumption 7). -/
structure Query where
  id : OpId
  part : Nat
  handle : Nat
  k : Nat
  rs : Nat
  probes : Nat
  fslot : Nat
  g1 : Bool
  map : Nat
  qscale : Nat
  qzero : Int
  sketch : Nat
  rform : List Int
  vec : List Byte
  dlv : Delivery
  deriving DecidableEq, Repr

/-- An entry of a transit sheaf (R118). -/
structure SheafEntry where
  record : Nat
  score : Nat
  primary : Nat
  list : Nat
  pos : Nat
  deriving DecidableEq, Repr

/-- A transit sheaf (R118). `bad` is the status of a share the safety controller withheld or that found data
unrecoverable, 0 for a good one (assumption 8). -/
structure Sheaf where
  entries : List SheafEntry
  ties : Nat
  invalid : Nat
  chaffCount : Nat
  grainAcc : Nat
  chaffAcc : Nat
  cover : List Nat
  rerun : Option Nat
  bad : Nat
  deriving DecidableEq, Repr

/-- A mutation as STAGE carries it (R135, R138). -/
structure Mutation where
  id : OpId
  op : Nat
  part : Nat
  handle : Nat
  record : Nat
  xscale : Nat
  xzero : Int
  vec : List Byte
  deriving DecidableEq, Repr

/-- A filter operation as it is sent to the shard's holders (R76, R79, assumption 9). -/
structure FilterOp where
  id : OpId
  part : Nat
  handle : Nat
  fslot : Nat
  /-- The shard of a load, none for a retire. -/
  shard : Option Nat
  dflt : Bool
  slotCount : Nat
  src : Nat
  deriving DecidableEq, Repr

/-- What a STAGE message carries. -/
inductive Staging where
  | mutation (m : Mutation)
  | filter (f : FilterOp)
  deriving DecidableEq, Repr

/-- A mutation's outcome notice (R144): status, OUTCOME code, slots and lists. -/
structure MutOutcome where
  status : Nat
  outcome : Nat
  newSlot : Nat
  oldSlot : Nat
  list0 : Nat
  list1 : Nat
  deriving DecidableEq, Repr

/-- Where an exact-precision record was taken from (R99). -/
inductive GleanSrc where
  | cache | staging | flash | mirror | lost
  deriving DecidableEq, Repr

/-- How the check of a threshing pass or of the chunks it reads went (R157, R163): sound, a failing full segment or
tail, or a chunk that could not be recovered. -/
inductive ThreshFault where
  | none
  | segment (tail : Bool) (bank : Nat)
  | uncorrectable
  deriving DecidableEq, Repr

/-- What a 16 KiB unit of a flash page holds (R195, R199). -/
inductive FlashUnit where
  /-- Rerank records of a shard: collection, shard, slots. -/
  | rerank (lpage coll shard : Nat) (slots : List Nat)
  /-- A record index page. -/
  | index (lpage coll shard page : Nat)
  /-- Model weights. -/
  | weights (lpage : Nat)
  /-- A unit moved by collection or for retention. -/
  | moved (lpage : Nat)
  /-- Shared-space granules written back. -/
  | shared (lpage : Nat) (granules : List Nat)
  /-- A lease mark. -/
  | lease (mark : Nat)
  /-- A trim record. -/
  | trim (lpage : Nat)
  deriving DecidableEq, Repr

/-- A page address of the flash (R196). -/
structure FlashPage where
  chan : Nat
  lun : Nat
  plane : Nat
  block : Nat
  page : Nat
  deriving DecidableEq, Repr

/-- A chunk address of the stacked memory (R168). -/
structure ChunkAddr where
  chan : Nat
  bank : Nat
  row : Nat
  col : Nat
  deriving DecidableEq, Repr

/-- The classes of unit the safety log names (R406). -/
inductive UnitClass where
  | node | nbu | core | win | gln | route | channel | lun | link | port | fallback | spare | safety | other
  deriving DecidableEq, Repr

/-- Why a channel is failed (R179). -/
inductive ChanCause where
  | training | via | erasures | banks
  deriving DecidableEq, Repr

/-- The states in which a node holds a line (R306). -/
inductive LineSt where
  | modified | exclusive | shared | forward
  deriving DecidableEq, Repr

/-- A lost-line log entry on its way to the log (R316). -/
structure LostEntry where
  /-- Step during which it was detected -/
  step : Nat
  node : Nat
  part : Nat
  addr : Nat
  pid : Nat
  cause : Nat
  range : Nat
  deriving DecidableEq, Repr

/-- A coherence message (R311, R312, R320), by what it carries: a line is named by its shared line number, its bytes are a
512-bit number. A snoop may name the node that the holder forwards the line to; an answer says whether it did. -/
inductive CohMsg where
  | rds (line : Nat)
  | rdo (line : Nat)
  | upg (line : Nat)
  | wbm (line data : Nat)
  | evs (line : Nat)
  | inv (line data mask tag : Nat)
  | cas (id : OpId) (region expect base pid : Nat)
  | snpData (line : Nat) (fwd : Option Nat)
  | snpInv (line : Nat) (fwd : Option Nat)
  | data (line : Nat) (st : LineSt) (data : Option Nat)
  | grant (line : Nat)
  | snpRsp (line : Nat) (data : Option Nat) (sent : Bool)
  | casRsp (id : OpId) (ok : Bool) (version pubStep : Nat)
  | done (line tag : Nat)
  deriving DecidableEq, Repr

/-- A row of a table and its optimiser state (R275). -/
structure Row where
  /-- Elements; empty reads as DIM zeros -/
  e : List Int
  /-- Optimiser states; empty reads as zeros -/
  x : List Int
  deriving DecidableEq, Repr

/-- A directory entry (R292). -/
structure Override where
  table : Nat
  row : Nat
  owner : Nat
  mirror : Nat
  /-- First step served by the owner -/
  step : Nat
  deriving DecidableEq, Repr

/-- A gradient record staged here (R284). -/
structure GradRec where
  /-- The operation it belongs to, and the record's position in it -/
  id : OpId
  pos : Nat
  table : Nat
  row : Nat
  part : Nat
  /-- Step at whose commit it is applied (R285) -/
  due : Nat
  /-- The converted elements (R283) -/
  g : List Int
  deriving DecidableEq, Repr

/-- An EMB_TABLE_LOAD (R277, R290). -/
structure LoadInfo where
  id : OpId
  table : Nat
  part : Nat
  first : Nat
  count : Nat
  /-- Reset the optimiser state -/
  clear : Bool
  deriving DecidableEq, Repr

/-- What a chain's messages carry of a record (R232, R251, R257): its operation, position, class, MODEL_ID and partition,
its input record and pooled fields, both counters, the NaN flag, and the gradient records emitted so far. -/
structure ChainRec where
  id : OpId
  pos : Nat
  cls : Nat
  model : Nat
  part : Nat
  input : List Byte
  pooled : List (Nat × List Byte)
  sat : Nat
  quant : Nat
  nan : Bool
  grads : List (List Byte)
  deriving DecidableEq, Repr

/-- A segment of a layer as the first pass reads it (R263, R270): K, the stored type, the source bytes (int8 weights of
the tenant for FORM 1 and 2, ciphertext for FORM 3), and 128 FP32 column scales. -/
structure SegSrc where
  k : Nat
  ty : Nat
  bytes : List Byte
  scales : List Nat
  deriving DecidableEq, Repr

/-- What the first pass reads of a model (R270, R271): its program, its layers, whether everything was readable, and
whether the built form fits its allocation. -/
structure PassSrc where
  readable : Bool
  fits : Bool
  prog : List Nat
  layers : List (List SegSrc)
  deriving DecidableEq, Repr

/-- A use of DRAM that the layout places, by its line of the protection-class table (R174). -/
inductive DramUse where
  | planes | routing | projections | rerankCache | weights
  | tables | sharedCache
  | shadow | listHeaders | flashMap | openParity | directory | staging | pds | safetyData
  deriving DecidableEq, Repr

/-- An allocation of the LAYOUT section (R174, R412): its use, the class it names (0 rebuildable, 1 coded, 2 privileged),
its channel and its size in MiB. -/
structure LayoutEntry where
  use : DramUse
  cls : Nat
  chan : Nat
  mib : Nat
  deriving DecidableEq, Repr

/-- A model's load record (R270, R412, R422): its ENC_MODEL entry index, the weight-header fields FORM to KEY_SLOT, and
for FORM 3 its wrapped keys. -/
structure LoadRec where
  entry : Nat
  head : List Byte
  wrapped : List Byte
  deriving DecidableEq, Repr

/-- A collection's contents in the OBJECTS section (R61, R70, R412): handle, shard map, projection rows, offsets. -/
structure ImgColl where
  handle : Nat
  shardMap : List (Nat × Nat)
  proj : List (List Int)
  offs : List Int
  deriving DecidableEq, Repr

/-- An image as the node reads it (R411, R412): its bytes, and what its sections hold, whose layout the manual does not
give. -/
structure Image where
  raw : List Byte
  /-- KEYS: owner, safety and partition public keys, requester roots -/
  ownerKey : List Byte
  safetyKey : List Byte
  partKeys : List (Nat × List Byte)
  roots : List Byte
  /-- IDENTITY: the device certificate's public key and the chain in DER -/
  certKey : List Byte
  chainDer : List Byte
  /-- TOPOLOGY: members; links as node, link, far node, far link; each candidate's tree as node and parent; routes as
  node, destination and links, the primary first -/
  members : List Nat
  links : List (Nat × Nat × Nat × Nat)
  trees : List (Nat × List (Nat × Nat))
  routes : List (Nat × Nat × List Nat)
  /-- LAYOUT -/
  layout : List LayoutEntry
  /-- The IMG and SAF fields that the image names: bit address in the window and value (R466) -/
  fields : List (Nat × Nat)
  /-- BLOCKS: the package profile (page, spare, planes, blocks, pages, cycles), CHANNEL_MASK, LUNs on each channel -/
  profile : Nat × Nat × Nat × Nat × Nat × Nat
  chanMask : Nat
  lunsPer : Nat
  /-- OBJECTS: collections, score-map tables by entry, node-set lists by table entry, the export list -/
  colls : List ImgColl
  maps : List (Nat × List Nat)
  tableNodes : List (Nat × List Nat)
  exports : List Nat
  /-- MODELS -/
  models : List LoadRec
  /-- AMEND: bytes of the log range on each device -/
  logLen : Nat × Nat
  deriving DecidableEq, Repr

/-- What reading a configuration device gave (R409): it is absent, its SFDP tables fail, or an image. -/
inductive ImgRead where
  | noDevice
  | badSfdp
  | image (i : Image)
  deriving DecidableEq, Repr

/-- A stage slot: entry node, partition and slot (R418). -/
structure StageSlot where
  node : Nat
  part : Nat
  slot : Nat
  deriving DecidableEq, Repr

/-- The completion of a stage slot on its way from the root to the entry node (R418, assumption 38). -/
structure StageDone where
  slot : StageSlot
  status : Nat
  reason : Nat
  seq : Nat
  step : Nat
  deriving DecidableEq, Repr

end Sys2Proof

namespace Sys2Proof.Machine

open Sys2Proof

/-- An entry of a list (R64). -/
structure Entry where
  /-- Slot in the shard's rerank store -/
  slot : Nat
  /-- The record's second assignment (R69) -/
  spill : Bool
  /-- Written by a split, a merge or a compaction (R64) -/
  moved : Bool
  /-- Deleted and converted (R39) -/
  stubble : Bool
  /-- Bit f: the allow bit of filter slot f (R64) -/
  allow : Nat
  /-- The record's sketch (R61) -/
  sketch : Nat
  deriving DecidableEq, Repr

/-- One list of a shard (R63, R65). -/
structure LList where
  /-- List index (R63) -/
  idx : Nat
  /-- Entries for which plane space is allocated (R65) -/
  capacity : Nat
  /-- The committed-length ring: entry t mod 16 (R37) -/
  ring : Tab Nat
  /-- The committed entries in canonical order (R67) -/
  entries : List Entry
  /-- The centroid in routing form (R63) -/
  centroid : List Int
  /-- TOMBSTONE (R73) -/
  tomb : Bool
  /-- Step from which queries see it (R65) -/
  born : Nat
  /-- Step from which queries no longer see it, 0 while live (R65) -/
  retired : Nat
  /-- The live length at a split that was suppressed (R82), none when there was none -/
  noSplit : Option Nat
  /-- Placement: channel, first bank, banks, base row (R65, R66) -/
  place : Nat × Nat × Nat × Nat
  deriving DecidableEq, Repr

/-- A pending-delete pair: slot, delete step, and the entries it names as list and position (R38, R140). -/
structure PdsPair where
  /-- Collection handle and shard -/
  coll : Nat
  shard : Nat
  /-- Slot -/
  slot : Nat
  /-- Delete step -/
  step : Nat
  /-- List index and position of each entry -/
  at_ : List (Nat × Nat)
  deriving DecidableEq, Repr

/-- A record of the rerank store (R135, R150). -/
structure Rerank where
  /-- Record identifier -/
  record : Nat
  /-- X_SCALE -/
  scale : Nat
  /-- X_ZERO -/
  zero : Int
  /-- Exact-precision vector -/
  vec : List Byte
  deriving DecidableEq, Repr

/-- A record index entry (R142). -/
structure IdxEntry where
  /-- Slot -/
  slot : Nat
  /-- Written by slot renewal -/
  renewed : Bool
  /-- List and position of its one or two entries, the spill entry second -/
  at_ : List (Nat × Nat)
  deriving DecidableEq, Repr

/-- The filter object in a filter slot of a shard (R75 to R80). -/
structure FilterObj where
  /-- The load -/
  op : FilterOp
  /-- Its step of completion, s + UPKEEP_LAG -/
  due : Nat
  /-- The bitmap's bits as a number, once placement has read them -/
  bitmap : Nat
  /-- Placement has finished (R76) -/
  placed : Bool
  /-- The status the placement ended with: 0, or WITHDRAWN or FAILED (R80) -/
  status : Nat
  /-- The load has completed at its due commit -/
  completed : Bool
  /-- Step of a FILTER_RETIRE of the slot -/
  retiredAt : Option Nat
  deriving DecidableEq, Repr

/-- An upkeep action in its window, with what R82 computed at its trigger (R81, R147): a split into lists a and b with
their centroids, a split that will not take place and the live length at the trigger, a merge into a target with the
target's new centroid, or a compaction. -/
inductive UpkeepKind where
  | split (a b : Nat) (ca cb : List Int)
  | suppress (live : Nat)
  | merge (target : Nat) (cent : List Int)
  | compact
  deriving DecidableEq, Repr

/-- An upkeep action triggered at the commit of a step (R81, R147). -/
structure Upkeep where
  /-- List acted on -/
  list : Nat
  /-- Trigger step s -/
  trigger : Nat
  /-- The step E that ends its window, s + UPKEEP_LAG -/
  due : Nat
  /-- What is done, with what R82 computed at s -/
  kind : UpkeepKind
  /-- The node has finished building the new lists (R148) -/
  built : Bool
  deriving DecidableEq, Repr

/-- A graph rebuild in its window (R74). -/
structure Rebuild where
  /-- Trigger step -/
  trigger : Nat
  /-- Edges and entry centroids, once it has finished -/
  done : Option (Tab (List Nat) × List Nat)
  /-- Splits that have taken effect since the trigger -/
  splits : List (Nat × Nat)
  /-- The step that the new graph serves from, s + GRAPH_LAG -/
  serves : Nat
  deriving DecidableEq, Repr

/-- A shard this node holds (R63 to R74). -/
structure Shard where
  /-- Collection handle -/
  coll : Nat
  /-- Shard number -/
  num : Nat
  /-- Owner named by the image: the primary node identifier (R67) -/
  owner : Nat
  /-- Mirror, 0xFFF when unmirrored (R469) -/
  mirror : Nat
  /-- Lists, live, tombstoned and retired -/
  lists : List LList
  /-- Out-edges of each centroid by list index (R73) -/
  edges : Tab (List Nat)
  /-- Entry centroids (R72) -/
  entry : List Nat
  /-- Edges and entry centroids that queries below a step still use (R74): the step, edges, entry -/
  oldGraph : Option (Nat × Tab (List Nat) × List Nat)
  /-- A graph rebuild in its window (R74) -/
  rebuild : Option Rebuild
  /-- Rerank log positions assigned so far (R150) -/
  tail : Nat
  /-- Rerank store by slot -/
  store : Tab Rerank
  /-- Record index by record identifier (R142) -/
  index : Tab IdxEntry
  /-- Record index entries as they were before the commit of a step: record, step, entry (R142) -/
  idxWas : List (Nat × Nat × Option IdxEntry)
  /-- Filter objects by filter slot -/
  filters : Tab FilterObj
  /-- Upkeep actions in their windows -/
  upkeep : List Upkeep
  /-- Renewal is in force (R150) -/
  renewing : Bool
  /-- Slot capacity Q of the rerank ring (R212) -/
  slotCap : Nat
  /-- The commit chain C (R425) -/
  chain : Digest
  /-- The latest commit step that changed it (R427) -/
  chainStep : Nat
  /-- Graph rebuilds that have taken effect (COLL_RUN.GRAPH_GEN) -/
  gen : Nat
  deriving DecidableEq, Repr

/-- What a recovering node has taken from the other holders, as it then stands in its own DRAM (R431): the shards with
their chain values, filter bits and rebuilt planes, their pending deletes, the rows and overrides of its tables, table
chains with the step of their last change, and the filter loads and retirements, each with its collection's handle first. -/
structure CatchUp where
  shards : List Shard
  pds : List PdsPair
  rows : Tab Row
  dir : List Override
  tchain : Tab Digest
  tchange : Tab Nat
  loads : List (Nat × Nat × Nat × Nat × Nat)
  retires : List (Nat × Nat × Nat)
  /-- The last step whose commit this includes, and the membership, epoch and root from the step after it -/
  committed : Nat
  members : Nat
  epoch : Nat
  root : Nat
  deriving DecidableEq, Repr

end Sys2Proof.Machine

namespace Sys2Proof

open Sys2Proof.Machine


/-- The commands of the node, one constructor per row of the table: those with operands, then the
others, each in its order. -/
inductive Instr where
  /-- IRING_TAIL_WRITE (R88). -/
  | iringTailWrite (h : HostReq) (p : Nat) (n : Nat) (value : Nat)
  /-- SRING_HEAD_WRITE (R103). -/
  | sringHeadWrite (h : HostReq) (p : Nat) (n : Nat) (value : Nat)
  /-- DESCRIPTOR_FETCH (R87). -/
  | descriptorFetch (p : Nat) (n : Nat) (data : List Byte)
  /-- EMB_LOOKUP (R279). -/
  | embLookup (mem : List (Nat × List Byte)) (lost : Bool)
  /-- EMB_UPDATE (R285). -/
  | embUpdate (mem : List (Nat × List Byte)) (lost : Bool)
  /-- SYNC_ADD (R337). -/
  | syncAdd (h : HostReq) (obj : Nat) (arg : Nat) (reply : Nat) (tag : Nat) (rsvd : Bool)
  /-- SYNC_TAKE (R337). -/
  | syncTake (h : HostReq) (obj : Nat) (arg : Nat) (reply : Nat) (tag : Nat) (rsvd : Bool)
  /-- SYNC_SET (R337). -/
  | syncSet (h : HostReq) (obj : Nat) (arg : Nat) (reply : Nat) (tag : Nat) (rsvd : Bool)
  /-- SYNC_READ (R337). -/
  | syncRead (h : HostReq) (obj : Nat) (arg : Nat) (reply : Nat) (tag : Nat) (rsvd : Bool)
  /-- SYNC_WAIT (R337). -/
  | syncWait (h : HostReq) (obj : Nat) (arg : Nat) (reply : Nat) (tag : Nat) (rsvd : Bool)
  /-- SYNC_CANCEL (R337). -/
  | syncCancel (h : HostReq) (obj : Nat) (arg : Nat) (reply : Nat) (tag : Nat) (rsvd : Bool)
  /-- SYNC_BAD_OP (R336). -/
  | syncBadOp (h : HostReq) (obj : Nat) (form : SyncForm)
  /-- SYNC_CTL_WRITE (R338). -/
  | syncCtlWrite (h : HostReq) (obj : Nat) (value : Nat)
  /-- HOME_HINT_WRITE (R301). -/
  | homeHintWrite (h : HostReq) (value : Nat)
  /-- PAGE_IN (R303). -/
  | pageIn (h : HostReq) (p : Nat) (slot : Nat)
  /-- PAGE_OUT (R303). -/
  | pageOut (h : HostReq) (p : Nat) (slot : Nat)
  /-- SWAP_DMA_DONE (R303). -/
  | swapDmaDone (p : Nat) (slot : Nat) (lines : List Nat) (lost : Bool)
  /-- CFG_STAGE_SUBMIT (R418). -/
  | cfgStageSubmit (h : HostReq) (p : Nat) (slot : Nat) (data : List Byte)
  /-- SEC_REPORT_REQUEST (R427). -/
  | secReportRequest (h : HostReq) (p : Nat) (slot : Nat)
  /-- TALLY_CLEAR_WRITE (R400). -/
  | tallyClearWrite (h : HostReq) (p : Nat) (n : Nat) (value : Nat)
  /-- MSIX_TABLE_WRITE (R334). -/
  | msixTableWrite (h : HostReq) (n : Nat) (off : Nat) (bytes : Nat) (value : Nat)
  /-- PART_EVT_CFG_WRITE (R381). -/
  | partEvtCfgWrite (h : HostReq) (p : Nat) (value : Nat)
  /-- REGISTER_WRITE (R18). -/
  | registerWrite (h : HostReq) (addr : Nat) (bytes : Nat) (value : Nat)
  /-- HDM_DECODER_COMMIT (R332). -/
  | hdmDecoderCommit (h : HostReq) (bank : Bool) (ways : Nat) (size : Nat) (base : Nat)
  /-- FUNCTION_LEVEL_RESET (R341). -/
  | functionLevelReset (h : HostReq)
  /-- HOST_MEMRD_SHARED (R312). -/
  | hostMemrdShared (h : HostReq) (hpa : Nat)
  /-- HOST_MEMRD_ANY (R312). -/
  | hostMemrdAny (h : HostReq) (hpa : Nat)
  /-- HOST_MEMRD_UNCACHED (R312). -/
  | hostMemrdUncached (h : HostReq) (hpa : Nat)
  /-- HOST_MEMWR_HELD (R312). -/
  | hostMemwrHeld (h : HostReq) (hpa : Nat) (data : Nat) (mask : Nat)
  /-- HOST_MEMWR_INVALIDATING (R309). -/
  | hostMemwrInvalidating (h : HostReq) (hpa : Nat) (data : Nat) (mask : Nat)
  /-- BISNP_RESPONSE (R312). -/
  | bisnpResponse (pid : Nat) (line : Nat) (data : Option Nat)
  /-- BI_TIMEOUT (R314). -/
  | biTimeout (pid : Nat) (line : Nat)
  /-- CXL_LINK_DOWN (R329). -/
  | cxlLinkDown (port : Nat)
  /-- CXL_LINK_UP (R329). -/
  | cxlLinkUp (port : Nat) (width : Nat) (rate : Nat) (pid : Nat)
  /-- SWITCH_PORT_DOWN (R314). -/
  | switchPortDown (pid : Nat)
  /-- IDE_INTEGRITY_FAIL (R339). -/
  | ideIntegrityFail (port : Nat)
  /-- IDE_KEY_SET (R339). -/
  | ideKeySet (h : HostReq) (link : Bool)
  /-- CXL_PERST (R450). -/
  | cxlPerst (port : Nat) (low : Bool)
  /-- GET_VERSION (R340). -/
  | getVersion (h : HostReq)
  /-- GET_CAPABILITIES (R340). -/
  | getCapabilities (h : HostReq)
  /-- NEGOTIATE_ALGORITHMS (R340). -/
  | negotiateAlgorithms (h : HostReq) (offered : Bool)
  /-- GET_DIGESTS (R340). -/
  | getDigests (h : HostReq)
  /-- GET_CERTIFICATE (R340). -/
  | getCertificate (h : HostReq) (offset : Nat) (length : Nat)
  /-- CHALLENGE (R340). -/
  | challenge (h : HostReq) (nonce : List Byte)
  /-- GET_MEASUREMENTS (R426). -/
  | getMeasurements (h : HostReq) (index : Nat) (sign : Bool) (nonce : List Byte)
  /-- KEY_EXCHANGE (R340). -/
  | keyExchange (h : HostReq) (data : List Byte) (certOk : Bool)
  /-- FINISH (R340). -/
  | finish (h : HostReq) (ok : Bool)
  /-- SPDM_HEARTBEAT (R340). -/
  | spdmHeartbeat (h : HostReq)
  /-- KEY_UPDATE (R340). -/
  | keyUpdate (h : HostReq)
  /-- END_SESSION (R340). -/
  | endSession (h : HostReq)
  /-- SPDM_UNSUPPORTED (R340). -/
  | spdmUnsupported (h : HostReq)
  /-- STEP_CLOSE (R27). -/
  | stepClose (m : StepMsg) (src : Nat)
  /-- STEP_DONE (R29). -/
  | stepDone (m : StepMsg) (src : Nat)
  /-- STEP_COMMIT (R30). -/
  | stepCommit (m : StepMsg) (far : List (OpId × Nat × Nat)) (src : Nat)
  /-- HEARTBEAT (R43). -/
  | heartbeat (m : StepMsg) (src : Nat)
  /-- SUSPICION_TIMEOUT (R44). -/
  | suspicionTimeout (y : Nat)
  /-- SUSPECT (R45). -/
  | suspect (m : StepMsg) (src : Nat)
  /-- CLEAR (R44). -/
  | clear (m : StepMsg) (src : Nat)
  /-- MEMB_TIMEOUT (R45). -/
  | membTimeout (y : Nat)
  /-- QUORUM_ABANDON (R46). -/
  | quorumAbandon (y : Nat)
  /-- EXCLUDE (R45). -/
  | exclude (m : StepMsg) (src : Nat)
  /-- JOIN_REQ (R52). -/
  | joinReq (m : StepMsg) (src : Nat)
  /-- JOIN_GRANT (R52). -/
  | joinGrant (m : StepMsg) (src : Nat)
  /-- QUERY_DIST (R94). -/
  | queryDist (q : Query) (src : Nat)
  /-- ANNOUNCE (R473). -/
  | announce (id : OpId) (opcode : Nat) (src : Nat)
  /-- RELEASE (R473). -/
  | release (id : OpId) (opcode : Nat) (src : Nat)
  /-- NOTICE (R100). -/
  | notice (id : OpId) (status : Nat) (src : Nat)
  /-- CONFIRM (R100). -/
  | confirm (id : OpId) (status : Nat) (src : Nat)
  /-- ROUTING_COMPLETE (R72). -/
  | routingComplete (id : OpId) (shard : Nat) (laneFault : Option (Nat × Bool))
  /-- NBU_THRESH (R156). -/
  | nbuThresh (id : OpId) (shard : Nat) (list : Nat) (fault : ThreshFault)
  /-- NBU_GATHER (R153). -/
  | nbuGather (id : OpId) (bag : Nat) (row : Nat) (fault : Option (Nat × Bool))
  /-- NBU_APPLY (R152). -/
  | nbuApply (table : Nat) (row : Nat) (step : Nat)
  /-- NBU_COPY (R161). -/
  | nbuCopy (info : LoadInfo) (row : Nat) (e : List Int)
  /-- CHAIN_STOOK_DELIVERY (R115). -/
  | chainStookDelivery (id : OpId) (shard : Nat) (list : Nat) (winFault : Option Nat)
  /-- FALLBACK_PASS_DONE (R164). -/
  | fallbackPassDone (id : OpId) (shard : Nat) (list : Nat) (bank : Nat) (ok : Bool)
  /-- GLEAN_RECORD_ARRIVAL (R99). -/
  | gleanRecordArrival (id : OpId) (shard : Nat) (slot : Nat) (gsrc : GleanSrc) (unitFault : Option (Nat × Bool))
  /-- TRANSIT (R119). -/
  | transit (id : OpId) (src : Nat) (sh : Sheaf) (crcOk : Bool) (winFault : Option Nat)
  /-- SHEAF_FLUSH_READ_DONE (R100). -/
  | sheafFlushReadDone (id : OpId)
  /-- STOOK (R157). -/
  | stook (id : OpId) (shard : Nat) (list : Nat) (entries : Option (List (Nat × Nat × Nat)))
  /-- STOOK_REQ (R157). -/
  | stookReq (id : OpId) (shard : Nat) (list : Nat) (floor : Option (Nat × Nat)) (src : Nat) (q : Query) (failed : Bool)
  /-- STAGE (R138). -/
  | stage (g : Staging) (src : Nat) (again : Option (Nat × Bool))
  /-- DIGEST (R139). -/
  | digest (id : OpId) (digest : Digest) (src : Nat) (again : Option (Nat × Bool))
  /-- STAGE_ACK (R137): of a record that was forwarded, with how often (R292). -/
  | stageAck (id : OpId) (fwd src : Nat)
  /-- OUTCOME (R144). -/
  | outcome (id : OpId) (o : MutOutcome) (src : Nat)
  /-- CREDIT (R137). -/
  | credit (src : Nat) (units : Int)
  /-- GRAD_STAGE (R284). -/
  | gradStage (rec : GradRec) (src : Nat)
  /-- ENTRIES (R279). -/
  | entries (id : OpId) (table : Nat) (entries : List (Nat × Nat × Int)) (fwd : Bool) (src : Nat)
  /-- PARTIALS (R279). -/
  | partials (id : OpId) (sums : List (Nat × List Int)) (fwd : Nat) (onto : List Nat) (bad : Nat) (src : Nat)
  /-- LOAD_REPORT (R291). -/
  | loadReport (step : Nat) (table : Nat) (load : Nat) (src : Nat)
  /-- DIRECTORY (R292). -/
  | directory (entry : Override) (src : Nat)
  /-- ROW_MOVE (R292). -/
  | rowMove (table : Nat) (row : Nat) (step : Nat) (data : Row) (src : Nat)
  /-- ROW_DIGEST (R287). -/
  | rowDigest (table : Nat) (row : Nat) (step : Nat) (digest : Digest) (src : Nat)
  /-- RDS (R311). -/
  | rds (line : Nat) (src : Nat)
  /-- RDO (R311). -/
  | rdo (line : Nat) (src : Nat)
  /-- UPG (R311). -/
  | upg (line : Nat) (src : Nat)
  /-- WBM (R311). -/
  | wbm (line : Nat) (data : Nat) (src : Nat)
  /-- EVS (R311). -/
  | evs (line : Nat) (src : Nat)
  /-- INV_WRITE (R309). -/
  | invWrite (line : Nat) (data : Nat) (mask : Nat) (tag : Nat) (src : Nat)
  /-- CAS (R320). -/
  | cas (id : OpId) (region : Nat) (expect : Nat) (base : Nat) (pid : Nat) (src : Nat)
  /-- SNPDATA (R312). -/
  | snpdata (line : Nat) (fwd : Option Nat) (src : Nat)
  /-- SNPINV (R312). -/
  | snpinv (line : Nat) (fwd : Option Nat) (src : Nat)
  /-- COH_RSP_DATA (R311). -/
  | cohRspData (line : Nat) (st : LineSt) (data : Option Nat) (src : Nat)
  /-- GRANT (R311). -/
  | grant (line : Nat) (src : Nat)
  /-- SNP_RSP (R311). -/
  | snpRsp (line : Nat) (data : Option Nat) (sent : Bool) (src : Nat)
  /-- CAS_RSP (R320). -/
  | casRsp (id : OpId) (ok : Bool) (version : Nat) (pubStep : Nat) (src : Nat)
  /-- COH_DONE (R310). -/
  | cohDone (line : Nat) (tag : Nat) (src : Nat)
  /-- HOLD_EXPIRY (R308). -/
  | holdExpiry (line : Nat)
  /-- GRANULE_FILL_DONE (R300). -/
  | granuleFillDone (granule : Nat) (lost : List Nat)
  /-- WRITEBACK_TIMER (R300). -/
  | writebackTimer (granule : Nat)
  /-- PUBLISH_SEAL_DONE (R320). -/
  | publishSealDone (id : OpId) (prevRelease : Nat)
  /-- LOST_LOG (R316). -/
  | lostLog (entries : List LostEntry) (src : Nat)
  /-- RESET (R341). -/
  | reset (pid : Nat) (step : Nat) (src : Nat)
  /-- RESET_CONFIRM (R341). -/
  | resetConfirm (pid : Nat) (step : Nat) (src : Nat)
  /-- ACT_RECORD (R232). -/
  | actRecord (r : ChainRec) (src : Nat)
  /-- ACTIVATION (R251). -/
  | activation (r : ChainRec) (data : List Byte) (last : Bool) (src : Nat)
  /-- ACT_OUTPUT (R232). -/
  | actOutput (id : OpId) (pos : Nat) (status : Nat) (out : List Byte) (sat : Nat) (quant : Nat) (nan : Bool) (grads : List (List Byte)) (src : Nat)
  /-- BULK_RECORD_READ (R99). -/
  | bulkRecordRead (coll : Nat) (shard : Nat) (slot : Nat) (src : Nat)
  /-- BULK_RECORD_REPLY (R99). -/
  | bulkRecordReply (coll : Nat) (shard : Nat) (slot : Nat) (ok : Bool)
  /-- INDEX_PAGE (R209). -/
  | indexPage (coll : Nat) (shard : Nat) (lpage : Nat) (ok : Bool)
  /-- FILTER_BITS (R182). -/
  | filterBits (coll : Nat) (shard : Nat) (list : Nat) (fslot : Nat) (ok : Bool)
  /-- CHUNKS (R181). -/
  | chunks (chan : Nat) (priv : Nat) (coded : Nat) (reb : Nat)
  /-- WEIGHTS (R209). -/
  | weights (model : Nat) (lpage : Nat) (ok : Bool)
  /-- E2E_ACK (R360). -/
  | e2eAck (src : Nat) (cls : Nat) (route : Nat) (seq : Nat)
  /-- E2E_NAK (R360). -/
  | e2eNak (src : Nat) (cls : Nat) (route : Nat) (seq : Nat)
  /-- FLIT_DATA (R351). -/
  | flitData (link : Nat) (raw : List Byte) (fec : Option Nat)
  /-- FLIT_NAK (R351). -/
  | flitNak (link : Nat) (raw : List Byte) (fec : Option Nat)
  /-- FLIT_INIT (R354). -/
  | flitInit (link : Nat) (raw : List Byte) (fec : Option Nat)
  /-- FLIT_IDLE (R350). -/
  | flitIdle (link : Nat) (raw : List Byte) (fec : Option Nat)
  /-- REPLAY_TIMEOUT (R351). -/
  | replayTimeout (link : Nat)
  /-- FAST_RETRAIN_START (R352). -/
  | fastRetrainStart (link : Nat)
  /-- FAST_RETRAIN_DONE (R352). -/
  | fastRetrainDone (link : Nat)
  /-- LINK_TRAINING_DONE (R349). -/
  | linkTrainingDone (link : Nat) (lanes : Nat)
  /-- FREEZE_PATTERN_RX (R353). -/
  | freezePatternRx (link : Nat)
  /-- ENC_RECORD_DISPATCH (R225). -/
  | encRecordDispatch (mem : List (Nat × List Byte)) (remote : List (Nat × List Int)) (lost : Bool)
  /-- LOFT_FILL_DONE (R230). -/
  | loftFillDone (model : Nat) (half : Nat) (layer : Nat)
  /-- STREAM_TRANSFER_DONE (R249). -/
  | streamTransferDone (core : Nat) (n : Nat)
  /-- FIRST_PASS_DONE (R270). -/
  | firstPassDone (model : Nat) (src : PassSrc)
  /-- LI (R243). -/
  | li (core : Nat)
  /-- ADD (R243). -/
  | add (core : Nat)
  /-- ADDI (R243). -/
  | addi (core : Nat)
  /-- SUB (R243). -/
  | sub (core : Nat)
  /-- MUL (R243). -/
  | mul (core : Nat)
  /-- AND (R243). -/
  | and (core : Nat)
  /-- OR (R243). -/
  | or (core : Nat)
  /-- XOR (R243). -/
  | xor (core : Nat)
  /-- SHL (R243). -/
  | shl (core : Nat)
  /-- SHR (R243). -/
  | shr (core : Nat)
  /-- SRA (R243). -/
  | sra (core : Nat)
  /-- SLT (R243). -/
  | slt (core : Nat)
  /-- SLTU (R243). -/
  | sltu (core : Nat)
  /-- MIN (R243). -/
  | min (core : Nat)
  /-- MAX (R243). -/
  | max (core : Nat)
  /-- MFS (R240). -/
  | mfs (core : Nat)
  /-- FADD (R243). -/
  | fadd (core : Nat)
  /-- FMUL (R243). -/
  | fmul (core : Nat)
  /-- FDIV (R243). -/
  | fdiv (core : Nat)
  /-- ITOF (R243). -/
  | itof (core : Nat)
  /-- FTOI (R243). -/
  | ftoi (core : Nat)
  /-- QPAR (R254). -/
  | qpar (core : Nat)
  /-- QSTAT (R254). -/
  | qstat (core : Nat)
  /-- VADD (R244). -/
  | vadd (core : Nat)
  /-- VSUB (R244). -/
  | vsub (core : Nat)
  /-- VMUL (R244). -/
  | vmul (core : Nat)
  /-- VFMA (R244). -/
  | vfma (core : Nat)
  /-- VMAX (R244). -/
  | vmax (core : Nat)
  /-- VMIN (R244). -/
  | vmin (core : Nat)
  /-- VEXP (R241). -/
  | vexp (core : Nat)
  /-- VRCP (R241). -/
  | vrcp (core : Nat)
  /-- VRSQRT (R241). -/
  | vrsqrt (core : Nat)
  /-- VSPLAT (R244). -/
  | vsplat (core : Nat)
  /-- VCMP (R244). -/
  | vcmp (core : Nat)
  /-- VSEL (R244). -/
  | vsel (core : Nat)
  /-- VCVT (R244). -/
  | vcvt (core : Nat)
  /-- VRSUM (R242). -/
  | vrsum (core : Nat)
  /-- VRMAX (R242). -/
  | vrmax (core : Nat)
  /-- VRMIN (R242). -/
  | vrmin (core : Nat)
  /-- VTRD (R244). -/
  | vtrd (core : Nat) (residueOk : Bool)
  /-- VTWR (R244). -/
  | vtwr (core : Nat)
  /-- QMM (R254). -/
  | qmm (core : Nat)
  /-- QCVT (R254). -/
  | qcvt (core : Nat)
  /-- QDQ (R255). -/
  | qdq (core : Nat)
  /-- MMA (R246). -/
  | mma (core : Nat)
  /-- TCLR (R246). -/
  | tclr (core : Nat)
  /-- TST (R246). -/
  | tst (core : Nat) (residueOk : Bool)
  /-- VLD (R247). -/
  | vld (core : Nat)
  /-- VST (R247). -/
  | vst (core : Nat)
  /-- SLD (R247). -/
  | sld (core : Nat)
  /-- SST (R247). -/
  | sst (core : Nat)
  /-- INCPY (R247). -/
  | incpy (core : Nat)
  /-- OUTCPY (R260). -/
  | outcpy (core : Nat)
  /-- EMB (R280). -/
  | emb (core : Nat)
  /-- WOPEN (R248). -/
  | wopen (core : Nat)
  /-- WCLOSE (R248). -/
  | wclose (core : Nat)
  /-- XCH (R250). -/
  | xch (core : Nat)
  /-- ACTO (R251). -/
  | acto (core : Nat)
  /-- ACTI (R251). -/
  | acti (core : Nat)
  /-- GRAD (R282). -/
  | grad (core : Nat)
  /-- SCRZ (R247). -/
  | scrz (core : Nat)
  /-- BR (R252). -/
  | br (core : Nat)
  /-- JMP (R252). -/
  | jmp (core : Nat)
  /-- LOOP (R252). -/
  | loop (core : Nat)
  /-- HALT (R253). -/
  | halt (core : Nat)
  /-- BAR (R250). -/
  | bar (core : Nat)
  /-- RXWIN (R250). -/
  | rxwin (core : Nat)
  /-- TRAP (R252). -/
  | trap (core : Nat)
  /-- NOP (R238). -/
  | nop (core : Nat)
  /-- FLASH_READ_DONE (R207). -/
  | flashReadDone (lpage : Nat) (retries : Nat) (soft : Bool) (ok : Bool)
  /-- FLASH_PROGRAM_DONE (R200). -/
  | flashProgramDone (stream : Nat) (at_ : FlashPage) (units : List FlashUnit) (ok : Bool)
  /-- SUPERBLOCK_VERIFY (R200). -/
  | superblockVerify (stream : Nat) (bad : Nat)
  /-- FLASH_ERASE_DONE (R201). -/
  | flashEraseDone (block : Nat) (ok : Bool)
  /-- GC_TRIGGER (R201). -/
  | gcTrigger (lun : Nat)
  /-- LUN_TEMP_SAMPLE (R206). -/
  | lunTempSample (lun : Nat) (temp : Nat)
  /-- HOT_BAND_EXIT (R173). -/
  | hotBandExit (stack : Nat)
  /-- GRAPH_REBUILD_DONE (R74). -/
  | graphRebuildDone (coll : Nat) (shard : Nat) (edges : List (Nat × List Nat)) (entry : List Nat)
  /-- UPKEEP_BUILD_DONE (R147). -/
  | upkeepBuildDone (coll : Nat) (shard : Nat) (list : Nat)
  /-- FILTER_PLACEMENT_DONE (R76). -/
  | filterPlacementDone (coll : Nat) (shard : Nat) (fslot : Nat) (bitmap : List Byte) (status : Nat)
  /-- ROLLING_TEST (R393). -/
  | rollingTest (cls : UnitClass) (unit : Nat) (ok : Bool) (last : Bool)
  /-- WATCHDOG_EXPIRY (R389). -/
  | watchdogExpiry (cls : UnitClass) (unit : Nat) (waited : Nat) (outside : Bool) (ops : List OpId)
  /-- INVALID_CODEWORD (R15). -/
  | invalidCodeword (cls : UnitClass) (unit : Nat) (ops : List OpId)
  /-- SAFETY_REACTION (R391). -/
  | safetyReaction (mech : Nat) (cls : UnitClass) (unit : Nat) (reaction : Nat) (ops : List OpId) (detail : Nat)
  /-- DBG_READ (R403). -/
  | dbgRead (addr : Nat)
  /-- EXTEST (R455). -/
  | extest (value : Nat)
  /-- SAMPLE_PRELOAD (R455). -/
  | samplePreload (value : Nat)
  /-- RESET_N_RISE (R447). -/
  | resetNRise (compatG1 : Bool) (cfgSel : Bool)
  /-- POWER_LIMITER_SAMPLE (R439). -/
  | powerLimiterSample (avgW : Nat) (vin : Nat)
  /-- DIE_THERMAL_READING (R442). -/
  | dieThermalReading (temp : Nat)
  /-- I3C_ENTDAA (R454). -/
  | i3cEntdaa (addr : Nat)
  /-- PUF_DERIVE_DONE (R414). -/
  | pufDeriveDone (flipped : Nat) (ok : Bool)
  /-- IMAGE_VERIFY_DONE (R413). -/
  | imageVerifyDone (device : Nat) (r : ImgRead)
  /-- STACK_TRAINING_DONE (R186). -/
  | stackTrainingDone (failed : List Nat) (vias : List (Nat × Nat)) (rows : List (Nat × Nat × Nat))
  /-- FLASH_INIT_DONE (R191). -/
  | flashInitDone (luns : List Nat) (chans : List (Nat × Nat × Nat)) (offline : List (Option Nat))
  /-- MAP_REPLAY_DONE (R204). -/
  | mapReplayDone (mem : List (Nat × List Byte))
  /-- CATCH_UP_DONE (R431). -/
  | catchUpDone (c : CatchUp) (log : List (List Byte)) (mem : List (Nat × List Byte))
  /-- AMEND_WRITE (R419). -/
  | amendWrite (raw : List Byte) (slot : StageSlot)
  /-- AMEND_MODEL_LOAD (R422). -/
  | amendModelLoad (raw : List Byte) (slot : StageSlot)
  /-- AMEND_IMAGE_STORE (R423). -/
  | amendImageStore (raw : List Byte) (slot : StageSlot) (stored : Option Image)
  /-- AMEND_LINK_TRAIN (R352). -/
  | amendLinkTrain (raw : List Byte) (slot : StageSlot)
  /-- AMEND_TALLY_CLEAR (R400). -/
  | amendTallyClear (raw : List Byte) (slot : StageSlot)
  /-- AMEND_LOG_APPEND (R420). -/
  | amendLogAppend (raw : List Byte) (prog : Option (Bool × Bool)) (mem : List (Nat × List Byte)) (src : Nat)
  /-- AMEND_APPEND_ACK (R420). -/
  | amendAppendAck (seq : Nat) (bad : Bool) (done : Option StageDone) (src : Nat)
  /-- SPAN_ZEROING_DONE (R305). -/
  | spanZeroingDone (range : Nat)
  /-- TABLE_LOAD_FINISHED (R290). -/
  | tableLoadFinished (info : LoadInfo)
  /-- STACK_THERMAL_READING (R187). -/
  | stackThermalReading (stack : Nat) (dies : List Nat)
  /-- SCRUB_DUE (R172). -/
  | scrubDue (a : ChunkAddr) (burst : List Byte) (cls : Nat) (redo : Option Bool)
  /-- REFRESH_DUE (R173). -/
  | refreshDue (bank : Nat) (time : Nat) (busy : Bool)
  /-- SCAN_GOVERNOR_TICK (R162). -/
  | scanGovernorTick (stack : Nat) (demand : Nat)
  /-- STACK_TIMER_CROSSCHECK (R173). -/
  | stackTimerCrosscheck (stack : Nat) (periods : Nat) (ticks : Nat)
  /-- VIA_REMAP (R171). -/
  | viaRemap (chan : Nat) (via : Nat)
  /-- ROW_REPAIR (R185). -/
  | rowRepair (chan : Nat) (bank : Nat) (row : Nat)
  /-- CHANNEL_FAIL (R179). -/
  | channelFail (chan : Nat) (cause : ChanCause)
  /-- CHANNEL_REBUILD_DONE (R182). -/
  | channelRebuildDone (chan : Nat)
  /-- NBU_TEST (R393). -/
  | nbuTest (bank : Nat) (ok : Bool)
  /-- ROOT_SEND_COMMIT (R30). -/
  | rootSendCommit (far : List (OpId × Nat × Nat))
  /-- MALFORMED_UNIT (R87). -/
  | malformedUnit
  /-- QUERY (R94). -/
  | query
  /-- FILTER_LOAD (R76). -/
  | filterLoad
  /-- FILTER_RETIRE (R79). -/
  | filterRetire
  /-- INSERT (R140). -/
  | insert
  /-- DELETE (R140). -/
  | delete
  /-- REPLACE (R140). -/
  | replace
  /-- RECORD_READ (R142). -/
  | recordRead
  /-- EMB_TABLE_LOAD (R290). -/
  | embTableLoad
  /-- EMB_TABLE_SAVE (R290). -/
  | embTableSave
  /-- ENC_RUN (R221). -/
  | encRun
  /-- SHM_PUBLISH (R320). -/
  | shmPublish
  /-- SHM_FLUSH (R302). -/
  | shmFlush
  /-- SHM_STAGE_RESET (R315). -/
  | shmStageReset
  /-- ADMISSION_WINDOW_EXPIRY (R28). -/
  | admissionWindowExpiry
  /-- SEND_STEP_DONE (R29). -/
  | sendStepDone
  /-- STEP_WAIT_TIMEOUT (R56). -/
  | stepWaitTimeout
  /-- HEARTBEAT_TIMER (R43). -/
  | heartbeatTimer
  /-- ISOLATION_TIMEOUT (R48). -/
  | isolationTimeout
  /-- JOIN_RETRY_TIMEOUT (R52). -/
  | joinRetryTimeout
  /-- FORMATION_WAIT_EXPIRY (R430). -/
  | formationWaitExpiry
  /-- E2E_ACK_TIMER (R360). -/
  | e2eAckTimer
  /-- CREDIT_REFILL_TICK (R375). -/
  | creditRefillTick
  /-- GATE_ENTRY_EXPIRY (R377). -/
  | gateEntryExpiry
  /-- CHECKPOINT_TIMER (R203). -/
  | checkpointTimer
  /-- AGE_TICK (R206). -/
  | ageTick
  /-- LOCKSTEP_MISMATCH (R397). -/
  | lockstepMismatch
  /-- FAULT_N_RELEASE (R392). -/
  | faultNRelease
  /-- FREEZE_N_FALL (R402). -/
  | freezeNFall
  /-- FREEZE_N_RISE (R404). -/
  | freezeNRise
  /-- FREEZE (R402). -/
  | freeze
  /-- RESUME (R404). -/
  | resume
  /-- DBG_STATUS (R405). -/
  | dbgStatus
  /-- IDCODE (R405). -/
  | idcode
  /-- BYPASS (R405). -/
  | bypass
  /-- PWR_OK_RISE (R443). -/
  | pwrOkRise
  /-- PWR_OK_FALL (R445). -/
  | pwrOkFall
  /-- RESET_N_FALL (R446). -/
  | resetNFall
  /-- PWR_FAIL_N_FALL (R216). -/
  | pwrFailNFall
  /-- PWR_FAIL_N_RISE (R443). -/
  | pwrFailNRise
  /-- FLUSH_DONE (R216). -/
  | flushDone
  /-- UNDERVOLTAGE (R445). -/
  | undervoltage
  /-- RAILS_OFF (R445). -/
  | railsOff
  /-- I3C_READ (R454). -/
  | i3cRead
  /-- RAILS_GOOD (R443). -/
  | railsGood
  deriving DecidableEq, Repr

end Sys2Proof
end

