-- ==== Sys2Proof/Decode.lean ====
section
/-! DEFINITION. Commands that a word spells. The node has no instruction memory and takes its commands from outside, and
no row of the command table gives bits, so no word spells a command. -/

namespace Sys2Proof

/-- The command that a word of nbits bits spells by the command table's bits: none, since no row gives any. -/
def decodeTableWord (_nbits _w : Nat) : Option Instr := none

end Sys2Proof
end

