-- ==== Sys2Proof/Machine/Bits.lean ====
section
/-! DEFINITION. Byte order, fields of byte strings, and the CRC-32C that closes every structure the node
reads or writes (R86, R101). Multi-byte fields are little-endian (R5). -/

namespace Sys2Proof

/-- The natural number of n little-endian bytes from offset o of a byte string; bytes past the end read 0. -/
def leNat (b : List Byte) (o : Nat) : Nat → Nat
  | 0 => 0
  | n + 1 => ((b.drop o).headD 0).toNat + 256 * leNat b (o + 1) n

/-- The n little-endian bytes of a natural number. -/
def natLe : Nat → Nat → List Byte
  | 0, _ => []
  | n + 1, v => BitVec.ofNat 8 v :: natLe n (v / 256)

/-- One bit of a natural number. -/
def bit (v i : Nat) : Bool := v.testBit i

/-- Bits [lo + w - 1 : lo] of a natural number. -/
def bits (v lo w : Nat) : Nat := v / 2 ^ lo % 2 ^ w

/-- A Bool as the bit a register shows. -/
def b2n (b : Bool) : Nat := if b then 1 else 0

/-- The signed value of the low w bits. -/
def sext (w v : Nat) : Int := (BitVec.ofNat w v).toInt

/-- The w-bit two's complement form of an integer. -/
def untoInt (w : Nat) (i : Int) : Nat := (BitVec.ofInt w i).toNat

/-- Eight shifts of the reflected CRC-32C register (polynomial 0x1EDC6F41, reflected 0x82F63B78). -/
def crcShift : Nat → BitVec 32 → BitVec 32
  | 0, c => c
  | n + 1, c => crcShift n (if c.getLsbD 0 then (c >>> 1) ^^^ 0x82F63B78#32 else c >>> 1)

/-- The CRC register after one byte. -/
def crcByte (c : BitVec 32) (b : Byte) : BitVec 32 := crcShift 8 (c ^^^ b.setWidth 32)

/-- CRC-32C of a byte string: initial value and final inversion all ones (assumption 4, PRESUMED). -/
def crc32c (b : List Byte) : BitVec 32 := ~~~ (b.foldl crcByte 0xFFFFFFFF#32)

/-- The byte string with its n bytes from offset o replaced by zeros. -/
def zeroAt (b : List Byte) (o n : Nat) : List Byte :=
  b.take o ++ List.replicate (min n (b.length - o)) 0 ++ b.drop (o + n)

/-- The byte string with d written from offset o. -/
def spliceAt (b : List Byte) (o : Nat) (d : List Byte) : List Byte :=
  b.take o ++ d ++ b.drop (o + d.length)

/-- CRC-32C of a structure whose CRC field is the 4 bytes at offset o, taken as zero (R86). -/
def crcWithout (b : List Byte) (o : Nat) : Nat := (crc32c (zeroAt b o 4)).toNat

/-- Whether a structure's CRC field at offset o is right. -/
def crcOk (b : List Byte) (o : Nat) : Bool := decide (leNat b o 4 = crcWithout b o)

/-- The structure with its CRC field at offset o filled in. -/
def sealCrc (b : List Byte) (o : Nat) : List Byte := spliceAt b o (natLe 4 (crcWithout b o))

/-- Rounding up division. -/
def cdiv (a b : Nat) : Nat := (a + b - 1) / b

end Sys2Proof
end

