-- ==== Sys2Proof/Config.lean ====
section
/-! DEFINITION. What the silicon and the environment fix and the spec does not define: algorithms that
the spec names by an outside standard, and the free values. Every one is a constant with no body, so no
proof can see what it is. -/

namespace Sys2Proof.Config

/-- DBG_IDCODE.VERSION, "Silicon" (R408). -/
opaque dieVersion : BitVec 4

/-- DBG_IDCODE.MAKER, "Silicon" (R408). -/
opaque dieMaker : BitVec 11

/-- The SM3 digest of a byte string, named and not defined by the spec (R139, R413, R420). -/
opaque sm3 : List Byte → Digest

/-- Whether an SM2 signature over a byte string verifies under the public key with this digest
(R413, R417); named and not defined by the spec. -/
opaque sm2Verify : Digest → List Byte → List Byte → Bool

/-- The node's SM2 signature with the PUF-derived identity key (R340, R427). -/
opaque sm2Sign : List Byte → List Byte

/-- The identity key's public half as SEC_ID_PUB shows it, derived from the PUF response (R414). -/
opaque idPub : BitVec 512

/-- SM4 in XTS mode: the plaintext of bytes that lie at an offset from WEIGHTS_ADDR, under a model's keys (R272); named and
not defined by the spec. -/
opaque sm4Xts : List Byte → Nat → List Byte → List Byte

/-- The keys that a load record wraps to the node's identity key (R272). -/
opaque unwrapKeys : List Byte → List Byte

/-- A free value: what the spec leaves undefined, the n-th one drawn (assumption 2). -/
opaque freeValue : Nat → Nat

/-- SM3 of the code of the configuration, security and safety controllers (R426, block 1). -/
opaque codeDigest : Digest

/-- The chain digest that another node reports for a shard of a collection, or for a table, of which this node holds no
copy (R427): by collection, or 2^32 plus the table number, shard, and step (assumption 31). -/
opaque farChain : Nat → Nat → Nat → Digest

/-- The latest commit step below a step that changed that chain (R427), likewise (assumption 31). -/
opaque farChange : Nat → Nat → Nat → Nat

/-- What stands in the configuration shadow and in DRAM for a collection or table that an amendment creates, at the
addresses its entry names; the manual does not say how it comes there (R57, R274, assumption 39): the shard map and the
projection and offsets of a collection, the centroid of each of a shard's initial lists, the out-edges of its graph and
its entry centroids, the placement of its lists' planes and their capacity, and a table's node-set list. -/
opaque shadowMap : Nat → List (Nat × Nat)
/-- See shadowMap. -/
opaque shadowProj : Nat → List (List Int)
/-- See shadowMap. -/
opaque shadowOffs : Nat → List Int
/-- See shadowMap: by CENT_ADDR, shard and list index. -/
opaque shadowCent : Nat → Nat → Nat → List Int
/-- See shadowMap: by GRAPH_ADDR, shard and list index. -/
opaque shadowEdges : Nat → Nat → Nat → List Nat
/-- See shadowMap: by GRAPH_ADDR and shard. -/
opaque shadowEntry : Nat → Nat → List Nat
/-- See shadowMap: by CENT_ADDR, shard and list index: channel, first bank, banks, row; and entries. -/
opaque shadowPlace : Nat → Nat → Nat → (Nat × Nat × Nat × Nat) × Nat
/-- See shadowMap. -/
opaque shadowNodes : Nat → List Nat

/-- The bodies of LINK_TRAIN, TALLY_CLEAR and IMAGE_STORE records, whose layout the manual does not give (R416, R423,
assumption 40): the link named; the tally indices listed; the device, the byte offset in its image area, the LAST flag
and the data. -/
opaque linkBody : List Byte → Nat
/-- See linkBody. -/
opaque tallyBody : List Byte → List Nat
/-- See linkBody. -/
opaque storeBody : List Byte → Nat × Nat × Bool × List Byte

/-- Bytes of an erase sector of the configuration devices, as their SFDP tables declare them (R409, R423). -/
opaque norSector : Nat

end Sys2Proof.Config
end

