-- ==== Sys2Proof/Machine/Regs.lean ====
section
/-! DEFINITION. The control window's register fields, one definition per field, at the offsets, widths,
defaults and access codes of the spec's register tables (R56, R85, R108, R167, R189, R218, R235, R295,
R324, R345, R346, R366, R384, R385, R406, R407, R408, R434, R435, R458, R463, and the map R461), and the
map of every register that REGISTER_WRITE and the debug read consult. A field whose table gives no
default that the part holds before the image (Default "Image", "Strap", "—") has default 0 here. -/

namespace Sys2Proof

/-- The access codes of R7. -/
inductive Acc where
  | ro | rw | wo | w1c | img | saf | ctr
  deriving DecidableEq, Repr

/-- One register field: the bit address of its least significant bit in the control window (byte
offset times 8, plus the bit), its width in bits, its default and its access code.
A field that a node-wide register shows per reading partition has one copy for each partition,
2^32 bit addresses apart (assumption 3). -/
structure Fld where
  bit : Nat
  w : Nat
  dflt : Nat
  acc : Acc
  deriving DecidableEq, Repr

/-- One register or table entry of the map: byte offset of the first, its index dimensions as
(stride, count), its size in bytes, its fields at an index (for reading partition p), and its reserved bit ranges (R6). -/
structure RegDesc where
  off : Nat
  dims : List (Nat × Nat)
  bytes : Nat
  fields : Nat → Nat → Nat → List Fld
  rsvd : List (Nat × Nat)

namespace Reg

/-- Default receive buffers of each Ovane class (OVL_CLASS, R366). -/
def ovlClassBuffers (c : Nat) : Nat :=
  ([64, 512, 1024, 512, 512, 256, 256, 512, 256, 128, 64] : List Nat).getD c 0

/-! ### Registers of spec/02_steps_and_visibility.md -/
def STEP_OPEN : Fld := ⟨8 * 0x100000, 64, 0, .ro⟩
def STEP_EXEC : Fld := ⟨8 * 0x100008, 64, 0, .ro⟩
def STEP_COMMITTED : Fld := ⟨8 * 0x100010, 64, 0, .ro⟩
def STEP_OLDEST : Fld := ⟨8 * 0x100018, 64, 0, .ro⟩
def STEP_WINDOW : Fld := ⟨8 * 0x100020, 18, 5000, .img⟩
def STEP_MEMB_CFG : Fld := ⟨8 * 0x100024, 21, 125000, .img⟩
def STEP_ROLE_IS_ROOT : Fld := ⟨8 * 0x100028 + 28, 1, 0, .ro⟩
def STEP_ROLE_ROOT_ID : Fld := ⟨8 * 0x100028 + 16, 12, 0, .ro⟩
def STEP_ROLE_NODE_ID : Fld := ⟨8 * 0x100028, 12, 0, .ro⟩
def STEP_EPOCH : Fld := ⟨8 * 0x10002c, 32, 0, .ro⟩
def STEP_STATUS_NO_ROOT : Fld := ⟨8 * 0x100030 + 8, 1, 0, .ro⟩
def STEP_STATUS_EXCLUDE_EVT : Fld := ⟨8 * 0x100030 + 7, 1, 0, .w1c⟩
def STEP_STATUS_JOIN_EVT : Fld := ⟨8 * 0x100030 + 6, 1, 0, .w1c⟩
def STEP_STATUS_SELF_ISOLATED : Fld := ⟨8 * 0x100030 + 5, 1, 0, .ro⟩
def STEP_STATUS_RECOVERING : Fld := ⟨8 * 0x100030 + 4, 1, 0, .ro⟩
def STEP_STATUS_STALL_PDS : Fld := ⟨8 * 0x100030 + 3, 1, 0, .ro⟩
def STEP_STATUS_STALL_MEMB : Fld := ⟨8 * 0x100030 + 2, 1, 0, .ro⟩
def STEP_STATUS_STALL_HORIZON : Fld := ⟨8 * 0x100030 + 1, 1, 0, .ro⟩
def STEP_STATUS_STALL_WAIT : Fld := ⟨8 * 0x100030, 1, 0, .ro⟩
def STEP_PDS : Fld := ⟨8 * 0x100034, 21, 0, .ro⟩
def STEP_ROOTS_CAND3 : Fld := ⟨8 * 0x100038 + 48, 12, 4095, .img⟩
def STEP_ROOTS_CAND2 : Fld := ⟨8 * 0x100038 + 32, 12, 4095, .img⟩
def STEP_ROOTS_CAND1 : Fld := ⟨8 * 0x100038 + 16, 12, 4095, .img⟩
def STEP_ROOTS_CAND0 : Fld := ⟨8 * 0x100038, 12, 0, .img⟩
def STEP_MEMBERS : Fld := ⟨8 * 0x100200, 4096, 0, .ro⟩
def STEP_SUSPECTS : Fld := ⟨8 * 0x100400, 4096, 0, .ro⟩

/-! ### Registers of spec/03_collections_and_index.md -/
def COLL_CAPS_MAX_DEGREE : Fld := ⟨8 * 0x1000000 + 56, 8, 32, .ro⟩
def COLL_CAPS_MAX_FILTERS : Fld := ⟨8 * 0x1000000 + 48, 8, 16, .ro⟩
def COLL_CAPS_BRUTE_MAX : Fld := ⟨8 * 0x1000000 + 16, 19, 262144, .ro⟩
def COLL_CAPS_MAX_COLL : Fld := ⟨8 * 0x1000000, 13, 4096, .ro⟩
def COLL_ACTIVE (p : Nat) : Fld := ⟨8 * 0x1000008 + 0x100000000 * p, 13, 0, .ro⟩
def COLL_STATUS_UPKEEP_STALL (p : Nat) : Fld := ⟨8 * 0x100000c + 4 + 0x100000000 * p, 1, 0, .ro⟩
def COLL_STATUS_FILTER_READY_EVT (p : Nat) : Fld := ⟨8 * 0x100000c + 3 + 0x100000000 * p, 1, 0, .w1c⟩
def COLL_STATUS_REBUILD_EVT (p : Nat) : Fld := ⟨8 * 0x100000c + 2 + 0x100000000 * p, 1, 0, .w1c⟩
def COLL_STATUS_MERGE_EVT (p : Nat) : Fld := ⟨8 * 0x100000c + 1 + 0x100000000 * p, 1, 0, .w1c⟩
def COLL_STATUS_SPLIT_EVT (p : Nat) : Fld := ⟨8 * 0x100000c + 0x100000000 * p, 1, 0, .w1c⟩
def COLL_RUN_ENTRIES (h : Nat) : Fld := ⟨8 * (0x1040000 + 0x20 * h), 64, 0, .ro⟩
def COLL_RUN_LISTS_LIVE (h : Nat) : Fld := ⟨8 * (0x1040000 + 0x20 * h) + 64, 32, 0, .ro⟩
def COLL_RUN_TOMBSTONES (h : Nat) : Fld := ⟨8 * (0x1040000 + 0x20 * h) + 96, 32, 0, .ro⟩
def COLL_RUN_GRAPH_GEN (h : Nat) : Fld := ⟨8 * (0x1040000 + 0x20 * h) + 128, 32, 0, .ro⟩
def COLL_RUN_FILTER_LIVE (h : Nat) : Fld := ⟨8 * (0x1040000 + 0x20 * h) + 160, 16, 0, .ro⟩
def COLL_RUN_FILTER_LOADING (h : Nat) : Fld := ⟨8 * (0x1040000 + 0x20 * h) + 176, 16, 0, .ro⟩
def COLL_RUN_STATE (h : Nat) : Fld := ⟨8 * (0x1040000 + 0x20 * h) + 192, 8, 0, .ro⟩
def COLL_RUN_HELD (h : Nat) : Fld := ⟨8 * (0x1040000 + 0x20 * h) + 200, 8, 0, .ro⟩
def COLL_DESC_HANDLE (h : Nat) : Fld := ⟨8 * (0x1080000 + 0x80 * h), 12, 0, .img⟩
def COLL_DESC_PARTITION (h : Nat) : Fld := ⟨8 * (0x1080000 + 0x80 * h) + 16, 8, 0, .img⟩
def COLL_DESC_STATE (h : Nat) : Fld := ⟨8 * (0x1080000 + 0x80 * h) + 24, 8, 0, .img⟩
def COLL_DESC_METRIC (h : Nat) : Fld := ⟨8 * (0x1080000 + 0x80 * h) + 32, 8, 0, .img⟩
def COLL_DESC_ELEM (h : Nat) : Fld := ⟨8 * (0x1080000 + 0x80 * h) + 40, 8, 0, .img⟩
def COLL_DESC_DIM (h : Nat) : Fld := ⟨8 * (0x1080000 + 0x80 * h) + 48, 16, 0, .img⟩
def COLL_DESC_SKETCH_W (h : Nat) : Fld := ⟨8 * (0x1080000 + 0x80 * h) + 64, 8, 0, .img⟩
def COLL_DESC_SPILL_MARGIN (h : Nat) : Fld := ⟨8 * (0x1080000 + 0x80 * h) + 72, 8, 0, .img⟩
def COLL_DESC_FILTERS (h : Nat) : Fld := ⟨8 * (0x1080000 + 0x80 * h) + 80, 8, 0, .img⟩
def COLL_DESC_ROUTE_MODE (h : Nat) : Fld := ⟨8 * (0x1080000 + 0x80 * h) + 88, 8, 0, .img⟩
def COLL_DESC_SHARDS (h : Nat) : Fld := ⟨8 * (0x1080000 + 0x80 * h) + 96, 16, 0, .img⟩
def COLL_DESC_ROUTE_SHIFT (h : Nat) : Fld := ⟨8 * (0x1080000 + 0x80 * h) + 112, 8, 0, .img⟩
def COLL_DESC_GRAPH_DEGREE (h : Nat) : Fld := ⟨8 * (0x1080000 + 0x80 * h) + 120, 8, 0, .img⟩
def COLL_DESC_LISTS (h : Nat) : Fld := ⟨8 * (0x1080000 + 0x80 * h) + 128, 32, 0, .img⟩
def COLL_DESC_SPLIT_LEN (h : Nat) : Fld := ⟨8 * (0x1080000 + 0x80 * h) + 160, 32, 0, .img⟩
def COLL_DESC_MERGE_LEN (h : Nat) : Fld := ⟨8 * (0x1080000 + 0x80 * h) + 192, 32, 0, .img⟩
def COLL_DESC_COMPACT_FRAC (h : Nat) : Fld := ⟨8 * (0x1080000 + 0x80 * h) + 224, 8, 0, .img⟩
def COLL_DESC_REBUILD_FRAC (h : Nat) : Fld := ⟨8 * (0x1080000 + 0x80 * h) + 232, 8, 0, .img⟩
def COLL_DESC_ROUTE_BEAM (h : Nat) : Fld := ⟨8 * (0x1080000 + 0x80 * h) + 240, 16, 0, .img⟩
def COLL_DESC_ROUTE_MAXEXP (h : Nat) : Fld := ⟨8 * (0x1080000 + 0x80 * h) + 256, 16, 0, .img⟩
def COLL_DESC_UPKEEP_LAG (h : Nat) : Fld := ⟨8 * (0x1080000 + 0x80 * h) + 272, 16, 0, .img⟩
def COLL_DESC_GRAPH_LAG (h : Nat) : Fld := ⟨8 * (0x1080000 + 0x80 * h) + 288, 32, 0, .img⟩
def COLL_DESC_PROJ_ADDR (h : Nat) : Fld := ⟨8 * (0x1080000 + 0x80 * h) + 320, 64, 0, .img⟩
def COLL_DESC_CENT_ADDR (h : Nat) : Fld := ⟨8 * (0x1080000 + 0x80 * h) + 384, 64, 0, .img⟩
def COLL_DESC_GRAPH_ADDR (h : Nat) : Fld := ⟨8 * (0x1080000 + 0x80 * h) + 448, 64, 0, .img⟩
def COLL_DESC_ENCODER (h : Nat) : Fld := ⟨8 * (0x1080000 + 0x80 * h) + 512, 32, 0, .img⟩
def COLL_DESC_SCORE_MAP (h : Nat) : Fld := ⟨8 * (0x1080000 + 0x80 * h) + 544, 32, 0, .img⟩
def COLL_DESC_STEP_EFFECTIVE (h : Nat) : Fld := ⟨8 * (0x1080000 + 0x80 * h) + 576, 64, 0, .img⟩
def COLL_DESC_PROJ_DIGEST (h : Nat) : Fld := ⟨8 * (0x1080000 + 0x80 * h) + 640, 256, 0, .img⟩
def COLL_DESC_SHARD_MAP (h : Nat) : Fld := ⟨8 * (0x1080000 + 0x80 * h) + 896, 64, 0, .img⟩
def COLL_SMAP_MAP_ID (i : Nat) : Fld := ⟨8 * (0x1060000 + 0x40 * i), 32, 0, .img⟩
def COLL_SMAP_PARTITION (i : Nat) : Fld := ⟨8 * (0x1060000 + 0x40 * i) + 32, 8, 0, .img⟩
def COLL_SMAP_STATE (i : Nat) : Fld := ⟨8 * (0x1060000 + 0x40 * i) + 40, 8, 0, .img⟩
def COLL_SMAP_X0 (i : Nat) : Fld := ⟨8 * (0x1060000 + 0x40 * i) + 64, 32, 0, .img⟩
def COLL_SMAP_INV_STEP (i : Nat) : Fld := ⟨8 * (0x1060000 + 0x40 * i) + 96, 32, 0, .img⟩
def COLL_SMAP_STEP_EFFECTIVE (i : Nat) : Fld := ⟨8 * (0x1060000 + 0x40 * i) + 128, 64, 0, .img⟩
def COLL_SMAP_SOURCE (i : Nat) : Fld := ⟨8 * (0x1060000 + 0x40 * i) + 192, 64, 0, .img⟩
def COLL_SMAP_DIGEST (i : Nat) : Fld := ⟨8 * (0x1060000 + 0x40 * i) + 256, 256, 0, .img⟩

/-! ### Registers of spec/07_near_bank_units.md -/
def NBU_CAPS_BANKS : Fld := ⟨8 * 0x1100000 + 32, 14, 8192, .ro⟩
def NBU_CAPS_MAX_L : Fld := ⟨8 * 0x1100000 + 24, 8, 64, .ro⟩
def NBU_CAPS_ROW_BYTES : Fld := ⟨8 * 0x1100000 + 12, 12, 2048, .ro⟩
def NBU_CAPS_CHUNK_BYTES : Fld := ⟨8 * 0x1100000, 12, 64, .ro⟩
def NBU_CFG : Fld := ⟨8 * 0x1100008, 4, 8, .img⟩
def NBU_STATUS_FALLBACK : Fld := ⟨8 * 0x110000c + 4, 1, 0, .ro⟩
def NBU_STATUS_GOV_HOLD : Fld := ⟨8 * 0x110000c + 3, 1, 0, .ro⟩
def NBU_STATUS_ISOLATE_EVT : Fld := ⟨8 * 0x110000c + 2, 1, 0, .w1c⟩
def NBU_STATUS_TAIL_FAIL_EVT : Fld := ⟨8 * 0x110000c + 1, 1, 0, .w1c⟩
def NBU_STATUS_DSC_FAIL_EVT : Fld := ⟨8 * 0x110000c, 1, 0, .w1c⟩
def NBU_GOV : Fld := ⟨8 * 0x1100010, 14, 7324, .img⟩
def NBU_ISO_COUNT : Fld := ⟨8 * 0x1100014, 14, 0, .ro⟩
def NBU_STACK_ISOLATED (s : Nat) : Fld := ⟨8 * (0x1100100 + 0x4 * s) + 2, 11, 0, .ro⟩
def NBU_STACK_GOV_HOLD (s : Nat) : Fld := ⟨8 * (0x1100100 + 0x4 * s) + 1, 1, 0, .ro⟩
def NBU_STACK_HOT (s : Nat) : Fld := ⟨8 * (0x1100100 + 0x4 * s), 1, 0, .ro⟩
def NBU_ISOLATED : Fld := ⟨8 * 0x1100400, 8192, 0, .saf⟩

/-! ### Registers of spec/08_stacked_memory.md -/
def STACK_CAPS_SPARE_ROWS : Fld := ⟨8 * 0x1200000 + 48, 16, 64, .ro⟩
def STACK_CAPS_SPARE_VIAS : Fld := ⟨8 * 0x1200000 + 40, 8, 8, .ro⟩
def STACK_CAPS_ROWS : Fld := ⟨8 * 0x1200000 + 24, 16, 49152, .ro⟩
def STACK_CAPS_RESERVE_MIB : Fld := ⟨8 * 0x1200000 + 10, 14, 3072, .ro⟩
def STACK_CAPS_CHANNELS : Fld := ⟨8 * 0x1200000, 10, 512, .ro⟩
def STACK_CFG_SCRUB_HOURS : Fld := ⟨8 * 0x1200008 + 24, 8, 24, .img⟩
def STACK_CFG_REBUILD_GBPS : Fld := ⟨8 * 0x1200008 + 18, 6, 8, .img⟩
def STACK_CFG_REBUILD_FLASH_PCT : Fld := ⟨8 * 0x1200008 + 12, 6, 25, .img⟩
def STACK_CFG_UC_BANKS : Fld := ⟨8 * 0x1200008 + 8, 4, 4, .img⟩
def STACK_CFG_ERASE_MAX : Fld := ⟨8 * 0x1200008, 3, 2, .img⟩
def STACK_STATUS_RESERVE_EXHAUSTED : Fld := ⟨8 * 0x120000c + 7, 1, 0, .ro⟩
def STACK_STATUS_REBUILDING : Fld := ⟨8 * 0x120000c + 6, 1, 0, .ro⟩
def STACK_STATUS_THERM_EVT : Fld := ⟨8 * 0x120000c + 5, 1, 0, .w1c⟩
def STACK_STATUS_CH_FAIL_EVT : Fld := ⟨8 * 0x120000c + 4, 1, 0, .w1c⟩
def STACK_STATUS_UC_EVT : Fld := ⟨8 * 0x120000c + 3, 1, 0, .w1c⟩
def STACK_STATUS_ROW_REPAIR_EVT : Fld := ⟨8 * 0x120000c + 2, 1, 0, .w1c⟩
def STACK_STATUS_VIA_REPAIR_EVT : Fld := ⟨8 * 0x120000c + 1, 1, 0, .w1c⟩
def STACK_STATUS_HOT : Fld := ⟨8 * 0x120000c, 1, 0, .ro⟩
def STACK_RESERVE_FAILED_CH : Fld := ⟨8 * 0x1200010 + 16, 9, 0, .ro⟩
def STACK_RESERVE_FREE_MIB : Fld := ⟨8 * 0x1200010, 15, 24576, .ro⟩
def STACK_TEST_TEST_REQ : Fld := ⟨8 * 0x1200014 + 31, 1, 0, .saf⟩
def STACK_TEST_CHANNEL : Fld := ⟨8 * 0x1200014 + 11, 9, 0, .saf⟩
def STACK_TEST_MODE : Fld := ⟨8 * 0x1200014 + 8, 3, 0, .saf⟩
def STACK_ERRLOG_COUNT : Fld := ⟨8 * 0x1200018, 32, 0, .ro⟩
def STACK_TEMP_MAX_C (s : Nat) : Fld := ⟨8 * (0x1200100 + 0x8 * s) + 32, 8, 0, .ro⟩
def STACK_TEMP_MIN_C (s : Nat) : Fld := ⟨8 * (0x1200100 + 0x8 * s) + 24, 8, 0, .ro⟩
def STACK_TEMP_HOTTEST_DIE (s : Nat) : Fld := ⟨8 * (0x1200100 + 0x8 * s) + 20, 4, 0, .ro⟩
def STACK_TEMP_CRIT (s : Nat) : Fld := ⟨8 * (0x1200100 + 0x8 * s) + 3, 1, 0, .ro⟩
def STACK_TEMP_SCAN_HALVED (s : Nat) : Fld := ⟨8 * (0x1200100 + 0x8 * s) + 2, 1, 0, .ro⟩
def STACK_TEMP_HOT (s : Nat) : Fld := ⟨8 * (0x1200100 + 0x8 * s) + 1, 1, 0, .ro⟩
def STACK_CH_STATE (c : Nat) : Fld := ⟨8 * (0x1201000 + 0x10 * c), 8, 0, .ro⟩
def STACK_CH_SPARE_VIAS_USED (c : Nat) : Fld := ⟨8 * (0x1201000 + 0x10 * c) + 8, 8, 0, .ro⟩
def STACK_CH_ROW_SPARES_MAX (c : Nat) : Fld := ⟨8 * (0x1201000 + 0x10 * c) + 16, 8, 0, .ro⟩
def STACK_CH_ERASURES (c : Nat) : Fld := ⟨8 * (0x1201000 + 0x10 * c) + 24, 72, 0, .ro⟩
def STACK_ERRLOG_STEP (n : Nat) : Fld := ⟨8 * (0x1204000 + 0x10 * n), 64, 0, .ro⟩
def STACK_ERRLOG_CHANNEL (n : Nat) : Fld := ⟨8 * (0x1204000 + 0x10 * n) + 64, 16, 0, .ro⟩
def STACK_ERRLOG_BANK (n : Nat) : Fld := ⟨8 * (0x1204000 + 0x10 * n) + 80, 8, 0, .ro⟩
def STACK_ERRLOG_CLASS (n : Nat) : Fld := ⟨8 * (0x1204000 + 0x10 * n) + 88, 8, 0, .ro⟩
def STACK_ERRLOG_ROW (n : Nat) : Fld := ⟨8 * (0x1204000 + 0x10 * n) + 96, 16, 0, .ro⟩
def STACK_ERRLOG_COLUMN (n : Nat) : Fld := ⟨8 * (0x1204000 + 0x10 * n) + 112, 5, 0, .ro⟩
def STACK_ERRLOG_OUTCOME (n : Nat) : Fld := ⟨8 * (0x1204000 + 0x10 * n) + 120, 8, 0, .ro⟩

/-! ### Registers of spec/09_granary.md -/
def GRAN_CAPS_MAP_UNIT : Fld := ⟨8 * 0x1300000 + 48, 16, 16384, .ro⟩
def GRAN_CAPS_FRAME_BYTES : Fld := ⟨8 * 0x1300000 + 32, 16, 4096, .ro⟩
def GRAN_CAPS_CHANNELS : Fld := ⟨8 * 0x1300000 + 8, 5, 16, .ro⟩
def GRAN_CAPS_MAX_LUNS : Fld := ⟨8 * 0x1300000 + 4, 4, 8, .ro⟩
def GRAN_CFG_OP_PCT : Fld := ⟨8 * 0x1300008 + 26, 6, 18, .img⟩
def GRAN_CFG_CKPT_SECONDS : Fld := ⟨8 * 0x1300008 + 16, 10, 600, .img⟩
def GRAN_CFG_RETRY_MAX : Fld := ⟨8 * 0x1300008 + 12, 4, 8, .img⟩
def GRAN_CFG_IDX_BATCH : Fld := ⟨8 * 0x1300008 + 8, 4, 8, .img⟩
def GRAN_CFG_FLUSH_MIB : Fld := ⟨8 * 0x1300008, 8, 48, .img⟩
def GRAN_STATUS_CH_MISSING : Fld := ⟨8 * 0x130000c + 6, 1, 0, .ro⟩
def GRAN_STATUS_FLUSHING : Fld := ⟨8 * 0x130000c + 5, 1, 0, .ro⟩
def GRAN_STATUS_FLUSH_STALL : Fld := ⟨8 * 0x130000c + 4, 1, 0, .ro⟩
def GRAN_STATUS_LUN_FAIL_EVT : Fld := ⟨8 * 0x130000c + 3, 1, 0, .w1c⟩
def GRAN_STATUS_RETIRE_EVT : Fld := ⟨8 * 0x130000c + 2, 1, 0, .w1c⟩
def GRAN_STATUS_UC_EVT : Fld := ⟨8 * 0x130000c + 1, 1, 0, .w1c⟩
def GRAN_STATUS_REPLAYING : Fld := ⟨8 * 0x130000c, 1, 0, .ro⟩
def GRAN_AGE_OFFLINE_EST : Fld := ⟨8 * 0x1300010 + 32, 32, 0, .ro⟩
def GRAN_AGE_AGE : Fld := ⟨8 * 0x1300010, 32, 0, .ro⟩
def GRAN_LEASE : Fld := ⟨8 * 0x1300018, 64, 0, .ro⟩
def GRAN_SPACE_ALLOC_GIB : Fld := ⟨8 * 0x1300020 + 32, 32, 0, .ro⟩
def GRAN_SPACE_USER_GIB : Fld := ⟨8 * 0x1300020, 32, 0, .ro⟩
def GRAN_UNPROG : Fld := ⟨8 * 0x1300028, 17, 0, .ro⟩
def GRAN_CH_STATE (c : Nat) : Fld := ⟨8 * (0x1300100 + 0x10 * c), 8, 0, .ro⟩
def GRAN_CH_MODE (c : Nat) : Fld := ⟨8 * (0x1300100 + 0x10 * c) + 8, 8, 0, .ro⟩
def GRAN_CH_MTS (c : Nat) : Fld := ⟨8 * (0x1300100 + 0x10 * c) + 16, 16, 0, .ro⟩
def GRAN_CH_LUNS (c : Nat) : Fld := ⟨8 * (0x1300100 + 0x10 * c) + 32, 8, 0, .ro⟩
def GRAN_CH_FAILED_LUNS (c : Nat) : Fld := ⟨8 * (0x1300100 + 0x10 * c) + 40, 8, 0, .ro⟩
def GRAN_CH_BAD_BLOCKS (c : Nat) : Fld := ⟨8 * (0x1300100 + 0x10 * c) + 48, 32, 0, .ro⟩
def GRAN_CH_MAX_ERASE (c : Nat) : Fld := ⟨8 * (0x1300100 + 0x10 * c) + 80, 32, 0, .ro⟩
def GRAN_THR_OFFSET (i : Nat) (k : Nat) : Fld := ⟨8 * (0x1301000 + 0x8 * i) + 8 * k, 8, 0, .img⟩
def GRAN_THR_RETRY_START (i : Nat) : Fld := ⟨8 * (0x1301000 + 0x8 * i) + 56, 8, 0, .img⟩
def GRAN_REGION_BASE (n : Nat) : Fld := ⟨8 * (0x1302000 + 0x10 * n), 31, 0, .img⟩
def GRAN_REGION_PAGES (n : Nat) : Fld := ⟨8 * (0x1302000 + 0x10 * n) + 32, 32, 0, .img⟩
def GRAN_REGION_KIND (n : Nat) : Fld := ⟨8 * (0x1302000 + 0x10 * n) + 64, 8, 0, .img⟩
def GRAN_REGION_PARTITION (n : Nat) : Fld := ⟨8 * (0x1302000 + 0x10 * n) + 72, 8, 0, .img⟩
def GRAN_REGION_HANDLE (n : Nat) : Fld := ⟨8 * (0x1302000 + 0x10 * n) + 80, 16, 0, .img⟩
def GRAN_REGION_SHARD (n : Nat) : Fld := ⟨8 * (0x1302000 + 0x10 * n) + 96, 16, 0, .img⟩

/-! ### Registers of spec/10_encoder_engine.md -/
def ENC_CAPS_CORES : Fld := ⟨8 * 0x1400000 + 56, 8, 64, .ro⟩
def ENC_CAPS_CLUSTERS : Fld := ⟨8 * 0x1400000 + 52, 4, 8, .ro⟩
def ENC_CAPS_DELTA : Fld := ⟨8 * 0x1400000 + 51, 1, 1, .ro⟩
def ENC_CAPS_VQ : Fld := ⟨8 * 0x1400000 + 50, 1, 1, .ro⟩
def ENC_CAPS_MAX_TOK : Fld := ⟨8 * 0x1400000 + 32, 9, 256, .ro⟩
def ENC_CAPS_LOFT_MIB : Fld := ⟨8 * 0x1400000 + 16, 16, 384, .ro⟩
def ENC_CAPS_SCRATCH_KIB : Fld := ⟨8 * 0x1400000, 16, 2048, .ro⟩
def ENC_CFG_SAT_LOG2 : Fld := ⟨8 * 0x1400008 + 16, 5, 12, .img⟩
def ENC_CFG_BACKLOG_MAX : Fld := ⟨8 * 0x1400008, 16, 128, .img⟩
def ENC_STATUS_CHAIN_EVT : Fld := ⟨8 * 0x140000c + 6, 1, 0, .w1c⟩
def ENC_STATUS_MODEL_UNAVAIL (p : Nat) : Fld := ⟨8 * 0x140000c + 5 + 0x100000000 * p, 1, 0, .ro⟩
def ENC_STATUS_ISOLATE_EVT : Fld := ⟨8 * 0x140000c + 4, 1, 0, .w1c⟩
def ENC_STATUS_SAT_EVT : Fld := ⟨8 * 0x140000c + 3, 1, 0, .w1c⟩
def ENC_STATUS_BACKLOG_FULL : Fld := ⟨8 * 0x140000c + 2, 1, 0, .ro⟩
def ENC_STATUS_LOFT_WAIT : Fld := ⟨8 * 0x140000c + 1, 1, 0, .ro⟩
def ENC_STATUS_STREAM_STALL : Fld := ⟨8 * 0x140000c, 1, 0, .ro⟩
def ENC_LOFT_POOL_FREE_B : Fld := ⟨8 * 0x1400010 + 48, 16, 0, .ro⟩
def ENC_LOFT_POOL_FREE_A : Fld := ⟨8 * 0x1400010 + 32, 16, 0, .ro⟩
def ENC_LOFT_RESERVED_B : Fld := ⟨8 * 0x1400010 + 16, 16, 0, .ro⟩
def ENC_LOFT_RESERVED_A : Fld := ⟨8 * 0x1400010, 16, 0, .ro⟩
def ENC_BACKLOG : Fld := ⟨8 * 0x1400018, 13, 0, .ro⟩
def ENC_ISOLATED : Fld := ⟨8 * 0x1400020, 64, 0, .saf⟩
def ENC_CLUSTER_MODEL_ID (c : Nat) : Fld := ⟨8 * (0x1400100 + 0x8 * c) + 32, 32, 0, .ro⟩
def ENC_CLUSTER_LAYER (c : Nat) : Fld := ⟨8 * (0x1400100 + 0x8 * c) + 16, 8, 0, .ro⟩
def ENC_CLUSTER_BUSY (c : Nat) : Fld := ⟨8 * (0x1400100 + 0x8 * c) + 8, 8, 0, .ro⟩
def ENC_CLUSTER_STALL (c : Nat) : Fld := ⟨8 * (0x1400100 + 0x8 * c) + 2, 2, 0, .ro⟩
def ENC_CLUSTER_ACTIVE (c : Nat) : Fld := ⟨8 * (0x1400100 + 0x8 * c), 1, 0, .ro⟩
def ENC_LOFT_MIN_HALF_B (p : Nat) : Fld := ⟨8 * (0x14001fc + 0x4 * p) + 16, 16, 0, .img⟩
def ENC_LOFT_MIN_HALF_A (p : Nat) : Fld := ⟨8 * (0x14001fc + 0x4 * p), 16, 0, .img⟩
def ENC_MODEL_MODEL_ID (i : Nat) : Fld := ⟨8 * (0x1410000 + 0x80 * i), 32, 0, .img⟩
def ENC_MODEL_PARTITION (i : Nat) : Fld := ⟨8 * (0x1410000 + 0x80 * i) + 32, 8, 0, .img⟩
def ENC_MODEL_STATE (i : Nat) : Fld := ⟨8 * (0x1410000 + 0x80 * i) + 40, 8, 0, .img⟩
def ENC_MODEL_KIND (i : Nat) : Fld := ⟨8 * (0x1410000 + 0x80 * i) + 48, 8, 0, .img⟩
def ENC_MODEL_FORM (i : Nat) : Fld := ⟨8 * (0x1410000 + 0x80 * i) + 56, 8, 0, .img⟩
def ENC_MODEL_WIDTH (i : Nat) : Fld := ⟨8 * (0x1410000 + 0x80 * i) + 64, 16, 0, .img⟩
def ENC_MODEL_LAYERS (i : Nat) : Fld := ⟨8 * (0x1410000 + 0x80 * i) + 80, 8, 0, .img⟩
def ENC_MODEL_CHAIN_LEN (i : Nat) : Fld := ⟨8 * (0x1410000 + 0x80 * i) + 88, 8, 0, .img⟩
def ENC_MODEL_MAX_TOK (i : Nat) : Fld := ⟨8 * (0x1410000 + 0x80 * i) + 96, 16, 0, .img⟩
def ENC_MODEL_OUT_DIM (i : Nat) : Fld := ⟨8 * (0x1410000 + 0x80 * i) + 112, 16, 0, .img⟩
def ENC_MODEL_CHAIN (i : Nat) (k : Nat) : Fld := ⟨8 * (0x1410000 + 0x80 * i) + 128 + 16 * k, 16, 0, .img⟩
def ENC_MODEL_ALT_CHAIN (i : Nat) (k : Nat) : Fld := ⟨8 * (0x1410000 + 0x80 * i) + 192 + 16 * k, 16, 0, .img⟩
def ENC_MODEL_BASE_ID (i : Nat) : Fld := ⟨8 * (0x1410000 + 0x80 * i) + 256, 32, 0, .img⟩
def ENC_MODEL_LOFT_KIB (i : Nat) : Fld := ⟨8 * (0x1410000 + 0x80 * i) + 288, 32, 0, .img⟩
def ENC_MODEL_STEP_EFFECTIVE (i : Nat) : Fld := ⟨8 * (0x1410000 + 0x80 * i) + 320, 64, 0, .img⟩
def ENC_MODEL_WEIGHTS_ADDR (i : Nat) : Fld := ⟨8 * (0x1410000 + 0x80 * i) + 384, 64, 0, .img⟩
def ENC_MODEL_PROG_ADDR (i : Nat) : Fld := ⟨8 * (0x1410000 + 0x80 * i) + 448, 64, 0, .img⟩
def ENC_MODEL_DIGEST (i : Nat) : Fld := ⟨8 * (0x1410000 + 0x80 * i) + 512, 256, 0, .img⟩
def ENC_MODEL_IN_A (i : Nat) : Fld := ⟨8 * (0x1410000 + 0x80 * i) + 768, 1, 0, .img⟩
def ENC_MODEL_IN_B (i : Nat) : Fld := ⟨8 * (0x1410000 + 0x80 * i) + 769, 1, 0, .img⟩
def ENC_MODEL_OUT_ELEM (i : Nat) : Fld := ⟨8 * (0x1410000 + 0x80 * i) + 776, 8, 0, .img⟩

/-! ### Registers of spec/13_embedding_service.md -/
def EMB_CAPS_MAX_OVR : Fld := ⟨8 * 0x1500000 + 32, 21, 1048576, .ro⟩
def EMB_CAPS_REPL_MIB : Fld := ⟨8 * 0x1500000 + 22, 10, 256, .ro⟩
def EMB_CAPS_MAX_DIM : Fld := ⟨8 * 0x1500000 + 12, 10, 512, .ro⟩
def EMB_CAPS_MAX_TABLES : Fld := ⟨8 * 0x1500000, 12, 1024, .ro⟩
def EMB_CFG_MIG_MAX : Fld := ⟨8 * 0x1500008 + 24, 8, 64, .img⟩
def EMB_CFG_LOAD_LAG : Fld := ⟨8 * 0x1500008 + 8, 16, 1024, .img⟩
def EMB_CFG_UNDO_64MIB : Fld := ⟨8 * 0x1500008, 8, 4, .img⟩
def EMB_STATUS_GRAD_SAT_EVT : Fld := ⟨8 * 0x150000c + 5, 1, 0, .w1c⟩
def EMB_STATUS_APPLY_MISMATCH_EVT : Fld := ⟨8 * 0x150000c + 4, 1, 0, .w1c⟩
def EMB_STATUS_MIG_SUPPRESS_EVT : Fld := ⟨8 * 0x150000c + 3, 1, 0, .w1c⟩
def EMB_STATUS_MIG_EVT : Fld := ⟨8 * 0x150000c + 2, 1, 0, .w1c⟩
def EMB_STATUS_LOAD_STALL : Fld := ⟨8 * 0x150000c + 1, 1, 0, .ro⟩
def EMB_STATUS_UNDO_STALL : Fld := ⟨8 * 0x150000c, 1, 0, .ro⟩
def EMB_UNDO : Fld := ⟨8 * 0x1500010, 16, 0, .ro⟩
def EMB_TABLE_TABLE (i : Nat) : Fld := ⟨8 * (0x1510000 + 0x40 * i), 16, 0, .img⟩
def EMB_TABLE_PARTITION (i : Nat) : Fld := ⟨8 * (0x1510000 + 0x40 * i) + 16, 8, 0, .img⟩
def EMB_TABLE_STATE (i : Nat) : Fld := ⟨8 * (0x1510000 + 0x40 * i) + 24, 8, 0, .img⟩
def EMB_TABLE_PLACEMENT (i : Nat) : Fld := ⟨8 * (0x1510000 + 0x40 * i) + 32, 8, 0, .img⟩
def EMB_TABLE_OPT (i : Nat) : Fld := ⟨8 * (0x1510000 + 0x40 * i) + 40, 8, 0, .img⟩
def EMB_TABLE_DIM (i : Nat) : Fld := ⟨8 * (0x1510000 + 0x40 * i) + 48, 16, 0, .img⟩
def EMB_TABLE_ROWS_M1 (i : Nat) : Fld := ⟨8 * (0x1510000 + 0x40 * i) + 64, 32, 0, .img⟩
def EMB_TABLE_TSCALE (i : Nat) : Fld := ⟨8 * (0x1510000 + 0x40 * i) + 96, 8, 0, .img⟩
def EMB_TABLE_GFRAC (i : Nat) : Fld := ⟨8 * (0x1510000 + 0x40 * i) + 104, 8, 0, .img⟩
def EMB_TABLE_LR_SHIFT (i : Nat) : Fld := ⟨8 * (0x1510000 + 0x40 * i) + 112, 8, 0, .img⟩
def EMB_TABLE_SQ_SHIFT (i : Nat) : Fld := ⟨8 * (0x1510000 + 0x40 * i) + 120, 8, 0, .img⟩
def EMB_TABLE_LR (i : Nat) : Fld := ⟨8 * (0x1510000 + 0x40 * i) + 128, 32, 0, .img⟩
def EMB_TABLE_MU (i : Nat) : Fld := ⟨8 * (0x1510000 + 0x40 * i) + 160, 16, 0, .img⟩
def EMB_TABLE_SHARDS (i : Nat) : Fld := ⟨8 * (0x1510000 + 0x40 * i) + 176, 16, 0, .img⟩
def EMB_TABLE_EPS (i : Nat) : Fld := ⟨8 * (0x1510000 + 0x40 * i) + 192, 32, 0, .img⟩
def EMB_TABLE_HOT_ROW (i : Nat) : Fld := ⟨8 * (0x1510000 + 0x40 * i) + 224, 32, 0, .img⟩
def EMB_TABLE_NODES (i : Nat) : Fld := ⟨8 * (0x1510000 + 0x40 * i) + 256, 64, 0, .img⟩
def EMB_TABLE_BASE (i : Nat) : Fld := ⟨8 * (0x1510000 + 0x40 * i) + 320, 64, 0, .img⟩
def EMB_TABLE_OVR (i : Nat) : Fld := ⟨8 * (0x1510000 + 0x40 * i) + 384, 64, 0, .img⟩
def EMB_TABLE_STEP_EFFECTIVE (i : Nat) : Fld := ⟨8 * (0x1510000 + 0x40 * i) + 448, 64, 0, .img⟩
def EMB_RUN_LOAD_LAST (i : Nat) : Fld := ⟨8 * (0x1520000 + 0x20 * i), 64, 0, .ro⟩
def EMB_RUN_OVR_ENTRIES (i : Nat) : Fld := ⟨8 * (0x1520000 + 0x20 * i) + 64, 32, 0, .ro⟩
def EMB_RUN_MIG_LAST (i : Nat) : Fld := ⟨8 * (0x1520000 + 0x20 * i) + 96, 32, 0, .ro⟩
def EMB_RUN_UNDO_ROWS (i : Nat) : Fld := ⟨8 * (0x1520000 + 0x20 * i) + 128, 32, 0, .ro⟩
def EMB_RUN_HELD (i : Nat) : Fld := ⟨8 * (0x1520000 + 0x20 * i) + 160, 8, 0, .ro⟩
def EMB_RUN_STATE (i : Nat) : Fld := ⟨8 * (0x1520000 + 0x20 * i) + 168, 8, 0, .ro⟩

/-! ### Registers of spec/14_shared_memory_and_coherence.md -/
def HOME_CAPS_BI_US : Fld := ⟨8 * 0x1600000 + 48, 16, 100, .ro⟩
def HOME_CAPS_HOLD_NS : Fld := ⟨8 * 0x1600000 + 38, 10, 200, .ro⟩
def HOME_CAPS_REGIONS : Fld := ⟨8 * 0x1600000 + 25, 13, 4096, .ro⟩
def HOME_CAPS_RANGES : Fld := ⟨8 * 0x1600000 + 12, 13, 4096, .ro⟩
def HOME_CAPS_MAX_SHARE_64G : Fld := ⟨8 * 0x1600000, 12, 64, .ro⟩
def HOME_CFG_EXPORT_POS : Fld := ⟨8 * 0x1600008 + 52, 12, 0, .img⟩
def HOME_CFG_EXPORTERS : Fld := ⟨8 * 0x1600008 + 39, 13, 0, .img⟩
def HOME_CFG_SHARE_64G : Fld := ⟨8 * 0x1600008 + 32, 7, 64, .img⟩
def HOME_CFG_RES_GIB : Fld := ⟨8 * 0x1600008 + 22, 10, 32, .img⟩
def HOME_CFG_WB_SECONDS : Fld := ⟨8 * 0x1600008 + 14, 8, 30, .img⟩
def HOME_CFG_HOT_PCT : Fld := ⟨8 * 0x1600008 + 8, 6, 25, .img⟩
def HOME_STATUS_ZEROING : Fld := ⟨8 * 0x1600010 + 5, 1, 0, .ro⟩
def HOME_STATUS_PUBLISH_EVT (p : Nat) : Fld := ⟨8 * 0x1600010 + 4 + 0x100000000 * p, 1, 0, .w1c⟩
def HOME_STATUS_UC_EVT : Fld := ⟨8 * 0x1600010 + 3, 1, 0, .w1c⟩
def HOME_STATUS_HOME_LOST_EVT : Fld := ⟨8 * 0x1600010 + 2, 1, 0, .w1c⟩
def HOME_STATUS_HOST_LOST_EVT : Fld := ⟨8 * 0x1600010 + 1, 1, 0, .w1c⟩
def HOME_STATUS_LOG_EVT (p : Nat) : Fld := ⟨8 * 0x1600010 + 0x100000000 * p, 1, 0, .w1c⟩
def HOME_MODE_SERVING : Fld := ⟨8 * 0x1600014 + 1, 1, 0, .ro⟩
def HOME_MODE_SWAP_ONLY : Fld := ⟨8 * 0x1600014, 1, 1, .ro⟩
def HOME_HINT_GRANULE : Fld := ⟨8 * 0x1600018 + 12, 52, 0, .wo⟩
def HOME_HINT_COUNT : Fld := ⟨8 * 0x1600018 + 2, 10, 0, .wo⟩
def HOME_HINT_KIND : Fld := ⟨8 * 0x1600018, 2, 0, .wo⟩
def HOME_CACHE_DIRTY_MIB : Fld := ⟨8 * 0x1600020 + 32, 32, 0, .ro⟩
def HOME_CACHE_HOT_MIB : Fld := ⟨8 * 0x1600020, 32, 0, .ro⟩
def HOME_RANGE_BASE (i : Nat) : Fld := ⟨8 * (0x1610000 + 0x40 * i), 64, 0, .img⟩
def HOME_RANGE_LENGTH (i : Nat) : Fld := ⟨8 * (0x1610000 + 0x40 * i) + 64, 64, 0, .img⟩
def HOME_RANGE_PARTITION (i : Nat) : Fld := ⟨8 * (0x1610000 + 0x40 * i) + 128, 8, 0, .img⟩
def HOME_RANGE_KIND (i : Nat) : Fld := ⟨8 * (0x1610000 + 0x40 * i) + 136, 8, 0, .img⟩
def HOME_RANGE_HOST (i : Nat) : Fld := ⟨8 * (0x1610000 + 0x40 * i) + 144, 16, 0, .img⟩
def HOME_RANGE_CAN_READ (i : Nat) : Fld := ⟨8 * (0x1610000 + 0x40 * i) + 160, 1, 0, .img⟩
def HOME_RANGE_CAN_WRITE (i : Nat) : Fld := ⟨8 * (0x1610000 + 0x40 * i) + 161, 1, 0, .img⟩
def HOME_RANGE_INCOMPLETE (i : Nat) : Fld := ⟨8 * (0x1610000 + 0x40 * i) + 168, 1, 0, .ro⟩
def HOME_RANGE_SEALING (i : Nat) : Fld := ⟨8 * (0x1610000 + 0x40 * i) + 169, 1, 0, .ro⟩
def HOME_RANGE_ZEROING (i : Nat) : Fld := ⟨8 * (0x1610000 + 0x40 * i) + 170, 1, 0, .ro⟩
def HOME_RANGE_REGION (i : Nat) : Fld := ⟨8 * (0x1610000 + 0x40 * i) + 176, 16, 0, .img⟩
def HOME_RANGE_LOSSES (i : Nat) : Fld := ⟨8 * (0x1610000 + 0x40 * i) + 192, 32, 0, .ro⟩
def HOME_RANGE_STEP_EFFECTIVE (i : Nat) : Fld := ⟨8 * (0x1610000 + 0x40 * i) + 256, 64, 0, .img⟩
def HOME_RANGE_LAST_LOSS_STEP (i : Nat) : Fld := ⟨8 * (0x1610000 + 0x40 * i) + 320, 64, 0, .ro⟩
def HOME_REGION_PARTITION (i : Nat) : Fld := ⟨8 * (0x1650000 + 0x20 * i), 8, 0, .img⟩
def HOME_REGION_STATE (i : Nat) : Fld := ⟨8 * (0x1650000 + 0x20 * i) + 8, 8, 0, .img⟩
def HOME_REGION_RETAIN (i : Nat) : Fld := ⟨8 * (0x1650000 + 0x20 * i) + 32, 32, 0, .img⟩
def HOME_REGION_DESC_ADDR (i : Nat) : Fld := ⟨8 * (0x1650000 + 0x20 * i) + 64, 64, 0, .img⟩
def HOME_REGION_LENGTH (i : Nat) : Fld := ⟨8 * (0x1650000 + 0x20 * i) + 128, 64, 0, .img⟩
def HOME_REGION_STEP_EFFECTIVE (i : Nat) : Fld := ⟨8 * (0x1650000 + 0x20 * i) + 192, 64, 0, .img⟩
def HOME_SWAP_OP (p : Nat) (n : Nat) : Fld := ⟨8 * (0x167f000 + 0x1000 * p + 0x40 * n), 8, 0, .rw⟩
def HOME_SWAP_STATUS (p : Nat) (n : Nat) : Fld := ⟨8 * (0x167f000 + 0x1000 * p + 0x40 * n) + 8, 8, 0, .rw⟩
def HOME_SWAP_DONE (p : Nat) (n : Nat) : Fld := ⟨8 * (0x167f000 + 0x1000 * p + 0x40 * n) + 16, 8, 0, .rw⟩
def HOME_SWAP_SHM_ADDR (p : Nat) (n : Nat) : Fld := ⟨8 * (0x167f000 + 0x1000 * p + 0x40 * n) + 64, 64, 0, .rw⟩
def HOME_SWAP_HOST_ADDR (p : Nat) (n : Nat) : Fld := ⟨8 * (0x167f000 + 0x1000 * p + 0x40 * n) + 128, 64, 0, .rw⟩
def HOME_SWAP_TAG (p : Nat) (n : Nat) : Fld := ⟨8 * (0x167f000 + 0x1000 * p + 0x40 * n) + 192, 64, 0, .rw⟩
def HOME_LOST_COUNT (p : Nat) : Fld := ⟨8 * (0x16bf000 + 0x1000 * p), 64, 0, .ro⟩
def HOME_LOST_STEP (p : Nat) (n : Nat) : Fld := ⟨8 * (0x16bf000 + 0x1000 * p) + 256 + 256 * n, 64, 0, .ro⟩
def HOME_LOST_ADDRESS (p : Nat) (n : Nat) : Fld := ⟨8 * (0x16bf000 + 0x1000 * p) + 320 + 256 * n, 64, 0, .ro⟩
def HOME_LOST_HOST (p : Nat) (n : Nat) : Fld := ⟨8 * (0x16bf000 + 0x1000 * p) + 384 + 256 * n, 16, 0, .ro⟩
def HOME_LOST_CAUSE (p : Nat) (n : Nat) : Fld := ⟨8 * (0x16bf000 + 0x1000 * p) + 400 + 256 * n, 8, 0, .ro⟩
def HOME_LOST_RANGE (p : Nat) (n : Nat) : Fld := ⟨8 * (0x16bf000 + 0x1000 * p) + 416 + 256 * n, 16, 0, .ro⟩

/-! ### Registers of spec/15_cxl_attachment.md -/
def CXP_CAPS_SYNC_OBJECTS : Fld := ⟨8 * 0x1800000 + 28, 18, 131072, .ro⟩
def CXP_CAPS_VECTORS : Fld := ⟨8 * 0x1800000 + 16, 12, 2048, .ro⟩
def CXP_CAPS_MAX_HOSTS : Fld := ⟨8 * 0x1800000 + 6, 10, 512, .ro⟩
def CXP_CAPS_PORTS : Fld := ⟨8 * 0x1800000 + 4, 2, 2, .ro⟩
def CXP_CFG_MUTUAL_AUTH : Fld := ⟨8 * 0x1800008 + 7, 1, 0, .img⟩
def CXP_CFG_REQUIRE_IDE : Fld := ⟨8 * 0x1800008 + 6, 1, 0, .img⟩
def CXP_CFG_MEM_IDE_MODE : Fld := ⟨8 * 0x1800008 + 4, 2, 2, .img⟩
def CXP_STATUS_IDE_FAIL_EVT : Fld := ⟨8 * 0x180000c + 4, 1, 0, .w1c⟩
def CXP_STATUS_RESET_EVT (p : Nat) : Fld := ⟨8 * 0x180000c + 3 + 0x100000000 * p, 1, 0, .w1c⟩
def CXP_STATUS_FENCE_EVT (p : Nat) : Fld := ⟨8 * 0x180000c + 2 + 0x100000000 * p, 1, 0, .w1c⟩
def CXP_STATUS_PORT1_UP : Fld := ⟨8 * 0x180000c + 1, 1, 0, .ro⟩
def CXP_STATUS_PORT0_UP : Fld := ⟨8 * 0x180000c, 1, 0, .ro⟩
def CXP_PORT_PORT_PID (n : Nat) : Fld := ⟨8 * (0x1800020 + 0x8 * n) + 32, 12, 0, .ro⟩
def CXP_PORT_RATE_GTS (n : Nat) : Fld := ⟨8 * (0x1800020 + 0x8 * n) + 16, 8, 0, .ro⟩
def CXP_PORT_WIDTH (n : Nat) : Fld := ⟨8 * (0x1800020 + 0x8 * n) + 11, 5, 0, .ro⟩
def CXP_PORT_MEM_IDE (n : Nat) : Fld := ⟨8 * (0x1800020 + 0x8 * n) + 6, 2, 0, .ro⟩
def CXP_PORT_IO_IDE (n : Nat) : Fld := ⟨8 * (0x1800020 + 0x8 * n) + 5, 1, 0, .ro⟩
def CXP_PORT_STATE (n : Nat) : Fld := ⟨8 * (0x1800020 + 0x8 * n), 2, 0, .ro⟩
def CXP_BIND_PID (i : Nat) : Fld := ⟨8 * (0x1810000 + 0x10 * i), 12, 0, .img⟩
def CXP_BIND_PARTITION (i : Nat) : Fld := ⟨8 * (0x1810000 + 0x10 * i) + 16, 8, 0, .img⟩
def CXP_BIND_MEM_OK (i : Nat) : Fld := ⟨8 * (0x1810000 + 0x10 * i) + 24, 1, 0, .img⟩
def CXP_BIND_IO_OK (i : Nat) : Fld := ⟨8 * (0x1810000 + 0x10 * i) + 25, 1, 0, .img⟩
def CXP_BIND_PREF_PORT (i : Nat) : Fld := ⟨8 * (0x1810000 + 0x10 * i) + 26, 1, 0, .img⟩
def CXP_BIND_ENTRY_NODE (i : Nat) : Fld := ⟨8 * (0x1810000 + 0x10 * i) + 32, 12, 0, .img⟩
def CXP_BIND_STEP_EFFECTIVE (i : Nat) : Fld := ⟨8 * (0x1810000 + 0x10 * i) + 64, 64, 0, .img⟩
def CXP_RINGHOST_IOWNER (p : Nat) (n : Nat) : Fld := ⟨8 * (0x1813fc0 + 0x40 * p) + 16 * n, 16, 0, .img⟩
def CXP_RINGHOST_SOWNER (p : Nat) (n : Nat) : Fld := ⟨8 * (0x1813fc0 + 0x40 * p) + 256 + 16 * n, 16, 0, .img⟩
def CXP_MSIX_ADDR (i : Nat) : Fld := ⟨8 * (0x1820000 + 0x10 * i) + 2, 62, 0, .rw⟩
def CXP_MSIX_DATA (i : Nat) : Fld := ⟨8 * (0x1820000 + 0x10 * i) + 64, 32, 0, .rw⟩
def CXP_MSIX_MASK (i : Nat) : Fld := ⟨8 * (0x1820000 + 0x10 * i) + 96, 1, 1, .rw⟩
def CXP_PBA : Fld := ⟨8 * 0x1830000, 2048, 0, .ro⟩
def CXP_VEC_PARTITION (i : Nat) : Fld := ⟨8 * (0x1831000 + 0x4 * i) + 12, 7, 0, .img⟩
def CXP_VEC_PID (i : Nat) : Fld := ⟨8 * (0x1831000 + 0x4 * i), 12, 0, .img⟩
def SYNC_VALUE (n : Nat) : Fld := ⟨8 * (0x800000 + 0x40 * n), 64, 0, .ro⟩
def SYNC_ENABLE (n : Nat) : Fld := ⟨8 * (0x800000 + 0x40 * n) + 95, 1, 0, .rw⟩
def SYNC_TYPE (n : Nat) : Fld := ⟨8 * (0x800000 + 0x40 * n) + 92, 3, 0, .rw⟩
def SYNC_RING (n : Nat) : Fld := ⟨8 * (0x800000 + 0x40 * n) + 88, 4, 0, .rw⟩
def SYNC_IRQ (n : Nat) : Fld := ⟨8 * (0x800000 + 0x40 * n) + 76, 1, 0, .rw⟩
def SYNC_VECTOR (n : Nat) : Fld := ⟨8 * (0x800000 + 0x40 * n) + 64, 11, 0, .rw⟩
def SYNC_WAITERS (n : Nat) : Fld := ⟨8 * (0x800000 + 0x40 * n) + 96, 16, 0, .ro⟩
def SYNC_OPS (n : Nat) : Fld := ⟨8 * (0x800000 + 0x40 * n) + 128, 64, 0, .ro⟩

/-! ### Registers of spec/16_ovane_links.md -/
def OVL_CAPS_REPLAY_FLITS : Fld := ⟨8 * 0x1700000 + 32, 10, 512, .ro⟩
def OVL_CAPS_RX_FLITS : Fld := ⟨8 * 0x1700000 + 19, 13, 4096, .ro⟩
def OVL_CAPS_CLASSES : Fld := ⟨8 * 0x1700000 + 15, 4, 11, .ro⟩
def OVL_CAPS_FLIT_BYTES : Fld := ⟨8 * 0x1700000 + 6, 9, 256, .ro⟩
def OVL_CAPS_LANES : Fld := ⟨8 * 0x1700000 + 3, 3, 4, .ro⟩
def OVL_CAPS_LINKS_M1 : Fld := ⟨8 * 0x1700000, 3, 7, .ro⟩
def OVL_CFG_LINK_ENABLE : Fld := ⟨8 * 0x1700008 + 16, 8, 0, .img⟩
def OVL_CFG_ERR_LIMIT : Fld := ⟨8 * 0x1700008 + 4, 12, 64, .img⟩
def OVL_CFG_RETRAIN_MAX : Fld := ⟨8 * 0x1700008, 4, 3, .img⟩
def OVL_STATUS_E2E_EVT : Fld := ⟨8 * 0x170000c + 5, 1, 0, .w1c⟩
def OVL_STATUS_UNROUTABLE_EVT : Fld := ⟨8 * 0x170000c + 4, 1, 0, .w1c⟩
def OVL_STATUS_DEGRADE_EVT : Fld := ⟨8 * 0x170000c + 3, 1, 0, .w1c⟩
def OVL_STATUS_MISWIRE_EVT : Fld := ⟨8 * 0x170000c + 2, 1, 0, .w1c⟩
def OVL_STATUS_LINK_FAIL_EVT : Fld := ⟨8 * 0x170000c + 1, 1, 0, .w1c⟩
def OVL_STATUS_REROUTED : Fld := ⟨8 * 0x170000c, 1, 0, .ro⟩
def OVL_TOPO_DIGEST : Fld := ⟨8 * 0x1700010, 64, 0, .ro⟩
def OVL_LINK_STATE (n : Nat) : Fld := ⟨8 * (0x1700100 + 0x40 * n), 8, 0, .ro⟩
def OVL_LINK_WIDTH (n : Nat) : Fld := ⟨8 * (0x1700100 + 0x40 * n) + 8, 8, 0, .ro⟩
def OVL_LINK_PEER (n : Nat) : Fld := ⟨8 * (0x1700100 + 0x40 * n) + 16, 12, 0, .ro⟩
def OVL_LINK_PEER_LINK (n : Nat) : Fld := ⟨8 * (0x1700100 + 0x40 * n) + 28, 4, 0, .ro⟩
def OVL_LINK_TX_SEQ (n : Nat) : Fld := ⟨8 * (0x1700100 + 0x40 * n) + 32, 10, 0, .ro⟩
def OVL_LINK_RX_ACK (n : Nat) : Fld := ⟨8 * (0x1700100 + 0x40 * n) + 48, 10, 0, .ro⟩
def OVL_LINK_REPLAY_USED (n : Nat) : Fld := ⟨8 * (0x1700100 + 0x40 * n) + 64, 16, 0, .ro⟩
def OVL_LINK_RETRAINS (n : Nat) : Fld := ⟨8 * (0x1700100 + 0x40 * n) + 96, 32, 0, .ro⟩
def OVL_LINK_FEC_CORRECTED (n : Nat) : Fld := ⟨8 * (0x1700100 + 0x40 * n) + 128, 64, 0, .ro⟩
def OVL_LINK_FEC_UNCORRECTABLE (n : Nat) : Fld := ⟨8 * (0x1700100 + 0x40 * n) + 192, 64, 0, .ro⟩
def OVL_LINK_REPLAYS (n : Nat) : Fld := ⟨8 * (0x1700100 + 0x40 * n) + 256, 64, 0, .ro⟩
def OVL_LINK_TX_CREDITS (n : Nat) (k : Nat) : Fld := ⟨8 * (0x1700100 + 0x40 * n) + 320 + 16 * k, 16, 0, .ro⟩
def OVL_CLASS_WEIGHT (c : Nat) : Fld := ⟨8 * (0x1700400 + 0x8 * c) + 24, 8, 8, .img⟩
def OVL_CLASS_BUFFERS (c : Nat) : Fld := ⟨8 * (0x1700400 + 0x8 * c), 13, (ovlClassBuffers c), .img⟩
def OVL_TREE_ROOT (r : Nat) : Fld := ⟨8 * (0x1700500 + 0x10 * r), 16, 0, .img⟩
def OVL_TREE_PARENT (r : Nat) : Fld := ⟨8 * (0x1700500 + 0x10 * r) + 16, 16, 0, .img⟩
def OVL_TREE_PARENT_LINK (r : Nat) : Fld := ⟨8 * (0x1700500 + 0x10 * r) + 32, 8, 0, .img⟩
def OVL_TREE_CHILD_LINKS (r : Nat) : Fld := ⟨8 * (0x1700500 + 0x10 * r) + 40, 8, 0, .img⟩
def OVL_TREE_DEPTH (r : Nat) : Fld := ⟨8 * (0x1700500 + 0x10 * r) + 48, 8, 0, .img⟩
def OVL_TREE_IN_FORCE (r : Nat) : Fld := ⟨8 * (0x1700500 + 0x10 * r) + 56, 8, 0, .img⟩
def OVL_ROUTE_ACTIVE (d : Nat) : Fld := ⟨8 * (0x1710000 + 0x8 * d) + 20, 4, 0, .ro⟩
def OVL_ROUTE_HOPS (d : Nat) : Fld := ⟨8 * (0x1710000 + 0x8 * d) + 16, 4, 0, .img⟩
def OVL_ROUTE_ALT3 (d : Nat) : Fld := ⟨8 * (0x1710000 + 0x8 * d) + 12, 4, 15, .img⟩
def OVL_ROUTE_ALT2 (d : Nat) : Fld := ⟨8 * (0x1710000 + 0x8 * d) + 8, 4, 15, .img⟩
def OVL_ROUTE_ALT1 (d : Nat) : Fld := ⟨8 * (0x1710000 + 0x8 * d) + 4, 4, 15, .img⟩
def OVL_ROUTE_PRIMARY (d : Nat) : Fld := ⟨8 * (0x1710000 + 0x8 * d), 4, 15, .img⟩

/-! ### Registers of spec/17_partitions_and_traffic.md -/
def SHAPE_CAPS_GATE_ENTRIES : Fld := ⟨8 * 0x300000 + 16, 8, 16, .ro⟩
def SHAPE_CAPS_GATE_LISTS : Fld := ⟨8 * 0x300000 + 8, 8, 2, .ro⟩
def SHAPE_CAPS_TICK_NS : Fld := ⟨8 * 0x300000, 8, 40, .ro⟩
def SHAPE_STATUS_GATE_TAKEOVER_EVT : Fld := ⟨8 * 0x300008 + 2, 1, 0, .w1c⟩
def SHAPE_STATUS_PENDING : Fld := ⟨8 * 0x300008 + 1, 1, 0, .ro⟩
def SHAPE_STATUS_ACTIVE_LIST : Fld := ⟨8 * 0x300008, 1, 0, .ro⟩
def SHAPE_ADM_RATE (p : Nat) : Fld := ⟨8 * (0x300fe0 + 0x20 * p), 24, 0, .img⟩
def SHAPE_ADM_BURST (p : Nat) : Fld := ⟨8 * (0x300fe0 + 0x20 * p) + 32, 32, 65536, .img⟩
def SHAPE_ADM_OVERHEAD (p : Nat) : Fld := ⟨8 * (0x300fe0 + 0x20 * p) + 64, 16, 64, .img⟩
def SHAPE_ADM_MODE (p : Nat) : Fld := ⟨8 * (0x300fe0 + 0x20 * p) + 80, 8, 0, .img⟩
def SHAPE_ADM_CREDIT (p : Nat) : Fld := ⟨8 * (0x300fe0 + 0x20 * p) + 128, 64, (65536 * 256), .ro⟩
def SHAPE_LINK_RATE (p : Nat) : Fld := ⟨8 * (0x301f80 + 0x80 * p), 24, 0, .img⟩
def SHAPE_LINK_BURST (p : Nat) : Fld := ⟨8 * (0x301f80 + 0x80 * p) + 32, 32, 65536, .img⟩
def SHAPE_LINK_OVH (p : Nat) : Fld := ⟨8 * (0x301f80 + 0x80 * p) + 64, 16, 11, .img⟩
def SHAPE_LINK_CREDIT (p : Nat) (n : Nat) : Fld := ⟨8 * (0x301f80 + 0x80 * p) + 128 + 64 * n, 64, (65536 * 256), .ro⟩
def SHAPE_PORT_RATE (p : Nat) : Fld := ⟨8 * (0x303fe0 + 0x20 * p), 24, 0, .img⟩
def SHAPE_PORT_BURST (p : Nat) : Fld := ⟨8 * (0x303fe0 + 0x20 * p) + 32, 32, 65536, .img⟩
def SHAPE_PORT_OVH (p : Nat) : Fld := ⟨8 * (0x303fe0 + 0x20 * p) + 64, 16, 24, .img⟩
def SHAPE_PORT_CREDIT (p : Nat) (n : Nat) : Fld := ⟨8 * (0x303fe0 + 0x20 * p) + 128 + 64 * n, 64, (65536 * 256), .ro⟩
def SHAPE_GATE_DURATION (l : Nat) (e : Nat) : Fld := ⟨8 * (0x306000 + 0x100 * l + 0x10 * e), 32, 0, .img⟩
def SHAPE_GATE_MASK (l : Nat) (e : Nat) : Fld := ⟨8 * (0x306000 + 0x100 * l + 0x10 * e) + 64, 64, 0, .img⟩
def SHAPE_GATE_HDR_COUNT (l : Nat) : Fld := ⟨8 * (0x306200 + 0x10 * l), 8, 0, .img⟩
def SHAPE_GATE_HDR_TAKEOVER (l : Nat) : Fld := ⟨8 * (0x306200 + 0x10 * l) + 64, 64, 0, .img⟩

/-! ### Registers of spec/18_safety_and_freeze.md -/
def SAFE_CAPS_GLN_UNITS : Fld := ⟨8 * 0x1a00000 + 32, 8, 32, .ro⟩
def SAFE_CAPS_WIN_UNITS : Fld := ⟨8 * 0x1a00000 + 24, 8, 32, .ro⟩
def SAFE_CAPS_ROUTE_LANES : Fld := ⟨8 * 0x1a00000 + 16, 8, 16, .ro⟩
def SAFE_CAPS_CYCLE_MS : Fld := ⟨8 * 0x1a00000, 16, 10, .ro⟩
def SAFE_POLICY_WDOG_TICKS : Fld := ⟨8 * 0x1a00008 + 16, 16, 2500, .saf⟩
def SAFE_POLICY_FAULT_LIMIT : Fld := ⟨8 * 0x1a00008 + 8, 8, 64, .saf⟩
def SAFE_POLICY_READMIT : Fld := ⟨8 * 0x1a00008 + 6, 2, 0, .saf⟩
def SAFE_POLICY_DEBUG : Fld := ⟨8 * 0x1a00008, 2, 0, .saf⟩
def SAFE_STATUS_TALLY_STUCK : Fld := ⟨8 * 0x1a0000c + 5, 1, 0, .saf⟩
def SAFE_STATUS_CYCLE_LATE : Fld := ⟨8 * 0x1a0000c + 4, 1, 0, .saf⟩
def SAFE_STATUS_FAULT_N_LOW : Fld := ⟨8 * 0x1a0000c + 3, 1, 0, .saf⟩
def SAFE_STATUS_FROZEN : Fld := ⟨8 * 0x1a0000c + 2, 1, 0, .saf⟩
def SAFE_STATUS_LOCKSTEP_FAIL : Fld := ⟨8 * 0x1a0000c + 1, 1, 0, .saf⟩
def SAFE_STATUS_NODE_FAULT : Fld := ⟨8 * 0x1a0000c, 1, 0, .saf⟩
def SAFE_UNITS_GLN_ISO : Fld := ⟨8 * 0x1a00010 + 32, 32, 0, .saf⟩
def SAFE_UNITS_WIN_ISO : Fld := ⟨8 * 0x1a00010 + 16, 16, 0, .saf⟩
def SAFE_UNITS_ROUTE_ISO : Fld := ⟨8 * 0x1a00010, 16, 0, .saf⟩
def SAFE_LOG_COUNT : Fld := ⟨8 * 0x1a00018, 64, 0, .saf⟩
def SAFE_LOG_STEP (n : Nat) : Fld := ⟨8 * (0x1a10000 + 0x20 * n), 64, 0, .saf⟩
def SAFE_LOG_MECH (n : Nat) : Fld := ⟨8 * (0x1a10000 + 0x20 * n) + 64, 8, 0, .saf⟩
def SAFE_LOG_CLASS (n : Nat) : Fld := ⟨8 * (0x1a10000 + 0x20 * n) + 72, 8, 0, .saf⟩
def SAFE_LOG_UNIT (n : Nat) : Fld := ⟨8 * (0x1a10000 + 0x20 * n) + 80, 16, 0, .saf⟩
def SAFE_LOG_REACTION (n : Nat) : Fld := ⟨8 * (0x1a10000 + 0x20 * n) + 96, 8, 0, .saf⟩
def SAFE_LOG_WITHHELD (n : Nat) : Fld := ⟨8 * (0x1a10000 + 0x20 * n) + 128, 32, 0, .saf⟩
def SAFE_LOG_DETAIL (n : Nat) : Fld := ⟨8 * (0x1a10000 + 0x20 * n) + 160, 64, 0, .saf⟩
def DBG_CAPS_PORT_MBS : Fld := ⟨8 * 0x1d00000 + 8, 16, 100, .ro⟩
def DBG_CAPS_IR_BITS : Fld := ⟨8 * 0x1d00000, 8, 8, .ro⟩
def DBG_IDCODE_VERSION : Fld := ⟨8 * 0x1d00008 + 28, 4, Config.dieVersion.toNat, .ro⟩
def DBG_IDCODE_PART : Fld := ⟨8 * 0x1d00008 + 12, 16, 3592, .ro⟩
def DBG_IDCODE_MAKER : Fld := ⟨8 * 0x1d00008 + 1, 11, Config.dieMaker.toNat, .ro⟩
def DBG_IDCODE_ONE : Fld := ⟨8 * 0x1d00008, 1, 1, .ro⟩
def DBG_STATUS_QUIESCENT : Fld := ⟨8 * 0x1d0000c + 3, 1, 0, .ro⟩
def DBG_STATUS_LATCH : Fld := ⟨8 * 0x1d0000c + 2, 1, 0, .ro⟩
def DBG_STATUS_PIN : Fld := ⟨8 * 0x1d0000c + 1, 1, 0, .ro⟩
def DBG_STATUS_FROZEN : Fld := ⟨8 * 0x1d0000c, 1, 0, .ro⟩
def DBG_CORE_EXC_CAUSE (c : Nat) : Fld := ⟨8 * (0x1d00100 + 0x8 * c) + 32, 8, 0, .ro⟩
def DBG_CORE_EXC_BUNDLE (c : Nat) : Fld := ⟨8 * (0x1d00100 + 0x8 * c), 20, 0, .ro⟩

/-! ### Registers of spec/19_configuration_and_startup.md -/
def CFG_CAPS_MAX_RECORD_BYTES : Fld := ⟨8 * 0x1b00000 + 40, 16, 65528, .ro⟩
def CFG_CAPS_STAGE_SLOTS : Fld := ⟨8 * 0x1b00000 + 32, 8, 8, .ro⟩
def CFG_CAPS_MAX_IMAGE_MIB : Fld := ⟨8 * 0x1b00000 + 16, 16, 64, .ro⟩
def CFG_CAPS_MEMBER : Fld := ⟨8 * 0x1b00000, 8, 8, .ro⟩
def CFG_STATUS_FAIL_REASON : Fld := ⟨8 * 0x1b00008 + 12, 4, 0, .ro⟩
def CFG_STATUS_LOG_FAIL : Fld := ⟨8 * 0x1b00008 + 11, 1, 0, .ro⟩
def CFG_STATUS_APPLY_STALL : Fld := ⟨8 * 0x1b00008 + 10, 1, 0, .ro⟩
def CFG_STATUS_AMEND_EVT : Fld := ⟨8 * 0x1b00008 + 9, 1, 0, .w1c⟩
def CFG_STATUS_STRAP_G1 : Fld := ⟨8 * 0x1b00008 + 8, 1, 0, .ro⟩
def CFG_STATUS_STRAP_CFG_SEL : Fld := ⟨8 * 0x1b00008 + 7, 1, 0, .ro⟩
def CFG_STATUS_FROM_B : Fld := ⟨8 * 0x1b00008 + 6, 1, 0, .ro⟩
def CFG_STATUS_FALLBACK : Fld := ⟨8 * 0x1b00008 + 5, 1, 0, .ro⟩
def CFG_STATUS_IMG_VALID_B : Fld := ⟨8 * 0x1b00008 + 4, 1, 0, .ro⟩
def CFG_STATUS_IMG_VALID_A : Fld := ⟨8 * 0x1b00008 + 3, 1, 0, .ro⟩
def CFG_STATUS_STAGE : Fld := ⟨8 * 0x1b00008, 3, 0, .ro⟩
def CFG_AMEND_CFG_FORM_WAIT_S : Fld := ⟨8 * 0x1b0000c + 16, 16, 60, .img⟩
def CFG_AMEND_CFG_AMEND_LEAD : Fld := ⟨8 * 0x1b0000c, 16, 1024, .img⟩
def CFG_HEAD : Fld := ⟨8 * 0x1b00010, 64, 0, .ro⟩
def CFG_COUNTS_STALLS : Fld := ⟨8 * 0x1b00018 + 48, 16, 0, .ro⟩
def CFG_COUNTS_LOG_FAILS : Fld := ⟨8 * 0x1b00018 + 32, 16, 0, .ro⟩
def CFG_COUNTS_REFUSED : Fld := ⟨8 * 0x1b00018 + 16, 16, 0, .ro⟩
def CFG_COUNTS_ACCEPTED : Fld := ⟨8 * 0x1b00018, 16, 0, .ro⟩
def CFG_HEAD_DIGEST : Fld := ⟨8 * 0x1b00020, 256, 0, .ro⟩
def CFG_IMAGE_DIGEST : Fld := ⟨8 * 0x1b00040, 256, 0, .ro⟩
def CFG_LOG_FREE_KIB : Fld := ⟨8 * 0x1b00060 + 32, 32, 0, .ro⟩
def CFG_LOG_USED_KIB : Fld := ⟨8 * 0x1b00060, 32, 0, .ro⟩
def CFG_STAGE_OP (p : Nat) (n : Nat) : Fld := ⟨8 * (0x1b0f000 + 0x1000 * p + 0x40 * n), 8, 0, .rw⟩
def CFG_STAGE_STATUS (p : Nat) (n : Nat) : Fld := ⟨8 * (0x1b0f000 + 0x1000 * p + 0x40 * n) + 8, 8, 0, .rw⟩
def CFG_STAGE_DONE (p : Nat) (n : Nat) : Fld := ⟨8 * (0x1b0f000 + 0x1000 * p + 0x40 * n) + 16, 8, 0, .rw⟩
def CFG_STAGE_REASON (p : Nat) (n : Nat) : Fld := ⟨8 * (0x1b0f000 + 0x1000 * p + 0x40 * n) + 24, 8, 0, .rw⟩
def CFG_STAGE_LENGTH (p : Nat) (n : Nat) : Fld := ⟨8 * (0x1b0f000 + 0x1000 * p + 0x40 * n) + 32, 32, 0, .rw⟩
def CFG_STAGE_ADDR (p : Nat) (n : Nat) : Fld := ⟨8 * (0x1b0f000 + 0x1000 * p + 0x40 * n) + 64, 64, 0, .rw⟩
def CFG_STAGE_TAG (p : Nat) (n : Nat) : Fld := ⟨8 * (0x1b0f000 + 0x1000 * p + 0x40 * n) + 128, 64, 0, .rw⟩
def CFG_STAGE_SEQ (p : Nat) (n : Nat) : Fld := ⟨8 * (0x1b0f000 + 0x1000 * p + 0x40 * n) + 192, 64, 0, .rw⟩
def CFG_STAGE_STEP (p : Nat) (n : Nat) : Fld := ⟨8 * (0x1b0f000 + 0x1000 * p + 0x40 * n) + 256, 64, 0, .rw⟩
def SEC_CAPS_REPORT_SLOTS : Fld := ⟨8 * 0x1c00000 + 24, 8, 4, .ro⟩
def SEC_CAPS_KEY_SLOTS_M1 : Fld := ⟨8 * 0x1c00000 + 16, 8, 255, .ro⟩
def SEC_CAPS_MEAS_BLOCKS : Fld := ⟨8 * 0x1c00000 + 8, 8, 8, .ro⟩
def SEC_CAPS_SPDM_VERSION : Fld := ⟨8 * 0x1c00000, 8, 18, .ro⟩
def SEC_STATUS_REPORT_EVT (p : Nat) : Fld := ⟨8 * 0x1c00008 + 4 + 0x100000000 * p, 1, 0, .w1c⟩
def SEC_STATUS_KEY_UNWRAP_FAIL_EVT : Fld := ⟨8 * 0x1c00008 + 3, 1, 0, .w1c⟩
def SEC_STATUS_PUF_MARGIN : Fld := ⟨8 * 0x1c00008 + 2, 1, 0, .ro⟩
def SEC_STATUS_ID_OK : Fld := ⟨8 * 0x1c00008 + 1, 1, 0, .ro⟩
def SEC_STATUS_PUF_DONE : Fld := ⟨8 * 0x1c00008, 1, 0, .ro⟩
def SEC_ID_PUB : Fld := ⟨8 * 0x1c00040, 512, 0, .ro⟩
def SEC_OWNER_DIGEST : Fld := ⟨8 * 0x1c00080, 256, 0, .ro⟩
def SEC_SAFETY_DIGEST : Fld := ⟨8 * 0x1c000a0, 256, 0, .ro⟩
def SEC_REPORT_OP (p : Nat) (n : Nat) : Fld := ⟨8 * (0x1c0f000 + 0x1000 * p + 0x40 * n), 8, 0, .rw⟩
def SEC_REPORT_STATUS (p : Nat) (n : Nat) : Fld := ⟨8 * (0x1c0f000 + 0x1000 * p + 0x40 * n) + 8, 8, 0, .rw⟩
def SEC_REPORT_DONE (p : Nat) (n : Nat) : Fld := ⟨8 * (0x1c0f000 + 0x1000 * p + 0x40 * n) + 16, 8, 0, .rw⟩
def SEC_REPORT_LENGTH (p : Nat) (n : Nat) : Fld := ⟨8 * (0x1c0f000 + 0x1000 * p + 0x40 * n) + 32, 32, 0, .rw⟩
def SEC_REPORT_STEP (p : Nat) (n : Nat) : Fld := ⟨8 * (0x1c0f000 + 0x1000 * p + 0x40 * n) + 64, 64, 0, .rw⟩
def SEC_REPORT_DST (p : Nat) (n : Nat) : Fld := ⟨8 * (0x1c0f000 + 0x1000 * p + 0x40 * n) + 128, 64, 0, .rw⟩
def SEC_REPORT_NONCE (p : Nat) (n : Nat) : Fld := ⟨8 * (0x1c0f000 + 0x1000 * p + 0x40 * n) + 192, 64, 0, .rw⟩
def SEC_REPORT_CAPACITY (p : Nat) (n : Nat) : Fld := ⟨8 * (0x1c0f000 + 0x1000 * p + 0x40 * n) + 256, 32, 0, .rw⟩

/-! ### Registers of spec/20_module_electrical.md -/
def NODE_PWR_CFG_CAP_W : Fld := ⟨8 * 0x200 + 16, 11, 1400, .img⟩
def NODE_PWR_CFG_VMAX_10MV : Fld := ⟨8 * 0x200, 7, 85, .img⟩
def NODE_PWR_STATUS_INPUT_W : Fld := ⟨8 * 0x208 + 48, 16, 0, .ro⟩
def NODE_PWR_STATUS_VIN_100MV : Fld := ⟨8 * 0x208 + 39, 9, 0, .ro⟩
def NODE_PWR_STATUS_VCORE_10MV : Fld := ⟨8 * 0x208 + 32, 7, 0, .ro⟩
def NODE_PWR_STATUS_DIE_C : Fld := ⟨8 * 0x208 + 24, 8, 0, .ro⟩
def NODE_PWR_STATUS_SCAN_PCT : Fld := ⟨8 * 0x208 + 17, 7, 100, .ro⟩
def NODE_PWR_STATUS_THERMAL_TRIP : Fld := ⟨8 * 0x208 + 5, 1, 0, .ro⟩
def NODE_PWR_STATUS_THERM_ASSERTED : Fld := ⟨8 * 0x208 + 4, 1, 0, .ro⟩
def NODE_PWR_STATUS_CAP_UNMET : Fld := ⟨8 * 0x208 + 3, 1, 0, .ro⟩
def NODE_PWR_STATUS_LIMITING : Fld := ⟨8 * 0x208 + 2, 1, 0, .ro⟩
def NODE_PWR_STATUS_PWR_FAIL_SEEN : Fld := ⟨8 * 0x208 + 1, 1, 0, .ro⟩
def NODE_PWR_STATUS_UNDERVOLT : Fld := ⟨8 * 0x208, 1, 0, .ro⟩

/-! ### Registers of spec/22_address_map.md -/
def NODE_IDENT_PART : Fld := ⟨8 * 0x0 + 48, 16, 3592, .ro⟩
def NODE_IDENT_MAP_VERSION : Fld := ⟨8 * 0x0 + 32, 8, 1, .ro⟩
def NODE_IDENT_NODE_ID : Fld := ⟨8 * 0x0 + 16, 12, 0, .ro⟩
def NODE_IDENT_MEMBER : Fld := ⟨8 * 0x0, 8, 8, .ro⟩
def NODE_STATUS_NODE_FAULT : Fld := ⟨8 * 0x8 + 7, 1, 0, .ro⟩
def NODE_STATUS_FROZEN : Fld := ⟨8 * 0x8 + 6, 1, 0, .ro⟩
def NODE_STATUS_MEMBER : Fld := ⟨8 * 0x8 + 5, 1, 0, .ro⟩
def NODE_STATUS_RECOVERING : Fld := ⟨8 * 0x8 + 4, 1, 0, .ro⟩
def NODE_STATUS_SWAP_ONLY : Fld := ⟨8 * 0x8 + 3, 1, 1, .ro⟩
def NODE_STATUS_STAGE : Fld := ⟨8 * 0x8, 3, 0, .ro⟩

/-! ### Registers of spec/04_query_path.md -/
def INT_CAPS_MAX_PROBES (p : Nat) : Fld := ⟨8 * (0x3f0000 + 0x10000 * p) + 48, 13, 4096, .ro⟩
def INT_CAPS_MAX_RERANK (p : Nat) : Fld := ⟨8 * (0x3f0000 + 0x10000 * p) + 32, 13, 4096, .ro⟩
def INT_CAPS_MAX_K (p : Nat) : Fld := ⟨8 * (0x3f0000 + 0x10000 * p) + 16, 11, 1024, .ro⟩
def INT_CAPS_MAX_UNITS (p : Nat) : Fld := ⟨8 * (0x3f0000 + 0x10000 * p), 9, 256, .ro⟩
def INT_STATUS_DISABLED (p : Nat) : Fld := ⟨8 * (0x3f0008 + 0x10000 * p) + 3, 1, 0, .ro⟩
def INT_STATUS_BAD_DOORBELL_EVT (p : Nat) : Fld := ⟨8 * (0x3f0008 + 0x10000 * p) + 2, 1, 0, .w1c⟩
def INT_STATUS_RING_WAIT (p : Nat) : Fld := ⟨8 * (0x3f0008 + 0x10000 * p) + 1, 1, 0, .ro⟩
def INT_STATUS_CRC_EVT (p : Nat) : Fld := ⟨8 * (0x3f0008 + 0x10000 * p), 1, 0, .w1c⟩
def INT_INFLIGHT (p : Nat) : Fld := ⟨8 * (0x3f000c + 0x10000 * p), 20, 0, .ro⟩
def IRING_BASE (p : Nat) (n : Nat) : Fld := ⟨8 * (0x3f1000 + 0x10000 * p + 0x20 * n) + 6, 58, 0, .img⟩
def SRING_BASE (p : Nat) (n : Nat) : Fld := ⟨8 * (0x3f2000 + 0x10000 * p + 0x20 * n) + 6, 58, 0, .img⟩
def IRING_CTL_ENABLE (p : Nat) (n : Nat) : Fld := ⟨8 * (0x3f1008 + 0x10000 * p + 0x20 * n) + 31, 1, 0, .img⟩
def IRING_CTL_LOG2_SIZE (p : Nat) (n : Nat) : Fld := ⟨8 * (0x3f1008 + 0x10000 * p + 0x20 * n) + 16, 5, 6, .img⟩
def SRING_CTL_ENABLE (p : Nat) (n : Nat) : Fld := ⟨8 * (0x3f2008 + 0x10000 * p + 0x20 * n) + 31, 1, 0, .img⟩
def SRING_CTL_LOG2_SIZE (p : Nat) (n : Nat) : Fld := ⟨8 * (0x3f2008 + 0x10000 * p + 0x20 * n) + 26, 5, 2, .img⟩
def SRING_CTL_SLOT_UNITS (p : Nat) (n : Nat) : Fld := ⟨8 * (0x3f2008 + 0x10000 * p + 0x20 * n) + 11, 9, 2, .img⟩
def SRING_CTL_VECTOR (p : Nat) (n : Nat) : Fld := ⟨8 * (0x3f2008 + 0x10000 * p + 0x20 * n), 11, 0, .img⟩
def IRING_TAIL (p : Nat) (n : Nat) : Fld := ⟨8 * (0x3f100c + 0x10000 * p + 0x20 * n), 17, 0, .rw⟩
def IRING_HEAD (p : Nat) (n : Nat) : Fld := ⟨8 * (0x3f1010 + 0x10000 * p + 0x20 * n), 17, 0, .ro⟩
def SRING_HEAD (p : Nat) (n : Nat) : Fld := ⟨8 * (0x3f200c + 0x10000 * p + 0x20 * n), 17, 0, .rw⟩
def SRING_TAIL (p : Nat) (n : Nat) : Fld := ⟨8 * (0x3f2010 + 0x10000 * p + 0x20 * n), 17, 0, .ro⟩

/-! ### Registers of spec/17_partitions_and_traffic.md -/
def PART_ID_HOSTS (p : Nat) : Fld := ⟨8 * (0x1ff000 + 0x1000 * p) + 16, 10, 0, .ro⟩
def PART_ID_PARTITION (p : Nat) : Fld := ⟨8 * (0x1ff000 + 0x1000 * p), 7, p, .ro⟩
def PART_CFG_ENABLE (p : Nat) : Fld := ⟨8 * (0x1ff004 + 0x1000 * p) + 31, 1, 0, .img⟩
def PART_CFG_COMPAT (p : Nat) : Fld := ⟨8 * (0x1ff004 + 0x1000 * p) + 30, 1, 0, .img⟩
def PART_STATUS_DISABLING (p : Nat) : Fld := ⟨8 * (0x1ff008 + 0x1000 * p) + 3, 1, 0, .ro⟩
def PART_STATUS_GATE_WAIT (p : Nat) : Fld := ⟨8 * (0x1ff008 + 0x1000 * p) + 2, 1, 0, .ro⟩
def PART_STATUS_CREDIT_WAIT (p : Nat) : Fld := ⟨8 * (0x1ff008 + 0x1000 * p) + 1, 1, 0, .ro⟩
def PART_STATUS_INFLIGHT_FULL (p : Nat) : Fld := ⟨8 * (0x1ff008 + 0x1000 * p), 1, 0, .ro⟩
def PART_QUOTA_MAX_INFLIGHT (p : Nat) : Fld := ⟨8 * (0x1ff010 + 0x1000 * p) + 48, 16, 4096, .img⟩
def PART_QUOTA_MAX_MODELS (p : Nat) : Fld := ⟨8 * (0x1ff010 + 0x1000 * p) + 32, 10, 0, .img⟩
def PART_QUOTA_MAX_COLL (p : Nat) : Fld := ⟨8 * (0x1ff010 + 0x1000 * p) + 16, 13, 0, .img⟩
def PART_QUOTA_MAX_TABLES (p : Nat) : Fld := ⟨8 * (0x1ff010 + 0x1000 * p), 11, 0, .img⟩
def PART_USE_MAX_INFLIGHT (p : Nat) : Fld := ⟨8 * (0x1ff020 + 0x1000 * p) + 48, 16, 0, .ro⟩
def PART_USE_MAX_MODELS (p : Nat) : Fld := ⟨8 * (0x1ff020 + 0x1000 * p) + 32, 10, 0, .ro⟩
def PART_USE_MAX_COLL (p : Nat) : Fld := ⟨8 * (0x1ff020 + 0x1000 * p) + 16, 13, 0, .ro⟩
def PART_USE_MAX_TABLES (p : Nat) : Fld := ⟨8 * (0x1ff020 + 0x1000 * p), 11, 0, .ro⟩
def PART_SYNC_SYNC_COUNT (p : Nat) : Fld := ⟨8 * (0x1ff018 + 0x1000 * p) + 32, 18, 0, .img⟩
def PART_SYNC_SYNC_BASE (p : Nat) : Fld := ⟨8 * (0x1ff018 + 0x1000 * p), 17, 0, .img⟩
def PART_EFFECTIVE (p : Nat) : Fld := ⟨8 * (0x1ff028 + 0x1000 * p), 64, 0, .ro⟩
def PART_EVT_STATUS (p : Nat) (k : Nat) : Fld := ⟨8 * (0x1ff030 + 0x1000 * p) + 1 * k, 1, 0, .w1c⟩
def PART_EVT_CFG_ENABLE (p : Nat) : Fld := ⟨8 * (0x1ff038 + 0x1000 * p) + 31, 1, 0, .rw⟩
def PART_EVT_CFG_VECTOR (p : Nat) : Fld := ⟨8 * (0x1ff038 + 0x1000 * p), 11, 0, .rw⟩

/-! ### Registers of spec/18_safety_and_freeze.md -/
def TALLY_PART_OVF (p : Nat) (i : Nat) : Fld := ⟨8 * (0x1900000 + 0x1000 * p + 0x8 * i) + 63, 1, 0, .ctr⟩
def TALLY_PART_COUNT (p : Nat) (i : Nat) : Fld := ⟨8 * (0x1900000 + 0x1000 * p + 0x8 * i), 48, 0, .ctr⟩

/-- The registers of spec file 02, as the map REGISTER_WRITE and DBG_READ consult. -/
def map02 : List RegDesc := [
  ⟨0x100000, [], 8, fun _ _ _ => [STEP_OPEN], []⟩,
  ⟨0x100008, [], 8, fun _ _ _ => [STEP_EXEC], []⟩,
  ⟨0x100010, [], 8, fun _ _ _ => [STEP_COMMITTED], []⟩,
  ⟨0x100018, [], 8, fun _ _ _ => [STEP_OLDEST], []⟩,
  ⟨0x100020, [], 4, fun _ _ _ => [STEP_WINDOW], [(18, 14)]⟩,
  ⟨0x100024, [], 4, fun _ _ _ => [STEP_MEMB_CFG], [(21, 11)]⟩,
  ⟨0x100028, [], 4, fun _ _ _ => [STEP_ROLE_IS_ROOT, STEP_ROLE_ROOT_ID, STEP_ROLE_NODE_ID], [(12, 4), (29, 3)]⟩,
  ⟨0x10002c, [], 4, fun _ _ _ => [STEP_EPOCH], []⟩,
  ⟨0x100030, [], 4, fun _ _ _ => [STEP_STATUS_NO_ROOT, STEP_STATUS_EXCLUDE_EVT, STEP_STATUS_JOIN_EVT, STEP_STATUS_SELF_ISOLATED, STEP_STATUS_RECOVERING, STEP_STATUS_STALL_PDS, STEP_STATUS_STALL_MEMB, STEP_STATUS_STALL_HORIZON, STEP_STATUS_STALL_WAIT], [(9, 23)]⟩,
  ⟨0x100034, [], 4, fun _ _ _ => [STEP_PDS], [(21, 11)]⟩,
  ⟨0x100038, [], 8, fun _ _ _ => [STEP_ROOTS_CAND3, STEP_ROOTS_CAND2, STEP_ROOTS_CAND1, STEP_ROOTS_CAND0], [(12, 4), (28, 4), (44, 4), (60, 4)]⟩,
  ⟨0x100200, [], 512, fun _ _ _ => [STEP_MEMBERS], []⟩,
  ⟨0x100400, [], 512, fun _ _ _ => [STEP_SUSPECTS], []⟩]

/-- The registers of spec file 03, as the map REGISTER_WRITE and DBG_READ consult. -/
def map03 : List RegDesc := [
  ⟨0x1000000, [], 8, fun _ _ _ => [COLL_CAPS_MAX_DEGREE, COLL_CAPS_MAX_FILTERS, COLL_CAPS_BRUTE_MAX, COLL_CAPS_MAX_COLL], [(13, 3), (35, 13)]⟩,
  ⟨0x1000008, [], 4, fun _ _ p => [COLL_ACTIVE p], [(13, 19)]⟩,
  ⟨0x100000c, [], 4, fun _ _ p => [COLL_STATUS_UPKEEP_STALL p, COLL_STATUS_FILTER_READY_EVT p, COLL_STATUS_REBUILD_EVT p, COLL_STATUS_MERGE_EVT p, COLL_STATUS_SPLIT_EVT p], [(5, 27)]⟩,
  ⟨0x1040000, [(0x20, 4096)], 32, fun i _ _ => [COLL_RUN_ENTRIES i, COLL_RUN_LISTS_LIVE i, COLL_RUN_TOMBSTONES i, COLL_RUN_GRAPH_GEN i, COLL_RUN_FILTER_LIVE i, COLL_RUN_FILTER_LOADING i, COLL_RUN_STATE i, COLL_RUN_HELD i], [(203, 5), (208, 48)]⟩,
  ⟨0x1080000, [(0x80, 4096)], 128, fun i _ _ => [COLL_DESC_HANDLE i, COLL_DESC_PARTITION i, COLL_DESC_STATE i, COLL_DESC_METRIC i, COLL_DESC_ELEM i, COLL_DESC_DIM i, COLL_DESC_SKETCH_W i, COLL_DESC_SPILL_MARGIN i, COLL_DESC_FILTERS i, COLL_DESC_ROUTE_MODE i, COLL_DESC_SHARDS i, COLL_DESC_ROUTE_SHIFT i, COLL_DESC_GRAPH_DEGREE i, COLL_DESC_LISTS i, COLL_DESC_SPLIT_LEN i, COLL_DESC_MERGE_LEN i, COLL_DESC_COMPACT_FRAC i, COLL_DESC_REBUILD_FRAC i, COLL_DESC_ROUTE_BEAM i, COLL_DESC_ROUTE_MAXEXP i, COLL_DESC_UPKEEP_LAG i, COLL_DESC_GRAPH_LAG i, COLL_DESC_PROJ_ADDR i, COLL_DESC_CENT_ADDR i, COLL_DESC_GRAPH_ADDR i, COLL_DESC_ENCODER i, COLL_DESC_SCORE_MAP i, COLL_DESC_STEP_EFFECTIVE i, COLL_DESC_PROJ_DIGEST i, COLL_DESC_SHARD_MAP i], [(12, 4), (960, 64)]⟩,
  ⟨0x1060000, [(0x40, 1024)], 64, fun i _ _ => [COLL_SMAP_MAP_ID i, COLL_SMAP_PARTITION i, COLL_SMAP_STATE i, COLL_SMAP_X0 i, COLL_SMAP_INV_STEP i, COLL_SMAP_STEP_EFFECTIVE i, COLL_SMAP_SOURCE i, COLL_SMAP_DIGEST i], [(48, 16)]⟩]

/-- The registers of spec file 07, as the map REGISTER_WRITE and DBG_READ consult. -/
def map07 : List RegDesc := [
  ⟨0x1100000, [], 8, fun _ _ _ => [NBU_CAPS_BANKS, NBU_CAPS_MAX_L, NBU_CAPS_ROW_BYTES, NBU_CAPS_CHUNK_BYTES], [(46, 18)]⟩,
  ⟨0x1100008, [], 4, fun _ _ _ => [NBU_CFG], [(4, 28)]⟩,
  ⟨0x110000c, [], 4, fun _ _ _ => [NBU_STATUS_FALLBACK, NBU_STATUS_GOV_HOLD, NBU_STATUS_ISOLATE_EVT, NBU_STATUS_TAIL_FAIL_EVT, NBU_STATUS_DSC_FAIL_EVT], [(5, 27)]⟩,
  ⟨0x1100010, [], 4, fun _ _ _ => [NBU_GOV], [(14, 18)]⟩,
  ⟨0x1100014, [], 4, fun _ _ _ => [NBU_ISO_COUNT], [(14, 18)]⟩,
  ⟨0x1100100, [(0x4, 8)], 4, fun i _ _ => [NBU_STACK_ISOLATED i, NBU_STACK_GOV_HOLD i, NBU_STACK_HOT i], [(13, 19)]⟩,
  ⟨0x1100400, [], 1024, fun _ _ _ => [NBU_ISOLATED], []⟩]

/-- The registers of spec file 08, as the map REGISTER_WRITE and DBG_READ consult. -/
def map08 : List RegDesc := [
  ⟨0x1200000, [], 8, fun _ _ _ => [STACK_CAPS_SPARE_ROWS, STACK_CAPS_SPARE_VIAS, STACK_CAPS_ROWS, STACK_CAPS_RESERVE_MIB, STACK_CAPS_CHANNELS], []⟩,
  ⟨0x1200008, [], 4, fun _ _ _ => [STACK_CFG_SCRUB_HOURS, STACK_CFG_REBUILD_GBPS, STACK_CFG_REBUILD_FLASH_PCT, STACK_CFG_UC_BANKS, STACK_CFG_ERASE_MAX], [(3, 5)]⟩,
  ⟨0x120000c, [], 4, fun _ _ _ => [STACK_STATUS_RESERVE_EXHAUSTED, STACK_STATUS_REBUILDING, STACK_STATUS_THERM_EVT, STACK_STATUS_CH_FAIL_EVT, STACK_STATUS_UC_EVT, STACK_STATUS_ROW_REPAIR_EVT, STACK_STATUS_VIA_REPAIR_EVT, STACK_STATUS_HOT], [(8, 24)]⟩,
  ⟨0x1200010, [], 4, fun _ _ _ => [STACK_RESERVE_FAILED_CH, STACK_RESERVE_FREE_MIB], [(15, 1), (25, 7)]⟩,
  ⟨0x1200014, [], 4, fun _ _ _ => [STACK_TEST_TEST_REQ, STACK_TEST_CHANNEL, STACK_TEST_MODE], [(0, 8), (20, 11)]⟩,
  ⟨0x1200018, [], 4, fun _ _ _ => [STACK_ERRLOG_COUNT], []⟩,
  ⟨0x1200100, [(0x8, 8)], 8, fun i _ _ => [STACK_TEMP_MAX_C i, STACK_TEMP_MIN_C i, STACK_TEMP_HOTTEST_DIE i, STACK_TEMP_CRIT i, STACK_TEMP_SCAN_HALVED i, STACK_TEMP_HOT i], [(0, 1), (4, 16), (40, 24)]⟩,
  ⟨0x1201000, [(0x10, 512)], 16, fun i _ _ => [STACK_CH_STATE i, STACK_CH_SPARE_VIAS_USED i, STACK_CH_ROW_SPARES_MAX i, STACK_CH_ERASURES i], [(96, 32)]⟩,
  ⟨0x1204000, [(0x10, 1024)], 16, fun i _ _ => [STACK_ERRLOG_STEP i, STACK_ERRLOG_CHANNEL i, STACK_ERRLOG_BANK i, STACK_ERRLOG_CLASS i, STACK_ERRLOG_ROW i, STACK_ERRLOG_COLUMN i, STACK_ERRLOG_OUTCOME i], [(117, 3)]⟩]

/-- The registers of spec file 09, as the map REGISTER_WRITE and DBG_READ consult. -/
def map09 : List RegDesc := [
  ⟨0x1300000, [], 8, fun _ _ _ => [GRAN_CAPS_MAP_UNIT, GRAN_CAPS_FRAME_BYTES, GRAN_CAPS_CHANNELS, GRAN_CAPS_MAX_LUNS], [(0, 4), (13, 19)]⟩,
  ⟨0x1300008, [], 4, fun _ _ _ => [GRAN_CFG_OP_PCT, GRAN_CFG_CKPT_SECONDS, GRAN_CFG_RETRY_MAX, GRAN_CFG_IDX_BATCH, GRAN_CFG_FLUSH_MIB], []⟩,
  ⟨0x130000c, [], 4, fun _ _ _ => [GRAN_STATUS_CH_MISSING, GRAN_STATUS_FLUSHING, GRAN_STATUS_FLUSH_STALL, GRAN_STATUS_LUN_FAIL_EVT, GRAN_STATUS_RETIRE_EVT, GRAN_STATUS_UC_EVT, GRAN_STATUS_REPLAYING], [(7, 25)]⟩,
  ⟨0x1300010, [], 8, fun _ _ _ => [GRAN_AGE_OFFLINE_EST, GRAN_AGE_AGE], []⟩,
  ⟨0x1300018, [], 8, fun _ _ _ => [GRAN_LEASE], []⟩,
  ⟨0x1300020, [], 8, fun _ _ _ => [GRAN_SPACE_ALLOC_GIB, GRAN_SPACE_USER_GIB], []⟩,
  ⟨0x1300028, [], 4, fun _ _ _ => [GRAN_UNPROG], [(17, 15)]⟩,
  ⟨0x1300100, [(0x10, 16)], 16, fun i _ _ => [GRAN_CH_STATE i, GRAN_CH_MODE i, GRAN_CH_MTS i, GRAN_CH_LUNS i, GRAN_CH_FAILED_LUNS i, GRAN_CH_BAD_BLOCKS i, GRAN_CH_MAX_ERASE i], [(112, 16)]⟩,
  ⟨0x1301000, [(0x8, 512)], 8, fun i _ _ => [GRAN_THR_RETRY_START i] ++ (List.range 7).map (GRAN_THR_OFFSET i), []⟩,
  ⟨0x1302000, [(0x10, 256)], 16, fun i _ _ => [GRAN_REGION_BASE i, GRAN_REGION_PAGES i, GRAN_REGION_KIND i, GRAN_REGION_PARTITION i, GRAN_REGION_HANDLE i, GRAN_REGION_SHARD i], [(112, 16)]⟩]

/-- The registers of spec file 10, as the map REGISTER_WRITE and DBG_READ consult. -/
def map10 : List RegDesc := [
  ⟨0x1400000, [], 8, fun _ _ _ => [ENC_CAPS_CORES, ENC_CAPS_CLUSTERS, ENC_CAPS_DELTA, ENC_CAPS_VQ, ENC_CAPS_MAX_TOK, ENC_CAPS_LOFT_MIB, ENC_CAPS_SCRATCH_KIB], [(41, 9)]⟩,
  ⟨0x1400008, [], 4, fun _ _ _ => [ENC_CFG_SAT_LOG2, ENC_CFG_BACKLOG_MAX], [(21, 11)]⟩,
  ⟨0x140000c, [], 4, fun _ _ p => [ENC_STATUS_CHAIN_EVT, ENC_STATUS_MODEL_UNAVAIL p, ENC_STATUS_ISOLATE_EVT, ENC_STATUS_SAT_EVT, ENC_STATUS_BACKLOG_FULL, ENC_STATUS_LOFT_WAIT, ENC_STATUS_STREAM_STALL], [(7, 25)]⟩,
  ⟨0x1400010, [], 8, fun _ _ _ => [ENC_LOFT_POOL_FREE_B, ENC_LOFT_POOL_FREE_A, ENC_LOFT_RESERVED_B, ENC_LOFT_RESERVED_A], []⟩,
  ⟨0x1400018, [], 4, fun _ _ _ => [ENC_BACKLOG], [(13, 19)]⟩,
  ⟨0x1400020, [], 8, fun _ _ _ => [ENC_ISOLATED], []⟩,
  ⟨0x1400100, [(0x8, 8)], 8, fun i _ _ => [ENC_CLUSTER_MODEL_ID i, ENC_CLUSTER_LAYER i, ENC_CLUSTER_BUSY i, ENC_CLUSTER_STALL i, ENC_CLUSTER_ACTIVE i], [(1, 1), (4, 4), (24, 8)]⟩,
  ⟨0x1400200, [(0x4, 64)], 4, fun i _ _ => [ENC_LOFT_MIN_HALF_B (i + 1), ENC_LOFT_MIN_HALF_A (i + 1)], []⟩,
  ⟨0x1410000, [(0x80, 256)], 128, fun i _ _ => [ENC_MODEL_MODEL_ID i, ENC_MODEL_PARTITION i, ENC_MODEL_STATE i, ENC_MODEL_KIND i, ENC_MODEL_FORM i, ENC_MODEL_WIDTH i, ENC_MODEL_LAYERS i, ENC_MODEL_CHAIN_LEN i, ENC_MODEL_MAX_TOK i, ENC_MODEL_OUT_DIM i, ENC_MODEL_BASE_ID i, ENC_MODEL_LOFT_KIB i, ENC_MODEL_STEP_EFFECTIVE i, ENC_MODEL_WEIGHTS_ADDR i, ENC_MODEL_PROG_ADDR i, ENC_MODEL_DIGEST i, ENC_MODEL_IN_A i, ENC_MODEL_IN_B i, ENC_MODEL_OUT_ELEM i] ++ (List.range 4).map (ENC_MODEL_CHAIN i) ++ (List.range 4).map (ENC_MODEL_ALT_CHAIN i), [(770, 6), (784, 240)]⟩]

/-- The registers of spec file 13, as the map REGISTER_WRITE and DBG_READ consult. -/
def map13 : List RegDesc := [
  ⟨0x1500000, [], 8, fun _ _ _ => [EMB_CAPS_MAX_OVR, EMB_CAPS_REPL_MIB, EMB_CAPS_MAX_DIM, EMB_CAPS_MAX_TABLES], [(53, 11)]⟩,
  ⟨0x1500008, [], 4, fun _ _ _ => [EMB_CFG_MIG_MAX, EMB_CFG_LOAD_LAG, EMB_CFG_UNDO_64MIB], []⟩,
  ⟨0x150000c, [], 4, fun _ _ _ => [EMB_STATUS_GRAD_SAT_EVT, EMB_STATUS_APPLY_MISMATCH_EVT, EMB_STATUS_MIG_SUPPRESS_EVT, EMB_STATUS_MIG_EVT, EMB_STATUS_LOAD_STALL, EMB_STATUS_UNDO_STALL], [(6, 26)]⟩,
  ⟨0x1500010, [], 4, fun _ _ _ => [EMB_UNDO], [(16, 16)]⟩,
  ⟨0x1510000, [(0x40, 1024)], 64, fun i _ _ => [EMB_TABLE_TABLE i, EMB_TABLE_PARTITION i, EMB_TABLE_STATE i, EMB_TABLE_PLACEMENT i, EMB_TABLE_OPT i, EMB_TABLE_DIM i, EMB_TABLE_ROWS_M1 i, EMB_TABLE_TSCALE i, EMB_TABLE_GFRAC i, EMB_TABLE_LR_SHIFT i, EMB_TABLE_SQ_SHIFT i, EMB_TABLE_LR i, EMB_TABLE_MU i, EMB_TABLE_SHARDS i, EMB_TABLE_EPS i, EMB_TABLE_HOT_ROW i, EMB_TABLE_NODES i, EMB_TABLE_BASE i, EMB_TABLE_OVR i, EMB_TABLE_STEP_EFFECTIVE i], []⟩,
  ⟨0x1520000, [(0x20, 1024)], 32, fun i _ _ => [EMB_RUN_LOAD_LAST i, EMB_RUN_OVR_ENTRIES i, EMB_RUN_MIG_LAST i, EMB_RUN_UNDO_ROWS i, EMB_RUN_HELD i, EMB_RUN_STATE i], [(163, 5), (176, 80)]⟩]

/-- The registers of spec file 14, as the map REGISTER_WRITE and DBG_READ consult. -/
def map14 : List RegDesc := [
  ⟨0x1600000, [], 8, fun _ _ _ => [HOME_CAPS_BI_US, HOME_CAPS_HOLD_NS, HOME_CAPS_REGIONS, HOME_CAPS_RANGES, HOME_CAPS_MAX_SHARE_64G], []⟩,
  ⟨0x1600008, [], 8, fun _ _ _ => [HOME_CFG_EXPORT_POS, HOME_CFG_EXPORTERS, HOME_CFG_SHARE_64G, HOME_CFG_RES_GIB, HOME_CFG_WB_SECONDS, HOME_CFG_HOT_PCT], [(0, 8)]⟩,
  ⟨0x1600010, [], 4, fun _ _ p => [HOME_STATUS_ZEROING, HOME_STATUS_PUBLISH_EVT p, HOME_STATUS_UC_EVT, HOME_STATUS_HOME_LOST_EVT, HOME_STATUS_HOST_LOST_EVT, HOME_STATUS_LOG_EVT p], [(6, 26)]⟩,
  ⟨0x1600014, [], 4, fun _ _ _ => [HOME_MODE_SERVING, HOME_MODE_SWAP_ONLY], [(2, 30)]⟩,
  ⟨0x1600018, [], 8, fun _ _ _ => [HOME_HINT_GRANULE, HOME_HINT_COUNT, HOME_HINT_KIND], []⟩,
  ⟨0x1600020, [], 8, fun _ _ _ => [HOME_CACHE_DIRTY_MIB, HOME_CACHE_HOT_MIB], []⟩,
  ⟨0x1610000, [(0x40, 4096)], 64, fun i _ _ => [HOME_RANGE_BASE i, HOME_RANGE_LENGTH i, HOME_RANGE_PARTITION i, HOME_RANGE_KIND i, HOME_RANGE_HOST i, HOME_RANGE_CAN_READ i, HOME_RANGE_CAN_WRITE i, HOME_RANGE_INCOMPLETE i, HOME_RANGE_SEALING i, HOME_RANGE_ZEROING i, HOME_RANGE_REGION i, HOME_RANGE_LOSSES i, HOME_RANGE_STEP_EFFECTIVE i, HOME_RANGE_LAST_LOSS_STEP i], [(162, 6), (171, 5), (224, 32), (384, 128)]⟩,
  ⟨0x1650000, [(0x20, 4096)], 32, fun i _ _ => [HOME_REGION_PARTITION i, HOME_REGION_STATE i, HOME_REGION_RETAIN i, HOME_REGION_DESC_ADDR i, HOME_REGION_LENGTH i, HOME_REGION_STEP_EFFECTIVE i], [(16, 16)]⟩,
  ⟨0x1680000, [(0x1000, 64), (0x40, 16)], 64, fun i j _ => [HOME_SWAP_OP (i + 1) j, HOME_SWAP_STATUS (i + 1) j, HOME_SWAP_DONE (i + 1) j, HOME_SWAP_SHM_ADDR (i + 1) j, HOME_SWAP_HOST_ADDR (i + 1) j, HOME_SWAP_TAG (i + 1) j], [(24, 40), (256, 256)]⟩,
  ⟨0x16c0000, [(0x1000, 64)], 4096, fun i _ _ => [HOME_LOST_COUNT (i + 1)] ++ (List.range 127).map (HOME_LOST_STEP (i + 1)) ++ (List.range 127).map (HOME_LOST_ADDRESS (i + 1)) ++ (List.range 127).map (HOME_LOST_HOST (i + 1)) ++ (List.range 127).map (HOME_LOST_CAUSE (i + 1)) ++ (List.range 127).map (HOME_LOST_RANGE (i + 1)), [(64, 192)]⟩]

/-- The registers of spec file 15, as the map REGISTER_WRITE and DBG_READ consult. -/
def map15 : List RegDesc := [
  ⟨0x1800000, [], 8, fun _ _ _ => [CXP_CAPS_SYNC_OBJECTS, CXP_CAPS_VECTORS, CXP_CAPS_MAX_HOSTS, CXP_CAPS_PORTS], [(0, 4), (46, 18)]⟩,
  ⟨0x1800008, [], 4, fun _ _ _ => [CXP_CFG_MUTUAL_AUTH, CXP_CFG_REQUIRE_IDE, CXP_CFG_MEM_IDE_MODE], [(0, 4), (8, 24)]⟩,
  ⟨0x180000c, [], 4, fun _ _ p => [CXP_STATUS_IDE_FAIL_EVT, CXP_STATUS_RESET_EVT p, CXP_STATUS_FENCE_EVT p, CXP_STATUS_PORT1_UP, CXP_STATUS_PORT0_UP], [(5, 27)]⟩,
  ⟨0x1800010, [], 8, fun _ _ _ => [], []⟩,
  ⟨0x1800020, [(0x8, 2)], 8, fun i _ _ => [CXP_PORT_PORT_PID i, CXP_PORT_RATE_GTS i, CXP_PORT_WIDTH i, CXP_PORT_MEM_IDE i, CXP_PORT_IO_IDE i, CXP_PORT_STATE i], [(2, 3), (8, 3), (24, 8), (44, 20)]⟩,
  ⟨0x1810000, [(0x10, 512)], 16, fun i _ _ => [CXP_BIND_PID i, CXP_BIND_PARTITION i, CXP_BIND_MEM_OK i, CXP_BIND_IO_OK i, CXP_BIND_PREF_PORT i, CXP_BIND_ENTRY_NODE i, CXP_BIND_STEP_EFFECTIVE i], [(12, 4), (27, 5), (44, 4), (48, 16)]⟩,
  ⟨0x1814000, [(0x40, 64)], 64, fun i _ _ => [] ++ (List.range 16).map (CXP_RINGHOST_IOWNER (i + 1)) ++ (List.range 16).map (CXP_RINGHOST_SOWNER (i + 1)), []⟩,
  ⟨0x1820000, [(0x10, 2048)], 16, fun i _ _ => [CXP_MSIX_ADDR i, CXP_MSIX_DATA i, CXP_MSIX_MASK i], [(97, 31)]⟩,
  ⟨0x1830000, [], 256, fun _ _ _ => [CXP_PBA], []⟩,
  ⟨0x1831000, [(0x4, 2048)], 4, fun i _ _ => [CXP_VEC_PARTITION i, CXP_VEC_PID i], [(19, 13)]⟩,
  ⟨0x800000, [(0x40, 131072)], 64, fun i _ _ => [SYNC_VALUE i, SYNC_ENABLE i, SYNC_TYPE i, SYNC_RING i, SYNC_IRQ i, SYNC_VECTOR i, SYNC_WAITERS i, SYNC_OPS i], [(75, 1), (77, 11), (112, 16), (192, 64)]⟩]

/-- The registers of spec file 16, as the map REGISTER_WRITE and DBG_READ consult. -/
def map16 : List RegDesc := [
  ⟨0x1700000, [], 8, fun _ _ _ => [OVL_CAPS_REPLAY_FLITS, OVL_CAPS_RX_FLITS, OVL_CAPS_CLASSES, OVL_CAPS_FLIT_BYTES, OVL_CAPS_LANES, OVL_CAPS_LINKS_M1], [(42, 22)]⟩,
  ⟨0x1700008, [], 4, fun _ _ _ => [OVL_CFG_LINK_ENABLE, OVL_CFG_ERR_LIMIT, OVL_CFG_RETRAIN_MAX], [(24, 8)]⟩,
  ⟨0x170000c, [], 4, fun _ _ _ => [OVL_STATUS_E2E_EVT, OVL_STATUS_UNROUTABLE_EVT, OVL_STATUS_DEGRADE_EVT, OVL_STATUS_MISWIRE_EVT, OVL_STATUS_LINK_FAIL_EVT, OVL_STATUS_REROUTED], [(6, 26)]⟩,
  ⟨0x1700010, [], 8, fun _ _ _ => [OVL_TOPO_DIGEST], []⟩,
  ⟨0x1700100, [(0x40, 8)], 64, fun i _ _ => [OVL_LINK_STATE i, OVL_LINK_WIDTH i, OVL_LINK_PEER i, OVL_LINK_PEER_LINK i, OVL_LINK_TX_SEQ i, OVL_LINK_RX_ACK i, OVL_LINK_REPLAY_USED i, OVL_LINK_RETRAINS i, OVL_LINK_FEC_CORRECTED i, OVL_LINK_FEC_UNCORRECTABLE i, OVL_LINK_REPLAYS i] ++ (List.range 11).map (OVL_LINK_TX_CREDITS i), [(80, 16), (496, 16)]⟩,
  ⟨0x1700400, [(0x8, 11)], 8, fun i _ _ => [OVL_CLASS_WEIGHT i, OVL_CLASS_BUFFERS i], [(13, 11), (32, 32)]⟩,
  ⟨0x1700500, [(0x10, 4)], 16, fun i _ _ => [OVL_TREE_ROOT i, OVL_TREE_PARENT i, OVL_TREE_PARENT_LINK i, OVL_TREE_CHILD_LINKS i, OVL_TREE_DEPTH i, OVL_TREE_IN_FORCE i], [(64, 64)]⟩,
  ⟨0x1710000, [(0x8, 4096)], 8, fun i _ _ => [OVL_ROUTE_ACTIVE i, OVL_ROUTE_HOPS i, OVL_ROUTE_ALT3 i, OVL_ROUTE_ALT2 i, OVL_ROUTE_ALT1 i, OVL_ROUTE_PRIMARY i], [(24, 40)]⟩]

/-- The registers of spec file 17, as the map REGISTER_WRITE and DBG_READ consult. -/
def map17 : List RegDesc := [
  ⟨0x300000, [], 8, fun _ _ _ => [SHAPE_CAPS_GATE_ENTRIES, SHAPE_CAPS_GATE_LISTS, SHAPE_CAPS_TICK_NS], [(24, 40)]⟩,
  ⟨0x300008, [], 4, fun _ _ _ => [SHAPE_STATUS_GATE_TAKEOVER_EVT, SHAPE_STATUS_PENDING, SHAPE_STATUS_ACTIVE_LIST], [(3, 29)]⟩,
  ⟨0x301000, [(0x20, 64)], 32, fun i _ _ => [SHAPE_ADM_RATE (i + 1), SHAPE_ADM_BURST (i + 1), SHAPE_ADM_OVERHEAD (i + 1), SHAPE_ADM_MODE (i + 1), SHAPE_ADM_CREDIT (i + 1)], [(24, 8), (88, 40), (192, 64)]⟩,
  ⟨0x302000, [(0x80, 64)], 128, fun i _ _ => [SHAPE_LINK_RATE (i + 1), SHAPE_LINK_BURST (i + 1), SHAPE_LINK_OVH (i + 1)] ++ (List.range 8).map (SHAPE_LINK_CREDIT (i + 1)), [(80, 48), (640, 384)]⟩,
  ⟨0x304000, [(0x20, 64)], 32, fun i _ _ => [SHAPE_PORT_RATE (i + 1), SHAPE_PORT_BURST (i + 1), SHAPE_PORT_OVH (i + 1)] ++ (List.range 2).map (SHAPE_PORT_CREDIT (i + 1)), [(80, 48)]⟩,
  ⟨0x306000, [(0x100, 2), (0x10, 16)], 16, fun i j _ => [SHAPE_GATE_DURATION i j, SHAPE_GATE_MASK i j], [(32, 32)]⟩,
  ⟨0x306200, [(0x10, 2)], 16, fun i _ _ => [SHAPE_GATE_HDR_COUNT i, SHAPE_GATE_HDR_TAKEOVER i], [(8, 56)]⟩,
  ⟨0x200000, [(0x1000, 64)], 4, fun i _ _ => [PART_ID_HOSTS (i + 1), PART_ID_PARTITION (i + 1)], [(7, 9), (26, 6)]⟩,
  ⟨0x200004, [(0x1000, 64)], 4, fun i _ _ => [PART_CFG_ENABLE (i + 1), PART_CFG_COMPAT (i + 1)], [(0, 30)]⟩,
  ⟨0x200008, [(0x1000, 64)], 4, fun i _ _ => [PART_STATUS_DISABLING (i + 1), PART_STATUS_GATE_WAIT (i + 1), PART_STATUS_CREDIT_WAIT (i + 1), PART_STATUS_INFLIGHT_FULL (i + 1)], [(4, 28)]⟩,
  ⟨0x200010, [(0x1000, 64)], 8, fun i _ _ => [PART_QUOTA_MAX_INFLIGHT (i + 1), PART_QUOTA_MAX_MODELS (i + 1), PART_QUOTA_MAX_COLL (i + 1), PART_QUOTA_MAX_TABLES (i + 1)], [(11, 5), (29, 3), (42, 6)]⟩,
  ⟨0x200020, [(0x1000, 64)], 8, fun i _ _ => [PART_USE_MAX_INFLIGHT (i + 1), PART_USE_MAX_MODELS (i + 1), PART_USE_MAX_COLL (i + 1), PART_USE_MAX_TABLES (i + 1)], [(11, 5), (29, 3), (42, 6)]⟩,
  ⟨0x200018, [(0x1000, 64)], 8, fun i _ _ => [PART_SYNC_SYNC_COUNT (i + 1), PART_SYNC_SYNC_BASE (i + 1)], [(17, 15), (50, 14)]⟩,
  ⟨0x200028, [(0x1000, 64)], 8, fun i _ _ => [PART_EFFECTIVE (i + 1)], []⟩,
  ⟨0x200030, [(0x1000, 64)], 8, fun i _ _ => [] ++ (List.range 14).map (PART_EVT_STATUS (i + 1)), [(14, 50)]⟩,
  ⟨0x200038, [(0x1000, 64)], 4, fun i _ _ => [PART_EVT_CFG_ENABLE (i + 1), PART_EVT_CFG_VECTOR (i + 1)], [(11, 20)]⟩]

/-- The registers of spec file 18, as the map REGISTER_WRITE and DBG_READ consult. -/
def map18 : List RegDesc := [
  ⟨0x1a00000, [], 8, fun _ _ _ => [SAFE_CAPS_GLN_UNITS, SAFE_CAPS_WIN_UNITS, SAFE_CAPS_ROUTE_LANES, SAFE_CAPS_CYCLE_MS], [(40, 24)]⟩,
  ⟨0x1a00008, [], 4, fun _ _ _ => [SAFE_POLICY_WDOG_TICKS, SAFE_POLICY_FAULT_LIMIT, SAFE_POLICY_READMIT, SAFE_POLICY_DEBUG], [(2, 4)]⟩,
  ⟨0x1a0000c, [], 4, fun _ _ _ => [SAFE_STATUS_TALLY_STUCK, SAFE_STATUS_CYCLE_LATE, SAFE_STATUS_FAULT_N_LOW, SAFE_STATUS_FROZEN, SAFE_STATUS_LOCKSTEP_FAIL, SAFE_STATUS_NODE_FAULT], [(6, 26)]⟩,
  ⟨0x1a00010, [], 8, fun _ _ _ => [SAFE_UNITS_GLN_ISO, SAFE_UNITS_WIN_ISO, SAFE_UNITS_ROUTE_ISO], []⟩,
  ⟨0x1a00018, [], 8, fun _ _ _ => [SAFE_LOG_COUNT], []⟩,
  ⟨0x1a10000, [(0x20, 1024)], 32, fun i _ _ => [SAFE_LOG_STEP i, SAFE_LOG_MECH i, SAFE_LOG_CLASS i, SAFE_LOG_UNIT i, SAFE_LOG_REACTION i, SAFE_LOG_WITHHELD i, SAFE_LOG_DETAIL i], [(104, 24), (224, 32)]⟩,
  ⟨0x1d00000, [], 8, fun _ _ _ => [DBG_CAPS_PORT_MBS, DBG_CAPS_IR_BITS], [(24, 40)]⟩,
  ⟨0x1d00008, [], 4, fun _ _ _ => [DBG_IDCODE_VERSION, DBG_IDCODE_PART, DBG_IDCODE_MAKER, DBG_IDCODE_ONE], []⟩,
  ⟨0x1d0000c, [], 4, fun _ _ _ => [DBG_STATUS_QUIESCENT, DBG_STATUS_LATCH, DBG_STATUS_PIN, DBG_STATUS_FROZEN], [(4, 28)]⟩,
  ⟨0x1d00100, [(0x8, 64)], 8, fun i _ _ => [DBG_CORE_EXC_CAUSE i, DBG_CORE_EXC_BUNDLE i], [(20, 12), (40, 24)]⟩,
  ⟨0x1900000, [(0x1000, 65), (0x8, 512)], 8, fun i j _ => [TALLY_PART_OVF i j, TALLY_PART_COUNT i j], [(48, 15)]⟩]

/-- The registers of spec file 19, as the map REGISTER_WRITE and DBG_READ consult. -/
def map19 : List RegDesc := [
  ⟨0x1b00000, [], 8, fun _ _ _ => [CFG_CAPS_MAX_RECORD_BYTES, CFG_CAPS_STAGE_SLOTS, CFG_CAPS_MAX_IMAGE_MIB, CFG_CAPS_MEMBER], [(8, 8), (56, 8)]⟩,
  ⟨0x1b00008, [], 4, fun _ _ _ => [CFG_STATUS_FAIL_REASON, CFG_STATUS_LOG_FAIL, CFG_STATUS_APPLY_STALL, CFG_STATUS_AMEND_EVT, CFG_STATUS_STRAP_G1, CFG_STATUS_STRAP_CFG_SEL, CFG_STATUS_FROM_B, CFG_STATUS_FALLBACK, CFG_STATUS_IMG_VALID_B, CFG_STATUS_IMG_VALID_A, CFG_STATUS_STAGE], [(16, 16)]⟩,
  ⟨0x1b0000c, [], 4, fun _ _ _ => [CFG_AMEND_CFG_FORM_WAIT_S, CFG_AMEND_CFG_AMEND_LEAD], []⟩,
  ⟨0x1b00010, [], 8, fun _ _ _ => [CFG_HEAD], []⟩,
  ⟨0x1b00018, [], 8, fun _ _ _ => [CFG_COUNTS_STALLS, CFG_COUNTS_LOG_FAILS, CFG_COUNTS_REFUSED, CFG_COUNTS_ACCEPTED], []⟩,
  ⟨0x1b00020, [], 32, fun _ _ _ => [CFG_HEAD_DIGEST], []⟩,
  ⟨0x1b00040, [], 32, fun _ _ _ => [CFG_IMAGE_DIGEST], []⟩,
  ⟨0x1b00060, [], 8, fun _ _ _ => [CFG_LOG_FREE_KIB, CFG_LOG_USED_KIB], []⟩,
  ⟨0x1b10000, [(0x1000, 64), (0x40, 8)], 64, fun i j _ => [CFG_STAGE_OP (i + 1) j, CFG_STAGE_STATUS (i + 1) j, CFG_STAGE_DONE (i + 1) j, CFG_STAGE_REASON (i + 1) j, CFG_STAGE_LENGTH (i + 1) j, CFG_STAGE_ADDR (i + 1) j, CFG_STAGE_TAG (i + 1) j, CFG_STAGE_SEQ (i + 1) j, CFG_STAGE_STEP (i + 1) j], [(320, 192)]⟩,
  ⟨0x1c00000, [], 8, fun _ _ _ => [SEC_CAPS_REPORT_SLOTS, SEC_CAPS_KEY_SLOTS_M1, SEC_CAPS_MEAS_BLOCKS, SEC_CAPS_SPDM_VERSION], [(32, 32)]⟩,
  ⟨0x1c00008, [], 4, fun _ _ p => [SEC_STATUS_REPORT_EVT p, SEC_STATUS_KEY_UNWRAP_FAIL_EVT, SEC_STATUS_PUF_MARGIN, SEC_STATUS_ID_OK, SEC_STATUS_PUF_DONE], [(5, 27)]⟩,
  ⟨0x1c00040, [], 64, fun _ _ _ => [SEC_ID_PUB], []⟩,
  ⟨0x1c00080, [], 32, fun _ _ _ => [SEC_OWNER_DIGEST], []⟩,
  ⟨0x1c000a0, [], 32, fun _ _ _ => [SEC_SAFETY_DIGEST], []⟩,
  ⟨0x1c10000, [(0x1000, 64), (0x40, 4)], 64, fun i j _ => [SEC_REPORT_OP (i + 1) j, SEC_REPORT_STATUS (i + 1) j, SEC_REPORT_DONE (i + 1) j, SEC_REPORT_LENGTH (i + 1) j, SEC_REPORT_STEP (i + 1) j, SEC_REPORT_DST (i + 1) j, SEC_REPORT_NONCE (i + 1) j, SEC_REPORT_CAPACITY (i + 1) j], [(24, 8), (288, 224)]⟩]

/-- The registers of spec file 20, as the map REGISTER_WRITE and DBG_READ consult. -/
def map20 : List RegDesc := [
  ⟨0x200, [], 4, fun _ _ _ => [NODE_PWR_CFG_CAP_W, NODE_PWR_CFG_VMAX_10MV], [(7, 9), (27, 5)]⟩,
  ⟨0x208, [], 8, fun _ _ _ => [NODE_PWR_STATUS_INPUT_W, NODE_PWR_STATUS_VIN_100MV, NODE_PWR_STATUS_VCORE_10MV, NODE_PWR_STATUS_DIE_C, NODE_PWR_STATUS_SCAN_PCT, NODE_PWR_STATUS_THERMAL_TRIP, NODE_PWR_STATUS_THERM_ASSERTED, NODE_PWR_STATUS_CAP_UNMET, NODE_PWR_STATUS_LIMITING, NODE_PWR_STATUS_PWR_FAIL_SEEN, NODE_PWR_STATUS_UNDERVOLT], [(6, 11)]⟩]

/-- The registers of spec file 22, as the map REGISTER_WRITE and DBG_READ consult. -/
def map22 : List RegDesc := [
  ⟨0x0, [], 8, fun _ _ _ => [NODE_IDENT_PART, NODE_IDENT_MAP_VERSION, NODE_IDENT_NODE_ID, NODE_IDENT_MEMBER], [(8, 8), (28, 4), (40, 8)]⟩,
  ⟨0x8, [], 4, fun _ _ _ => [NODE_STATUS_NODE_FAULT, NODE_STATUS_FROZEN, NODE_STATUS_MEMBER, NODE_STATUS_RECOVERING, NODE_STATUS_SWAP_ONLY, NODE_STATUS_STAGE], [(8, 24)]⟩]

/-- The registers of spec file 04, as the map REGISTER_WRITE and DBG_READ consult. -/
def map04 : List RegDesc := [
  ⟨0x400000, [(0x10000, 64)], 8, fun i _ _ => [INT_CAPS_MAX_PROBES (i + 1), INT_CAPS_MAX_RERANK (i + 1), INT_CAPS_MAX_K (i + 1), INT_CAPS_MAX_UNITS (i + 1)], [(9, 7), (27, 5), (45, 3), (61, 3)]⟩,
  ⟨0x400008, [(0x10000, 64)], 4, fun i _ _ => [INT_STATUS_DISABLED (i + 1), INT_STATUS_BAD_DOORBELL_EVT (i + 1), INT_STATUS_RING_WAIT (i + 1), INT_STATUS_CRC_EVT (i + 1)], [(4, 28)]⟩,
  ⟨0x40000c, [(0x10000, 64)], 4, fun i _ _ => [INT_INFLIGHT (i + 1)], [(20, 12)]⟩,
  ⟨0x401000, [(0x10000, 64), (0x20, 16)], 8, fun i j _ => [IRING_BASE (i + 1) j], [(0, 6)]⟩,
  ⟨0x402000, [(0x10000, 64), (0x20, 16)], 8, fun i j _ => [SRING_BASE (i + 1) j], [(0, 6)]⟩,
  ⟨0x401008, [(0x10000, 64), (0x20, 16)], 4, fun i j _ => [IRING_CTL_ENABLE (i + 1) j, IRING_CTL_LOG2_SIZE (i + 1) j], [(0, 16), (21, 10)]⟩,
  ⟨0x402008, [(0x10000, 64), (0x20, 16)], 4, fun i j _ => [SRING_CTL_ENABLE (i + 1) j, SRING_CTL_LOG2_SIZE (i + 1) j, SRING_CTL_SLOT_UNITS (i + 1) j, SRING_CTL_VECTOR (i + 1) j], [(20, 6)]⟩,
  ⟨0x40100c, [(0x10000, 64), (0x20, 16)], 4, fun i j _ => [IRING_TAIL (i + 1) j], [(17, 15)]⟩,
  ⟨0x401010, [(0x10000, 64), (0x20, 16)], 4, fun i j _ => [IRING_HEAD (i + 1) j], [(17, 15)]⟩,
  ⟨0x40200c, [(0x10000, 64), (0x20, 16)], 4, fun i j _ => [SRING_HEAD (i + 1) j], [(17, 15)]⟩,
  ⟨0x402010, [(0x10000, 64), (0x20, 16)], 4, fun i j _ => [SRING_TAIL (i + 1) j], [(17, 15)]⟩]

/-- Every register of the control window (R461). -/
def map : List RegDesc :=
  map02 ++ map03 ++ map07 ++ map08 ++ map09 ++ map10 ++ map13 ++ map14 ++ map15 ++ map16 ++ map17 ++ map18 ++ map19 ++ map20 ++ map22 ++ map04

end Reg

end Sys2Proof
end

