-- ==== Sys2Proof/Machine/Tallies.lean ====
section
/-! DEFINITION. The tallies of the TALLY block in the order of R401: a name's index in its scope is its
position here. -/

namespace Sys2Proof

/-- The node-wide tallies in index order (R401, from R55, R166, R188, R217, R323, R344, R365 and the
table of the safety chapter). -/
inductive NTally where
  | STEP_HORIZON_STALLS | STEP_HORIZON_TICKS | STEP_PDS_STALLS | STEP_MEMB_STALL_TICKS
  | STEP_BAD_MSG | MEMB_SUSPECTS | MEMB_EXCLUSIONS | MEMB_NO_QUORUM | MEMB_DISCARDED | MEMB_REJOINS
  | NBU_HOST_YIELDS | NBU_HOST_RUN_GRANTS | NBU_REFRESH_YIELDS | NBU_GOV_HOLDS | NBU_DSC_FAIL
  | NBU_TAIL_FAIL | NBU_GATHER_RESIDUE_FAIL | NBU_FALLBACK_SEGMENTS | NBU_ISOLATIONS
  | NBU_MIRROR_PASSES | STK_CORRECTED | STK_ERASURE_DECODES | STK_UNCORRECTABLE
  | STK_RECOVERED_FLASH | STK_RECOVERED_PARITY | STK_RECOVERED_MIRROR | STK_WITHDRAWN | STK_FAILED
  | STK_VIA_REPAIRS | STK_ROW_REPAIRS | STK_CHANNEL_FAILS | STK_STRIPE_WAITS | STK_HOT_TICKS
  | GRAN_READS | GRAN_RETRIES | GRAN_SOFT_READS | GRAN_UNCORRECTABLE | GRAN_PARITY_RECOVERED
  | GRAN_PROG_FAILS | GRAN_ERASE_FAILS | GRAN_BLOCKS_RETIRED | GRAN_GC_UNITS | GRAN_RETAIN_MOVES
  | GRAN_FLUSH_STALLS | GRAN_CKPT_SEGMENTS | SHM_WRITEBACKS | SHM_MISSES | CXP_UNBOUND
  | CXP_BAD_ACCESS | CXP_IDE_FAIL | OVL_FEC_CORRECTED | OVL_FEC_UNCORRECTABLE | OVL_CRC_FAIL
  | OVL_REPLAYS | OVL_RETRAINS | OVL_LINK_FAILS | OVL_MISWIRED | OVL_BAD_MSG | OVL_REROUTES
  | OVL_UNROUTABLE | OVL_DUPLICATES | OVL_E2E_CRC | OVL_E2E_RESENDS | SAFE_REACTIONS
  | SAFE_WITHHELD | SAFE_LATENT | SAFE_ISOLATIONS | SAFE_READMITS | SAFE_TEST_CYCLES
  | SAFE_WDOG_EXPIRIES | SAFE_CODEWORD_FAULTS | SAFE_RERUNS | DBG_FREEZES | DBG_FREEZE_TICKS
  deriving DecidableEq, Repr

/-- The tallies of each partition in index order (R401, from R84, R107, R133, R151, R234, R273, R294,
R323, R344, R365 and R383). -/
inductive PTally where
  | COLL_ROUTE_CLAMP | COLL_ROUTE_MAXEXP | COLL_TOMB_DEPTH | COLL_SPLITS | COLL_MERGES
  | COLL_COMPACTIONS | COLL_REBUILDS | COLL_UPKEEP_STALLS | COLL_SPLIT_SUPPRESSED
  | COLL_FILTER_LOADS | QRY_ADMITTED | QRY_PARTIAL | QRY_DEGRADED | QRY_WITHDRAWN | QRY_FAILED
  | QRY_HORIZON | QRY_BAD_DESC | QRY_UNKNOWN_COLL | QRY_REFUSED | QRY_UNDELIVERED
  | QRY_INVALID_SCORE | INT_BAD_DOORBELL | INT_DISCARDED | INT_RING_WAIT_TICKS | GLN_CACHE_HITS
  | GLN_FLASH_READS | GLN_MIRROR_READS | WIN_SLOT_DUPS | WIN_RECORD_DUPS | WIN_REFILLS
  | WIN_RERUN_DISCARDED | WIN_RESERVE_WAIT_TICKS | WIN_COMPARE_FAIL | MUT_COMMITTED | MUT_READS
  | MUT_DEGRADED | MUT_WITHDRAWN | MUT_DIGEST_MISMATCH | MUT_NO_CAPACITY | MUT_FAILED
  | MUT_CREDIT_WAIT_TICKS | MUT_RENEWED | ENC_RECORDS | ENC_RECORD_BAD | ENC_ADMIT_WAIT_TICKS
  | ENC_STALL_DRAM_TICKS | ENC_STALL_LOFT_TICKS | ENC_STALL_CHAIN_TICKS | ENC_EVICTIONS
  | ENC_CHAIN_SWITCHES | ENC_RESIDUE_FAIL | ENC_PROG_FAULTS | QNT_QUANT_ELEMS | QNT_SAT_ELEMS
  | QNT_SAT_EVENTS | QNT_STATS_DROPPED | QNT_EXC_DELAYS | QNT_BUILDS | QNT_BUILD_FAILS
  | QNT_BUILD_STALLS | EMB_LOOKUPS | EMB_TERMS | EMB_GRAD_RECORDS | EMB_GRAD_SAT | EMB_GRAD_NAN
  | EMB_GRAD_DISCARDED | EMB_ROW_CLAMP | EMB_APPLY_MISMATCH | EMB_UNDO_STALLS | EMB_LOAD_STALLS
  | EMB_MIGRATIONS | EMB_MIG_SUPPRESSED | EMB_FORWARDED | EMB_MIG_WAIT_TICKS | SHM_REFUSED
  | SHM_HOME_LOST | SHM_HOST_LOST | SHM_BI_LATE | SHM_LINES_LOST | SHM_UC_LINES
  | SHM_HOLD_WAIT_TICKS | SHM_PUBLISHED | SHM_CONFLICTS | SHM_PUB_FAILED | SHM_HINT_IGNORED
  | SHM_SWAP_PAGES | CXP_FOREIGN | CXP_RSVD_WRITES | CXP_NO_IDE | CXP_RESETS | SYNC_OPS
  | SYNC_REFUSED | SYNC_SATURATED | SYNC_CANCELLED | SYNC_REPLY_FAIL | OVL_SHAPE_HOLD_TICKS
  | SHP_ADMITTED | SHP_CREDIT_WAIT_TICKS | SHP_GATE_WAIT_TICKS | SHP_PORT_HOLD_TICKS
  | SHP_QUOTA_REFUSED
  deriving DecidableEq, Repr

end Sys2Proof
end

