-- ==== Sys2Proof/Machine/State.lean ====
section
/-! DEFINITION. The node's state, as plain data: the control window's register fields in one sparse table, and
the state of each block beside it. -/

namespace Sys2Proof.Machine

/-- Why a command could stop the machine: no command of this table does, because the spec gives every command
an effect; the type is closed and its one constructor is answered by no meaning (safe). -/
inductive Fault where
  /-- Raised by nothing: the node reports every fault through a status, a tally or an isolation (R391). Safe. -/
  | none
  deriving DecidableEq, Repr

/-- Why a command could be refused. -/
inductive Refusal where
  /-- The arm of a command that has no meaning yet, by mnemonic. Safe. -/
  | notModelled (mnemonic : String)
  deriving DecidableEq, Repr

/-- A descriptor fetched from an intake ring and not yet taken (R87, R373). -/
structure Head where
  /-- Its bytes, LENGTH × 64 of them, or the one unit of a malformed length (R87); none at reset -/
  data : List Byte
  /-- The units it occupies in the ring (R87); none at reset -/
  units : Nat
  deriving DecidableEq, Repr

/-- A queued synchronisation operation (R338). -/
structure SyncWaiter where
  /-- True for a TAKE, false for a WAIT (R337) -/
  take : Bool
  /-- The host that wrote the operation (R336) -/
  pid : Nat
  /-- ARG (R336) -/
  arg : Nat
  /-- REPLY (R336) -/
  reply : Nat
  /-- TAG (R336) -/
  tag : Nat
  deriving DecidableEq, Repr

/-- What follows when a held host write is issued (R334, R100, R303). -/
inductive WriteEnd where
  /-- Nothing. -/
  | nothing
  /-- A completion written by this node to slot idx of ring n of partition p: the slot is written and the
  ring's vector falls due. -/
  | slot (p n idx : Nat)
  /-- A sheaf written at the root: a flush read follows, then the notice to the admitting node. -/
  | sheaf (step seq admitter status : Nat)
  /-- A synchronisation reply: the vector is raised if there is one. -/
  | reply (vector : Option Nat)
  /-- A status word the host polls, then event bit k of partition p. -/
  | polled (p k : Nat)
  /-- A state report: slot n of partition p completes (R427). -/
  | report (p n : Nat)
  deriving DecidableEq, Repr

/-- A write to host memory, waiting in a port's egress shaper or issued (R380). -/
structure HostWrite where
  /-- The partition charged (R380) -/
  part : Nat
  /-- The destination host (R333, R336) -/
  pid : Nat
  /-- Host address -/
  addr : Nat
  /-- The bytes written -/
  data : List Byte
  /-- What follows it (R334) -/
  done : WriteEnd
  deriving DecidableEq, Repr

/-- An SPDM session of a host context (R340). -/
structure Spdm where
  /-- How far version, capabilities and algorithms have been negotiated: 0 none, 1 version, 2 capabilities,
  3 algorithms (R340) -/
  stage : Nat
  /-- A key exchange has been answered and FINISH is awaited (R340) -/
  keyed : Bool
  /-- The session is established (R340) -/
  session : Bool
  /-- Key updates of the session (R340) -/
  keyGen : Nat
  deriving DecidableEq, Repr

/-- The host context of one bound PID (R327). -/
structure HostCtx where
  /-- Base of the committed interleaved decoder, if committed (R332); reset none -/
  hdmShared : Option Nat
  /-- Base of the committed bank-window decoder, if committed (R332); reset none -/
  hdmBank : Option Nat
  /-- The decoder error bits, interleaved and bank (R332); reset 0 -/
  hdmErr : Nat
  /-- The step s0 of a function-level reset in progress (R341); reset none -/
  resetStep : Option Nat
  /-- The reset has taken effect here: nothing more is written to the host (R341 step 2); reset false -/
  cut : Bool
  /-- The step of the last reset that took effect here, 0 for none: final sheaves of its steps and earlier are dropped
  (R341 step 3); reset 0 -/
  cutStep : Nat
  /-- The reset was started by the loss of the host: it leaves the fence (R343); reset false -/
  lossReset : Bool
  /-- Members that have confirmed the reset (R341 step 4); reset none -/
  confirmed : List Nat
  /-- The host is fenced (R314); reset false -/
  fenced : Bool
  /-- An IDE stream with keys set serves the host (R339); reset false -/
  ideKeyed : Bool
  /-- The DOE mailbox's SPDM state (R340); reset at stage 0 -/
  spdm : Spdm
  deriving DecidableEq, Repr

/-- Queues and contexts of the host interface and the traffic shaper. -/
structure HostSt where
  /-- Fetched heads, key 16 p + n (R87); reset none -/
  heads : Tab Head
  /-- Slots of each sheaf ring whose completions are written and not yet returned, key 16 p + n (R103); reset none -/
  written : Tab (List Nat)
  /-- The partition the shaper last served (R373); reset 64, so that the first turn starts at 1 (DESIGN CHOICE, assumption 5) -/
  lastPart : Nat
  /-- The ring last served in each partition (R373); an unlisted partition reads 15 (DESIGN CHOICE, assumption 5) -/
  lastRing : Tab Nat
  /-- The next admission sequence number (R373); reset 1 (DESIGN CHOICE, assumption 5) -/
  admSeq : Nat
  /-- Entry of the gate list in force (R377); reset 0 -/
  gateEntry : Nat
  /-- The tick at which that entry began (R377); reset 0 -/
  gateStart : Nat
  /-- Host writes held by a port egress shaper, key 2 p + port, oldest first (R380); reset none -/
  portHeld : Tab (List HostWrite)
  /-- Sheaf writes issued at this root whose flush read is outstanding (R100): step, seq, admitting node, status; reset none -/
  flushReads : List (Nat × Nat × Nat × Nat)
  /-- MSI-X vectors held by a freeze, oldest first (R402); reset none -/
  msixHeld : List Nat
  /-- Waiters of each synchronisation object, oldest first (R338); reset none -/
  waiters : Tab (List SyncWaiter)
  /-- Host contexts by PID (R327); reset none -/
  ctx : Tab HostCtx
  /-- Resets of hosts that take effect at the commit of their step: PID, step, entry node (R341); reset none -/
  resets : List (Nat × Nat × Nat)
  deriving DecidableEq, Repr

/-- A DATA flit sent and not yet acknowledged (R351). -/
structure SentFlit where
  /-- SEQ (R350) -/
  seq : Nat
  /-- The node's number for the message it carries (R358) -/
  msg : Nat
  deriving DecidableEq, Repr

/-- What a message carries: the command it becomes at its destination, or the bytes of a forwarded message (R358). -/
inductive Cargo where
  | cmd (i : Instr)
  | raw (bytes : List Byte)
  deriving DecidableEq, Repr

/-- A message the node has queued, sent or forwarded, until it is acknowledged end to end (R360) and no flit of it is
in a replay buffer (R358). -/
structure Msg where
  /-- The node's number for the message (model's numbering) -/
  num : Nat
  /-- Destination (R355) -/
  dst : Nat
  /-- Class (R356) -/
  cls : Nat
  /-- 0 unicast, 1 tree flood, 3 link-local (R355) -/
  route : Nat
  /-- SEQ in its stream (R359); 0 for a forwarded message -/
  seq : Nat
  /-- Partition charged (R355) -/
  part : Nat
  /-- Bytes of header and body (R355) -/
  bytes : Nat
  /-- What it carries -/
  cargo : Cargo
  /-- E2E_ACK has covered it, or none is due (R360) -/
  acked : Bool
  /-- Times it has been resent after an E2E_NAK (R360) -/
  resent : Nat
  deriving DecidableEq, Repr

/-- A message queued on a link: its number, class and DATA flits still to send (R355, R363). -/
structure TxMsg where
  /-- The node's number for the message -/
  num : Nat
  /-- Class (R356) -/
  cls : Nat
  /-- DATA flits still to send (R355) -/
  left : Nat
  deriving DecidableEq, Repr

/-- One Ovane link beyond its OVL_LINK register entry. -/
structure Link where
  /-- The next DATA sequence number expected (R351); reset 0 -/
  rxNext : Nat
  /-- The number last named in a NAK, and the tick (R351); reset none -/
  nakAt : Option (Nat × Nat)
  /-- The replay buffer, oldest first (R351); reset empty -/
  replay : List SentFlit
  /-- The tick of the last ACK advance, or of the last resend (R351); reset 0 -/
  ackTick : Nat
  /-- The sequence number last replayed first, and how often in a row (R352); reset none -/
  replayed : Option (Nat × Nat)
  /-- Messages waiting for credit, buffer room or their turn, oldest first (R362, R363); reset none -/
  txq : List TxMsg
  /-- The class the weighted round robin serves (R363); reset 1 -/
  rrClass : Nat
  /-- Flits that class may still send in its turn (R363); reset 0 -/
  rrLeft : Nat
  /-- The message being assembled in each class (R355); reset none -/
  rxPart : Tab (List Byte)
  /-- Fast retrains in a row (R352); reset 0 -/
  retrains : Nat
  /-- The tick the last fast retrain ended (R352); reset 0 -/
  retrainEnd : Nat
  /-- Uncorrectable codewords in the present window, and its first tick (R352); reset 0 -/
  uncorr : Nat × Nat
  /-- The last tick a valid flit arrived (R43, R44); reset 0 -/
  heard : Nat
  deriving DecidableEq, Repr

/-- A message delivered to the node's engines (R359). -/
structure Delivered where
  /-- Source node -/
  src : Nat
  /-- Class -/
  cls : Nat
  /-- TYPE -/
  typ : Nat
  /-- Partition -/
  part : Nat
  /-- Body -/
  body : List Byte
  deriving DecidableEq, Repr

/-- The link layer (R347 to R364). -/
structure OvlSt where
  /-- The eight links (R347) -/
  links : Tab Link
  /-- Last SEQ sent in each stream, key 4096 class + destination, floods 2^17 above (R359); reset 0 -/
  txSeq : Tab Nat
  /-- Last SEQ delivered of each stream, key 4096 class + source, floods 2^17 above (R359); reset 0 -/
  rxSeq : Tab Nat
  /-- Messages that arrived ahead of their turn: stream, SEQ, message (R359); reset none -/
  rxHeld : List (Nat × Nat × Delivered)
  /-- Streams with messages not yet acknowledged by E2E_ACK, and the tick of the last (R360); reset none -/
  ackDue : Tab Nat
  /-- Messages kept (R358, R360); reset none -/
  msgs : List Msg
  /-- Messages held by a link egress shaper, key 8 p + link, oldest first: message numbers (R363, R379); reset none -/
  linkHeld : Tab (List Nat)
  /-- The number of the next message sent (model's numbering); reset 0 -/
  nextMsg : Nat
  /-- Messages delivered, newest first (R359); reset none -/
  delivered : List Delivered
  /-- CRC failures of a message at this destination: stream and SEQ (R360); reset none -/
  crcSeen : List (Nat × Nat)
  /-- Parent of each node in each root candidate's merge tree, key 4096 r + node (R364), from the image -/
  treeParent : Tab Nat
  /-- Link neighbours of each node (R357), from the image -/
  neighbours : Tab (List Nat)
  /-- The far node and far link the topology section names for each of this node's links (R354), from the image -/
  expected : Tab (Nat × Nat)
  /-- ANNOUNCE messages delivered whose forwarded copies are not all acknowledged: stream, SEQ, message numbers (R361); reset none -/
  floodAwait : List (Nat × Nat × List Nat)
  deriving DecidableEq, Repr

/-- An operation that counts as a query for the horizon, as this node holds it (R41, R473). -/
structure HeldOp where
  /-- Its step -/
  step : Nat
  /-- Its admission sequence number -/
  seq : Nat
  /-- Its admitting node -/
  admitter : Nat
  /-- Its opcode -/
  opcode : Nat
  /-- Its RELEASE has been received (R473) -/
  released : Bool
  deriving DecidableEq, Repr

/-- A standing SUSPECT at the coordinator (R45, R46). -/
structure Suspicion where
  /-- The suspected node -/
  subject : Nat
  /-- The suspecting neighbour -/
  by_ : Nat
  /-- Its silence time in the message, in ticks -/
  count : Nat
  /-- The tick the message arrived -/
  at_ : Nat
  deriving DecidableEq, Repr

/-- Step agreement and membership beyond the STEP registers. -/
structure StepSt where
  /-- The tick of the last STEP_CLOSE sent or received (R28, R377); reset 0 -/
  closeTick : Nat
  /-- STEP_DONE received: step, child and members reporting in its subtree (R29, R32); reset none -/
  doneFrom : List (Nat × Nat × Nat)
  /-- The highest step whose STEP_DONE this node has sent or, at the root, met (R29, R30); reset 0 -/
  doneSent : Nat
  /-- The parent that STEP_DONE went to; reset none -/
  doneTo : Option Nat
  /-- The tick of that STEP_DONE (STALL_WAIT); reset 0 -/
  doneTick : Nat
  /-- Standing suspicions at this coordinator (R45); reset none -/
  suspects : List Suspicion
  /-- Nodes that a coming STEP_COMMIT excludes, as this node knows (R45); reset none -/
  excludes : List Nat
  /-- Coordinator: nodes whose EXCLUDE has been sent (R45); reset none -/
  excludeSent : List Nat
  /-- Granted nodes and the step whose commit makes them members (R52); reset none -/
  joins : List (Nat × Nat)
  /-- Nodes that have asked to join, with their lease (R430); reset none -/
  asked : List (Nat × Nat)
  /-- The tick of this node's last JOIN_REQ (R52); reset none -/
  joinTick : Option Nat
  /-- The tick at which this forming candidate began to wait (R430); reset none -/
  formTick : Option Nat
  /-- The tick of the last heartbeat sent (R43); reset 0 -/
  hbTick : Nat
  /-- Admission waits for the next STEP_CLOSE after an isolation (R48); reset false -/
  waitClose : Bool
  /-- Operations announced and held (R473); reset none -/
  ops : List HeldOp
  /-- Holds that have withheld the closed step, each counted once: cause and partition (R29); reset none -/
  stalled : List (Nat × Nat)
  /-- The step whose commit made this node a member, while its catch-up has not reached it (R52); reset none -/
  joinStep : Option Nat
  /-- The memberships that were in force before the latest changes: the first step after each, and MEMBERS until then, newest
  first (R49, R119); reset none -/
  was : List (Nat × Nat)
  deriving DecidableEq, Repr

/-- What every node knows of a collection beyond its descriptor: the shard map, the projection and offsets, and the
filter loads and retirements of every shard (R61, R70, R79). -/
structure CollInfo where
  /-- Owner and mirror of each shard (R70) -/
  shardMap : List (Nat × Nat)
  /-- Projection rows (R61) -/
  proj : List (List Int)
  /-- Offsets (R61) -/
  offs : List Int
  /-- Filter loads: filter slot, shard, admission step, due step (R76, R79) -/
  loads : List (Nat × Nat × Nat × Nat)
  /-- Retirements: filter slot, step (R79) -/
  retires : List (Nat × Nat)
  deriving DecidableEq, Repr

/-- An entry of a stook (R113). -/
structure StookEntry where
  /-- Sketch distance -/
  dist : Nat
  /-- Slot -/
  slot : Nat
  /-- List index -/
  list : Nat
  /-- Position in list -/
  pos : Nat
  deriving DecidableEq, Repr

/-- What a list's passes have delivered to a query (R115). -/
structure ListPass where
  /-- List index -/
  list : Nat
  /-- A pass has been made and its stook has not yet been delivered -/
  stook : Option (List StookEntry)
  /-- The last pass delivered a full stook -/
  full : Bool
  /-- The last key delivered: distance and position -/
  last : Option (Nat × Nat)
  /-- A further stook has been asked for, or the first has not been made -/
  want : Bool
  /-- The check of the pass failed and a fallback pass is awaited (R164) -/
  fallback : Bool
  /-- The shard's other holder, asked for the pass (R157) -/
  far : Option Nat
  deriving DecidableEq, Repr

/-- A query's work on one shard (R94). -/
structure ShardWork where
  /-- Shard number -/
  shard : Nat
  /-- Routing has chosen the probe lists -/
  routed : Bool
  /-- Probe lists and what they delivered -/
  passes : List ListPass
  /-- The candidate pool (R114) -/
  pool : List StookEntry
  /-- The candidates, once no list qualifies for a refill (R115) -/
  cands : Option (List StookEntry)
  /-- Gleaned candidates: entry and record, with the score unless invalid (R116) -/
  gleaned : List (StookEntry × Nat × Option Nat)
  /-- The node sheaf of the shard (R117) -/
  sheaf : Option Sheaf
  /-- It is a re-run share of an excluded node (R49, R122) -/
  rerun : Bool
  deriving DecidableEq, Repr

/-- A running query on this node (R94, R119). -/
structure QWork where
  /-- The query -/
  q : Query
  /-- Work on each shard this node serves -/
  shards : List ShardWork
  /-- Merge-pool bytes reserved, none while waiting (R129, R130) -/
  mergeRes : Option Nat
  /-- Stook-pool bytes reserved, none while waiting (R128, R130) -/
  stookRes : Option Nat
  /-- The kept node sheaf (R100) -/
  kept : Option Sheaf
  /-- Inputs of the merge stage that have arrived: child and sheaf (R119) -/
  inputs : List (Nat × Sheaf)
  /-- Children whose input is awaited (R119, R470) -/
  await : List Nat
  /-- Re-run sheaves at the root (R122) -/
  reruns : List Sheaf
  /-- The stage has sent its output, or the root has formed the final sheaf -/
  emitted : Bool
  /-- Status that the safety controller or unrecoverable data imposes: WITHDRAWN 2, FAILED 10, HORIZON 7, or 0 -/
  bad : Nat
  /-- The ancestor that this node's own share goes to, in place of the stage's output, since its path up the tree lost a node
  (R470) -/
  direct : Option Nat
  deriving DecidableEq, Repr

/-- An operation admitted here that has not yet completed (R371). -/
structure Admitted where
  /-- Its identity -/
  id : OpId
  /-- Its opcode -/
  opcode : Nat
  /-- Its delivery -/
  dlv : Delivery
  /-- Collection handle or table -/
  handle : Nat
  /-- Record identifier of a mutation -/
  record : Nat
  /-- The query, for a query that waits for its start or its encoder (R31, R93) -/
  query : Option Query
  /-- It has started (R31) -/
  started : Bool
  /-- Holders whose acknowledgement is awaited (R29) -/
  acks : List Nat
  /-- The outcome notice received, by holder (R144) -/
  notices : List (Nat × MutOutcome)
  /-- Members among the holders at admission (R143) -/
  holders : List Nat
  /-- It counts in the in-flight count (R371) -/
  counts : Bool
  /-- Bags, records or rows named; ITEMS of its completion (R293); 0 otherwise -/
  items : Nat
  deriving DecidableEq, Repr

/-- A staged mutation at a holder (R138). -/
structure Staged where
  /-- The mutation -/
  m : Mutation
  /-- Routing form and sketch (R60, R61) -/
  rform : List Int
  sketch : Nat
  /-- Chosen list or lists (R68, R69) -/
  lists : List Nat
  /-- This holder's staging digest (R138) -/
  digest : Digest
  /-- The other holder's digest, once received -/
  peer : Option Digest
  /-- Digests differ: the mutation is withheld (R139) -/
  withheld : Bool
  /-- Acknowledged to the admitting node -/
  acked : Bool
  deriving DecidableEq, Repr

/-- Collections, queries and mutations. -/
structure SearchSt where
  /-- What is known of each collection, by handle (R70, R98); none at reset -/
  colls : Tab CollInfo
  /-- Shards this node holds -/
  shards : List Shard
  /-- Score-map weight tables, by COLL_SMAP entry (R97) -/
  maps : Tab (List Nat)
  /-- The pending-delete set (R38); reset empty -/
  pds : List PdsPair
  /-- Running queries (R94); reset none -/
  work : List QWork
  /-- Operations admitted here; reset none -/
  adm : List Admitted
  /-- Staged mutations (R138); reset none -/
  staged : List Staged
  /-- Filter operations of steps not yet committed here (R76, R79); reset none -/
  filterOps : List FilterOp
  /-- Staging credit held from each node, in 4 KiB units (R137); reset none -/
  credit : Tab Nat
  /-- Staging digests that arrived before their mutation (R138); reset none -/
  digests : List (OpId × Digest)
  /-- RECORD_READs that wait for the commit of the step before theirs (R142); reset none -/
  reads : List Mutation
  /-- Committed records not yet verified in flash: collection, shard, slot, admitting node, units (R137, R146); reset none -/
  unflushed : List (Nat × Nat × Nat × Nat × Nat)
  /-- Slots in the rerank cache: collection, shard, slot, most recent last (R99); reset empty -/
  cache : List (Nat × Nat × Nat)
  /-- Records that the shard's other node has sent for gleaning: collection, shard, slot, and whether it could read it
  (R99); reset none -/
  fetched : List (Nat × Nat × Nat × Bool)
  /-- Filter bits that a rebuild could not copy: collection, shard, list, filter slot (R182); reset none -/
  lostBits : List (Nat × Nat × Nat × Nat)
  /-- Logical pages of record indexes that no holder can read (R145, R209); reset none -/
  lostIdx : List Nat
  deriving DecidableEq, Repr

/-- The safety controller beyond its registers. -/
structure SafeSt where
  /-- Units to isolate at the next step boundary (R395); reset none -/
  isoPending : List (UnitClass × Nat)
  /-- Isolated units (R395); reset none -/
  isolated : List (UnitClass × Nat)
  /-- Units to take back at the next step boundary (R396); reset none -/
  readmitPending : List (UnitClass × Nat)
  /-- Times each unit has been isolated, key 65536 class + unit (R396); reset 0 -/
  isoTimes : Tab Nat
  /-- Consecutive clean cycles of each isolated unit, same key (R396); reset 0 -/
  clean : Tab Nat
  /-- Ticks of the reactions within the last second, newest first (R392); reset none -/
  recent : List Nat
  /-- The tick until which FAULT_N is driven low (R392); reset none -/
  faultUntil : Option Nat
  /-- The tick the rolling test cycle began (R393); reset 0 -/
  cycleStart : Nat
  /-- FREEZE_N is low (R402); reset false -/
  pinLow : Bool
  /-- The JTAG freeze latch (R402); reset false -/
  latch : Bool
  /-- A freeze waits for the end of the present start-up stage (R402); reset false -/
  freezeWait : Bool
  /-- Spare vias, spare rows and reserve rows that a rolling test marked unusable: kind 0, 1, 2 and index (R394); reset none -/
  badSpares : List (Nat × Nat)
  /-- Fallback threshers isolated, by stack (R164, R394); reset none -/
  noFallback : List Nat
  deriving DecidableEq, Repr

/-- A rebuild of a failed channel (R180 to R182). -/
structure ChanRebuild where
  /-- The failed channel -/
  ch : Nat
  /-- The step s_r whose commit the list planes are rebuilt as of (R182) -/
  from_ : Nat
  /-- MiB still to restore: privileged, coded, rebuildable (R181) -/
  left : Nat × Nat × Nat
  /-- The rebuild has completed and takes effect at the next commit (R182) -/
  done : Bool
  deriving DecidableEq, Repr

/-- The stacked memory beyond its registers (R168 to R187). -/
structure StackSt where
  /-- Stack-timer period of each bank's last refresh, by bank (R173); reset 0 -/
  refreshAt : Tab Nat
  /-- One more than the tick from which every die of a stack has read 80 °C or below, 0 while one does not (R173); reset 0 -/
  coolFrom : Tab Nat
  /-- Uncorrectable chunks: channel, bank, tick (R179); reset none -/
  uc : List (Nat × Nat × Nat)
  /-- Spare rows used in each bank (R185); reset 0 -/
  spareRows : Tab Nat
  /-- Rows remapped, key 65536 bank + row, to their spare row (R185); reset none -/
  rowMap : Tab Nat
  /-- Vias remapped to spares, key 256 channel + via (R171); reset none -/
  viaMap : Tab Nat
  /-- MiB allocated in each channel, privileged, coded and rebuildable, from the image (R180); unlisted 0 -/
  alloc : Tab (Nat × Nat × Nat)
  /-- Free reserve of each stack in MiB (R180); unlisted 3,072 -/
  reserve : Tab Nat
  /-- Reserve rows failed by a rolling test (R394); reset 0 -/
  badRows : Nat
  /-- Unallocated DRAM of the module in MiB, from the image (R22, R184); reset 761,856 -/
  freeMib : Nat
  /-- Contents relocated: channel, stack (8 for unallocated DRAM), MiB (R180, R184); reset none -/
  reloc : List (Nat × Nat × Nat)
  /-- Rebuilds in progress (R181); reset none -/
  rebuilds : List ChanRebuild
  deriving DecidableEq, Repr

/-- A flash block (R197). -/
structure Block where
  /-- 0 free, 1 open, 2 closed awaiting verification, 3 closed, 4 retired -/
  st : Nat
  /-- Erase count -/
  erases : Nat
  /-- Valid 16 KiB units -/
  valid : Nat
  /-- Pages programmed since the erase -/
  pages : Nat
  /-- AGE_W of the first program -/
  ageW : Nat
  /-- TEMP_W of the first program -/
  tempW : Nat
  deriving DecidableEq, Repr

/-- An open superblock, or a full one awaiting verification (R199, R200). -/
structure Super where
  /-- Stream -/
  stream : Nat
  /-- Member blocks -/
  blocks : List Nat
  /-- Units programmed in it -/
  units : List FlashUnit
  /-- Every page is programmed: it awaits verification -/
  full : Bool
  deriving DecidableEq, Repr

/-- The flash package profile (R192). -/
structure Profile where
  /-- Page data bytes S -/
  page : Nat
  /-- Spare bytes T -/
  spare : Nat
  /-- Planes per LUN -/
  planes : Nat
  /-- Blocks per plane -/
  blocks : Nat
  /-- Pages per block -/
  pages : Nat
  /-- Rated erase cycles -/
  cycles : Nat
  deriving DecidableEq, Repr

/-- The granary beyond its registers (R190 to R216). -/
structure GranSt where
  /-- The package profile of the image (R192); reset all 0 -/
  profile : Profile
  /-- The block table, key ((8 channel + LUN) 4 + plane) 65536 + block (R197); unlisted: free, never erased -/
  blocks : Tab Block
  /-- The flash map: entry of each mapped logical page (R196); reset none -/
  map : Tab Nat
  /-- Superblocks that hold parity, oldest first (R200); reset none -/
  supers : List Super
  /-- Units to be programmed again: stream and unit (R200, R201, R207, R209); reset none -/
  rewrite : List (Nat × FlashUnit)
  /-- Blocks being collected, awaiting their erase (R201); reset none -/
  collecting : List Nat
  /-- The program sequence number last used (R194); reset 0 -/
  seq : Nat
  /-- Temperature of each LUN, key 8 channel + LUN (R206); reset 0 -/
  lunTemp : Tab Nat
  /-- Failures of each LUN within the last hour: LUN, block, tick (R209); reset none -/
  lunFails : List (Nat × Nat × Nat)
  /-- SEQ of the newest copy of each map segment (R203); reset none -/
  ckpt : Tab Nat
  /-- The next segment to write (R203); reset 0 -/
  ckptNext : Nat
  /-- The tick of the last segment written (R203); reset 0 -/
  ckptTick : Nat
  /-- The tick of the last advance of the age counter (R206); reset 0 -/
  ageTick : Nat
  /-- The lease mark being programmed (R205); reset none -/
  leaseDue : Option Nat
  /-- Bytes of committed data not yet programmed (R215); reset 0 -/
  unprog : Nat
  /-- Updates held by each dirty index page, and the step of the oldest: collection, shard, page, count, step (R213); reset none -/
  idxDirty : List (Nat × Nat × Nat × Nat × Nat)
  /-- The power-fail flush has programmed everything (R216); reset false -/
  flushed : Bool
  /-- LUNs present at the last start, as 8 channel + LUN (R191); reset none -/
  luns : List Nat
  /-- CHANNEL_MASK of the image (R193); reset 0 -/
  chanMask : Nat
  deriving DecidableEq, Repr

/-- An amendment appended to the log (R416, R420). -/
structure Amend where
  /-- SEQ -/
  seq : Nat
  /-- STEP -/
  step : Nat
  /-- The record's bytes -/
  raw : List Byte
  /-- It is in force (R421) -/
  applied : Bool
  /-- Its first byte on devices A and B, among all bytes ever appended there, where it could be programmed (R420) -/
  posA : Option Nat
  posB : Option Nat
  /-- The node has finished programming it, or need not (R420) -/
  appended : Bool
  /-- The part of an image that it carries is programmed here (R423) -/
  stored : Bool
  deriving DecidableEq, Repr

/-- A stage slot's record at the root, whose completion is awaited (R418, R420). -/
structure StageWait where
  /-- SEQ -/
  seq : Nat
  /-- STEP -/
  step : Nat
  /-- A member could not carry the amendment out (R423) -/
  bad : Bool
  /-- The entry node, partition and slot -/
  node : Nat
  part : Nat
  slot : Nat
  /-- Members whose acknowledgement is awaited -/
  acks : List Nat
  deriving DecidableEq, Repr

/-- What one collection, table or model shows in a state report (R427). -/
structure ReportEntry where
  /-- KIND and ID -/
  kind : Nat
  id : Nat
  /-- LAST_CHANGE -/
  last : Nat
  digest : Digest
  deriving DecidableEq, Repr

/-- A state report asked for (R427). -/
structure ReportWait where
  /-- Partition and slot -/
  part : Nat
  slot : Nat
  /-- The host -/
  pid : Nat
  /-- Step t -/
  step : Nat
  /-- DST, NONCE and CAPACITY -/
  dst : Nat
  nonce : Nat
  cap : Nat
  deriving DecidableEq, Repr

/-- Configuration, identity and start-up beyond their registers (R409 to R433). -/
structure CfgSt where
  /-- Owner, safety and partition public keys of the image in force (R412); reset none -/
  ownerKey : List Byte
  safetyKey : List Byte
  partKeys : Tab (List Byte)
  /-- Members that the topology names (R412); reset none -/
  topology : List Nat
  /-- BASE_SEQ and BASE_HEAD of the image in force (R411); reset 0 -/
  baseSeq : Nat
  baseHead : Digest
  /-- The chain digest at each SEQ (R420); reset none -/
  heads : Tab Digest
  /-- The amendment log (R420); survives a reset -/
  log : List Amend
  /-- The image area of devices A and B (R410); survives a reset -/
  devices : List (List Byte)
  /-- Slots awaited at this root (R420); reset none -/
  waits : List StageWait
  /-- State reports asked for (R427); reset none -/
  reports : List ReportWait
  /-- SM3 of the last state report signed (R426); reset 0 -/
  lastReport : Digest
  /-- The device tried first has failed with this reason (R410); reset none -/
  firstFail : Option Nat
  /-- The device certificate's public key (R412, R413); reset none -/
  certKey : List Byte
  /-- The certificate chain of slot 0 (R426); reset none -/
  chainDer : List Byte
  /-- Stack training has finished (R428); reset false -/
  trained : Bool
  /-- Channels that failed in training, and rows and vias it remapped, held until the image is in force (R179, R186); reset none -/
  badChans : List Nat
  /-- The identity key was derived (R414); reset false -/
  pufOk : Bool
  /-- Bytes of the log range on devices A and B (R410, R412); reset 0 -/
  logLen : Nat × Nat
  /-- Bytes ever appended to each log, and of them those since erased (R420, R423); survive a reset -/
  logWr : Nat × Nat
  logErased : Nat × Nat
  /-- BASE_SEQ of the image that each device holds, if it is valid (R423); reset none -/
  imgBase : List (Nat × Nat)
  /-- SPDM requester root certificates of the image (R412); reset none -/
  roots : List Byte
  /-- Entries retiring (R57): 0 collection, 1 table, 2 model, 3 score map; the index; the retirement step; reset none -/
  retiring : List (Nat × Nat × Nat)
  /-- COLL_SMAP entries whose table this node could not read, or found with another digest (R98); reset none -/
  badMaps : List Nat
  /-- Records submitted before the node is a member (R429): partition, slot, bytes; reset none -/
  subs : List (Nat × Nat × List Byte)
  /-- Score-map tables read for entries that are not yet in force (R98): entry and weights; reset none -/
  nextMaps : List (Nat × List Nat)
  /-- Unwrapped model keys by key slot (R272); reset none -/
  keySlots : Tab (List Byte)
  /-- The register fields as they stood before the amendments of a step took effect, latest first, while requests of earlier
  steps may run (R17, R421); reset none -/
  was : List (Nat × Tab Nat)
  deriving DecidableEq, Repr

/-- Pins, rails and the power limiter (R439 to R455). -/
structure PwrSt where
  /-- Levels of RESET_N, PWR_OK, PWR_FAIL_N, COMPAT_G1 and CFG_SEL (R443, R447); at reset high, high, high, low, low -/
  resetN : Bool
  pwrOk : Bool
  pwrFailN : Bool
  /-- The rails are good (R443); reset true -/
  rails : Bool
  /-- A RESET_N low that waits for the flush to end (R446); reset false -/
  resetLatched : Bool
  /-- A RESET_N release that waits for rails, PWR_FAIL_N or temperatures (R442, R443): the straps to sample; reset none -/
  releaseHeld : Option (Bool × Bool)
  /-- Core voltage in mV (R439); reset 850 (DESIGN CHOICE, assumption 24) -/
  vcore : Nat
  /-- The scan rate the limiter applies, in % of SCAN_ROWS (R439); reset 100 -/
  scanPct : Nat
  /-- The tick of the last limiter sample (R439); reset 0 -/
  sampleTick : Nat
  /-- CXL_PERST0_N and CXL_PERST1_N are low (R450); reset none -/
  perst : List Nat
  /-- The I3C dynamic address (R454); reset none -/
  i3cAddr : Option Nat
  /-- The boundary scan's update register (R455); reset 0 -/
  bscan : Nat
  /-- The boundary scan drives the lands (R455); reset false -/
  extest : Bool
  deriving DecidableEq, Repr

/-- A segment of a layer's weights (R248, R263 to R270): its rows K, stored type and form, its built bytes, and its 1 KiB
of constants. -/
structure WSeg where
  /-- K -/
  k : Nat
  /-- 0 int8, 1 FP8 E4M3, 2 FP8 E5M2, 3 BF16 -/
  ty : Nat
  /-- The built form, decrypted for FORM 3 -/
  bytes : List Byte
  /-- Column scales and sums (R263) -/
  consts : List Byte
  deriving DecidableEq, Repr

/-- A model's program and weights in DRAM, beyond its ENC_MODEL entry (R220, R236, R270). -/
structure ModelMem where
  /-- Bundles of the program (R236) -/
  prog : List Nat
  /-- Segments of each layer -/
  layers : List (List WSeg)
  /-- VQ_DIM, VQ_ROUNDS, EXC_TOL and KEY_SLOT of the load record (R270) -/
  vqDim : Nat
  vqRounds : Nat
  excTol : Nat
  keySlot : Nat
  /-- STATS_ADDR, STATS_SLOTS, STATS_STEPS (R270) -/
  statsAddr : Nat
  statsSlots : Nat
  statsSteps : Nat
  /-- The first pass has finished (R270, R271) -/
  passDone : Bool
  /-- The first pass failed, or the keys did not unwrap (R271, R422) -/
  failed : Bool
  /-- The model reads its ALT_CHAIN since an exclusion (R233) -/
  onAlt : Bool
  deriving DecidableEq, Repr

/-- What the node gathers of a model for one admission step (R259). -/
structure StepStats where
  step : Nat
  /-- Records admitted here -/
  records : Nat
  /-- Elements quantised and clipped here -/
  quant : Nat
  clipped : Nat
  /-- FP32 maximum absolute value of each layer -/
  maxAbs : Tab Nat
  /-- An event under R258 -/
  satEvt : Bool
  /-- A record of the model ran here -/
  ran : Bool
  deriving DecidableEq, Repr

/-- What the node gathers of a model between two statistics records (R259). -/
structure QStats where
  /-- Admission steps in which a record ran here, ascending -/
  steps : List StepStats
  /-- Records written so far -/
  seq : Nat
  deriving DecidableEq, Repr

/-- Counters of one model's records of one admission step here (R258). -/
structure SatAgg where
  model : Nat
  step : Nat
  /-- Sum of saturation and of quantised-element counters -/
  c : Nat
  n : Nat
  /-- Records admitted and not yet complete -/
  left : Nat
  deriving DecidableEq, Repr

/-- A record in the backlog (R225): a raw-form query or one record of an ENC_RUN. -/
structure EncRec where
  /-- The operation -/
  id : OpId
  /-- Record position -/
  pos : Nat
  /-- 0 raw-form query, 1 ENC_RUN -/
  cls : Nat
  /-- ENC_MODEL entry index -/
  model : Nat
  /-- Partition -/
  part : Nat
  deriving DecidableEq, Repr

/-- An ENC_RUN job at its admitting node (R221 to R224). -/
structure EncJob where
  id : OpId
  /-- COUNT, SRC, DST, IN_STRIDE, OUT_STRIDE -/
  count : Nat
  src : Nat
  dst : Nat
  inStride : Nat
  outStride : Nat
  /-- Output records with STATUS OK, and with any other -/
  ok : Nat
  bad : Nat
  /-- WITHDRAWN or FAILED of a record, 0 otherwise -/
  status : Nat
  deriving DecidableEq, Repr

/-- A weight-stream handle that is open (R248): layer, segment, and rows consumed. -/
structure WHandle where
  layer : Nat
  seg : Nat
  row : Nat
  deriving DecidableEq, Repr

/-- An accumulator tile (R239): tagged FP32 or int32, elements by 128 row + column, unlisted 0. -/
structure Tile where
  fp : Bool
  el : Tab Nat
  deriving DecidableEq, Repr

/-- What a slot of the present bundle will do when the bundle ends (R238). -/
inductive SlotWrite where
  | sreg (r v : Nat)
  | vreg (r v : Nat)
  | tile (t : Nat) (v : Tile)
  | scratch (addr : Nat) (data : List Byte)
  | handle (h : Nat) (v : Option WHandle)
  /-- Add to the saturation counter and the quantised-element counter -/
  | sat (clipped quant : Nat)
  | nan
  /-- Offer a maximum absolute value for a layer -/
  | stat (layer v : Nat)
  | output (off : Nat) (data : List Byte)
  | exchange (core addr : Nat) (data : List Byte)
  | activation (data : List Byte)
  | takeActivation (n : Nat)
  | gradient (data : List Byte)
  /-- A transfer of a scratch range that is under way after the bundle; an exchange or another -/
  | transfer (addr len : Nat) (xch : Bool)
  | window (addr len : Nat)
  | goto_ (pc : Nat)
  | enterLoop (last count : Nat)
  | bar
  | halt
  /-- Rows held for more than 4 exceptions (R266) -/
  | delays (n : Nat)
  deriving DecidableEq, Repr

/-- A Nyiskah core (R239). -/
structure NCore where
  /-- Scalar registers, unlisted 0 -/
  s : Tab Nat
  /-- Vector registers as 4,096-bit numbers, unlisted 0 -/
  v : Tab Nat
  /-- Tiles -/
  t : Tab Tile
  /-- Weight-stream handles -/
  h : Tab WHandle
  /-- Scratch by byte, unlisted 0 -/
  mem : Tab Nat
  /-- Bundle being executed -/
  pc : Nat
  /-- Slots of it already executed, from S0 -/
  slot : Nat
  /-- What they will do, each with its slot's index -/
  pend : List (Nat × SlotWrite)
  /-- The lowest exception cause they raised -/
  exc : Option Nat
  /-- Open loops, innermost first: first bundle, last bundle, runs left -/
  loops : List (Nat × Nat × Nat)
  /-- Open receive windows: address, bytes -/
  windows : List (Nat × Nat)
  /-- Transfers under way: address, bytes, whether an exchange (R249, R250) -/
  xfers : List (Nat × Nat × Bool)
  /-- It waits at a BAR -/
  atBar : Bool
  /-- It has executed HALT, or has no record -/
  halted : Bool
  deriving DecidableEq, Repr

/-- A record running on a cluster (R225). -/
structure EncRun where
  /-- The record -/
  r : EncRec
  /-- Admitting node of a chain's record, this node otherwise -/
  home : Nat
  /-- Input record (R223) -/
  input : List Byte
  /-- Pooled FP32 input of each encoder field (R280) -/
  pooled : List (Nat × List Byte)
  /-- Bytes that OUTCPY wrote, by offset in the output record (R260) -/
  out : Tab Nat
  /-- Saturation and quantised-element counters that came with activations (R257), and this node's own share -/
  sat : Nat
  quant : Nat
  satHere : Nat
  quantHere : Nat
  /-- The NaN flag, set here and come with activations -/
  nan : Bool
  nanIn : Bool
  /-- This node's position in the chain -/
  chainPos : Nat
  /-- The previous chain node has sent everything (R257); true on CHAIN[0] and off a chain -/
  ended : Bool
  /-- Activation bytes received (R251), and how many of them ACTI has taken -/
  inbox : List Byte
  taken : Nat
  /-- Activation bytes that ACTO has produced since the record's start here, and the most it has sent on -/
  actPos : Nat
  sentMax : Nat
  /-- Gradient records emitted here, and those that came with activations (R282) -/
  grads : List (List Byte)
  gradsIn : List (List Byte)
  /-- 0, or WITHDRAWN 2 or FAILED 10 -/
  bad : Nat
  deriving DecidableEq, Repr

/-- A window of a model in a half's loft (R230, R231). -/
structure LoftWin where
  model : Nat
  half : Nat
  /-- Layers present -/
  layers : List Nat
  /-- When it was last used, in windows' turns -/
  used : Nat
  deriving DecidableEq, Repr

/-- The encoder engine beyond its registers (R219 to R273). -/
structure EncSt where
  /-- Programs and weights by ENC_MODEL entry; reset none -/
  models : Tab ModelMem
  /-- Records admitted and waiting (R225); reset none -/
  backlog : List EncRec
  /-- ENC_RUN jobs (R221); reset none -/
  jobs : List EncJob
  /-- Raw-form queries that wait for their vector: descriptor bytes by operation (R93); reset none -/
  raws : List (OpId × List Byte)
  /-- Records running, by cluster (R225); reset none -/
  runs : Tab EncRun
  /-- Cores (R239); reset halted with everything 0 -/
  cores : Tab NCore
  /-- The partition of each core's last record (R226); reset 0 -/
  lastPart : Tab Nat
  /-- Chain records received that wait for a cluster (R232); reset none -/
  arrived : List EncRun
  /-- Records sent along a chain whose output is awaited here (R232, R233); reset none -/
  sent : List EncRun
  /-- Loft windows (R230); reset none -/
  loft : List LoftWin
  /-- Turns counted for the least-recently-used order of windows (R231); reset 0 -/
  turn : Nat
  /-- Sums for the saturation event (R258); reset none -/
  aggs : List SatAgg
  /-- Statistics by model (R259); reset none -/
  stats : Tab QStats
  deriving DecidableEq, Repr

/-- A bag of a look-up at its admitting node (R278). -/
structure Bag where
  /-- Its scale, FP32 -/
  scale : Nat
  /-- Entries: row and weight -/
  entries : List (Nat × Int)
  /-- A row of it has no holder that is a member (R281) -/
  dead : Bool
  deriving DecidableEq, Repr

/-- A look-up in progress at its admitting node (R279): an EMB_LOOKUP, or an EMB_TABLE_SAVE whose rows are bags of one
entry (R290). -/
structure Lookup where
  id : OpId
  table : Nat
  dst : Nat
  save : Bool
  /-- First row and number of rows of a save -/
  first : Nat
  count : Nat
  bags : List Bag
  /-- Partial sums received, per bag -/
  sums : Tab (List Int)
  /-- Nodes whose partials are awaited -/
  await : List Nat
  fwd : Nat
  /-- WITHDRAWN or FAILED, 0 for neither -/
  bad : Nat
  deriving DecidableEq, Repr

/-- An EMB_UPDATE at its admitting node (R285). -/
structure Update where
  id : OpId
  table : Nat
  /-- Records that survive their conversion, by row -/
  rows : List Nat
  /-- Elements clamped -/
  sat : Nat
  /-- Records forwarded to a new owner (R292) -/
  fwd : Nat
  deriving DecidableEq, Repr

/-- An EMB_TABLE_LOAD in progress (R290). -/
structure TableLoad where
  info : LoadInfo
  /-- Rows placed so far -/
  rows : Tab (List Int)
  /-- It has finished placing its rows -/
  done : Bool
  /-- The step s + LOAD_LAG, at whose commit it takes effect -/
  due : Nat
  deriving DecidableEq, Repr

/-- A look-up entry that reached this node (R279), and the node that asks. -/
structure EntryReq where
  id : OpId
  table : Nat
  src : Nat
  bag : Nat
  row : Nat
  weight : Int
  deriving DecidableEq, Repr

/-- The partial sums this node forms for a look-up (R279). -/
structure Partial where
  id : OpId
  src : Nat
  sums : Tab (List Int)
  /-- Entries not yet gathered -/
  left : Nat
  fwd : Nat
  /-- Nodes that entries were forwarded to (R292) -/
  onto : List Nat
  bad : Nat
  deriving DecidableEq, Repr

/-- The embedding service beyond its registers (R274 to R295). -/
structure EmbSt where
  /-- Node-set list of each table entry (R276), from the image; reset none -/
  nodes : Tab (List Nat)
  /-- Rows, key 2^32 table number + row (R275); unlisted all 0 -/
  rows : Tab Row
  /-- Directory (R292); reset none -/
  dir : List Override
  /-- Directory entries staged for the commit of a step (R292): the step and entry; reset none -/
  dirStaged : List (Nat × Override)
  /-- Gradient records staged (R284); reset none -/
  grads : List GradRec
  /-- Undo set: tag, row key, copy (R289); reset none -/
  undo : List (Nat × Nat × Row)
  /-- Look-ups (R279); reset none -/
  lookups : List Lookup
  /-- Entries that wait for a commit, a row's update, its digests or its migration (R279, R287, R292); reset none -/
  waiting : List EntryReq
  /-- Entries dispatched to the NBUs (R153); reset none -/
  gathers : List EntryReq
  /-- Partial sums being formed (R279); reset none -/
  partials : List Partial
  /-- Rows whose APPLY has been dispatched: row key, step (R286); reset none -/
  applies : List (Nat × Nat)
  /-- Gradient records that wait for staging credit, and their destination (R284); reset none -/
  unsent : List (Nat × GradRec)
  /-- Records forwarded from here whose new holders' acknowledgements are awaited: operation, partition, nodes (R292);
  reset none -/
  relays : List (OpId × Nat × List Nat)
  /-- Directory entries whose acknowledgement this owner awaits: node, step (R292); reset none -/
  dirAcks : List (Nat × Nat)
  /-- Old copies to be released: row key, step (R292); reset none -/
  old : List (Nat × Nat)
  /-- Updates (R285); reset none -/
  updates : List Update
  /-- Table loads (R290); reset none -/
  loads : List TableLoad
  /-- Terms and records served at the present step, key 2^32 table + row (R291); reset 0 -/
  served : Tab Nat
  /-- Load reports: step, table, node, load (R291); reset none -/
  reports : List (Nat × Nat × Nat × Nat)
  /-- Rows expected here from their old owner (R292): row key and step; reset none -/
  expected : List (Nat × Nat)
  /-- Digests awaited: row key, step, node, and this node's digest (R287); reset none -/
  digests : List (Nat × Nat × Nat × Digest)
  /-- Digests received before the row was updated here: row key, step, node, digest (R287); reset none -/
  early : List (Nat × Nat × Nat × Digest)
  /-- The table chain T by table number (R425); reset 0 -/
  chain : Tab Digest
  /-- The latest step at whose commit each table's chain changed (R427); reset 0 -/
  chainStep : Tab Nat
  deriving DecidableEq, Repr

/-- A line this node holds (R306, R308). -/
structure NodeLine where
  st : LineSt
  /-- Its 64 bytes, as a number -/
  data : Nat
  /-- The tick of the grant -/
  since : Nat
  /-- The first access has completed -/
  used : Bool
  /-- Hosts that hold it, true for A -/
  hosts : List (Nat × Bool)
  deriving DecidableEq, Repr

/-- A directory entry of a line homed here (R306). -/
structure DirLine where
  /-- Sharers -/
  sharers : List Nat
  /-- The Forward holder -/
  fwd : Option Nat
  /-- The owner -/
  owner : Option Nat
  deriving DecidableEq, Repr

/-- What a home serves for a line (R307, R311). -/
inductive HomeKind where
  | rds | rdo | upg
  /-- An invalidating write: data, byte mask, requester tag -/
  | inv (data mask tag : Nat)
  /-- The home takes copies back: with the invalidating snoop, or leaving them shared -/
  | recall (inv : Bool)
  /-- Compare-and-swap of a region descriptor: operation, region, expected version, content base, host -/
  | cas (id : OpId) (region expect base pid : Nat)
  deriving DecidableEq, Repr

/-- A request queued at the home (R307). -/
structure HomeReq where
  line : Nat
  /-- The requesting node -/
  src : Nat
  kind : HomeKind
  deriving DecidableEq, Repr

/-- A request being served (R307): snoop answers awaited and modified data received. -/
structure HomeTxn where
  req : HomeReq
  await : List Nat
  data : Option Nat
  deriving DecidableEq, Repr

/-- A host request that waits for its line (R312). 0 MemRd S, 1 MemRd A, 2 MemRd I, 3 invalidating write. -/
structure HostWait where
  line : Nat
  pid : Nat
  kind : Nat
  data : Nat
  mask : Nat
  deriving DecidableEq, Repr

/-- A snoop from a home that waits at this node: for the hold, or for its hosts (R308, R312). -/
structure SnoopWait where
  line : Nat
  home : Nat
  inv : Bool
  /-- The node the line is forwarded to -/
  fwd : Option Nat
  deriving DecidableEq, Repr

/-- A frame of the home's cache (R298, R300). -/
structure Frame where
  /-- 1 hot, 2 cold, 3 neutral -/
  hint : Nat
  /-- One more than the tick of the first modification since its last write-back, 0 while clean -/
  dirtyAt : Nat
  /-- Order of last use -/
  used : Nat
  /-- The partition whose hint made it hot -/
  hotFor : Nat
  deriving DecidableEq, Repr

/-- A publication in progress (R320). -/
structure Publish where
  id : OpId
  region : Nat
  stage : Nat
  expect : Nat
  /-- The compare-and-swap has been sent -/
  sent : Bool
  /-- The range was being sealed already: only the current version is read -/
  lostRace : Bool
  deriving DecidableEq, Repr

/-- A flush in progress (R302), or the flush that a seal does (R320): granules homed here that are still to be recalled and
programmed, and those whose programs have not been verified. -/
structure Flush where
  id : OpId
  range : Nat
  todo : List Nat
  pend : List Nat
  deriving DecidableEq, Repr

/-- A page swap in progress (R303). -/
structure Swap where
  part : Nat
  slot : Nat
  pid : Nat
  /-- 1 PAGE_IN, 2 PAGE_OUT -/
  op : Nat
  addr : Nat
  host : Nat
  /-- A page-in's lines are being written -/
  writing : Bool
  deriving DecidableEq, Repr

/-- Shared memory and coherence beyond their registers (R296 to R323). -/
structure HomeSt where
  /-- The ordered export list (R296), from the image; reset none -/
  exports : List Nat
  /-- Frames of the cache region (R298), from the image; reset 0 -/
  frameCap : Nat
  /-- Lines homed here as the home's DRAM holds them, by shared line number; unlisted 0 -/
  mem : Tab Nat
  /-- Lines homed here as last programmed to flash (R214); unlisted 0; survives a reset -/
  flash : Tab Nat
  /-- Lines lost (R313); reset none -/
  lost : List Nat
  /-- Frames by shared granule number (R298, R300); reset none -/
  frames : Tab Frame
  /-- Granules being filled, with the hint and the partition of the hint that asked (R300, R301); reset none -/
  filling : List (Nat × Nat × Nat)
  /-- Uses of frames counted for the least-recently-used order; reset 0 -/
  turn : Nat
  /-- The directory (R306); unlisted I -/
  dir : Tab DirLine
  /-- Requests queued at this home, oldest first (R307); reset none -/
  queue : List HomeReq
  /-- Requests being served, by line (R307); reset none -/
  txns : Tab HomeTxn
  /-- Lines this node holds (R306); reset none -/
  held : Tab NodeLine
  /-- Lines this node has asked a home for: line and request (R312); reset none -/
  asked : List (Nat × HomeKind)
  /-- Host requests that wait (R312); reset none -/
  waits : List HostWait
  /-- Writes of node operations that wait for a seal: line, data, mask, tag (R320); reset none -/
  sealedWrites : List (Nat × Nat × Nat × Nat)
  /-- Snoops that wait (R308, R312); reset none -/
  snoops : List SnoopWait
  /-- BISnp sent and unanswered: line, host, invalidating, tick (R314); reset none -/
  bisnp : List (Nat × Nat × Bool × Nat)
  /-- Publications (R320); reset none -/
  pubs : List Publish
  /-- Flushes (R302); reset none -/
  flushes : List Flush
  /-- Ranges that become staging again, and the step (R320); reset none -/
  retained : List (Nat × Nat)
  /-- Operations that complete once their writes are visible (R310): status and record; reset none -/
  ends : List (OpId × Nat × List Byte)
  /-- Coherence messages of this node to itself, oldest first; reset none -/
  inbox : List CohMsg
  /-- Page swaps (R303); reset none -/
  swaps : List Swap
  /-- Lost-line entries not yet appended (R316); reset none -/
  logPend : List LostEntry
  /-- Ranges being zeroed (R305); reset none -/
  zeroing : List Nat
  /-- Spans that left a range, newest first: base, length and partition (R305); reset none -/
  former : List (Nat × Nat × Nat)
  deriving DecidableEq, Repr

/-- What the node sends out, in order. -/
inductive Output where
  /-- A write to host memory through a CXL port (R329). -/
  | hostWrite (port : Nat) (w : HostWrite)
  /-- An MSI-X message (R334). -/
  | msix (vector pid addr data : Nat)
  /-- A message whose last flit has been sent on a link (R358). -/
  | send (link dst : Nat) (c : Cargo)
  /-- A message the node sends to itself. -/
  | toSelf (cmd : Instr)
  /-- The header a received DATA flit is answered with: ACK and one credit of its class (R350, R362). -/
  | ack (link ack cls : Nat)
  /-- An Unsupported Request answer to a host (R328). -/
  | unsupported (pid : Nat)
  /-- A flit other than DATA on a link: NAK naming a number, or INIT (R351, R354). -/
  | nak (link seq : Nat)
  /-- An INIT flit: link, width, epoch, recovering (R354). -/
  | init (link width epoch : Nat) (recovering : Bool)
  /-- What JTAG or the debug read port shifts out: a data value and a status (R403, R405). -/
  | jtag (value status : Nat)
  /-- The byte stream of an I3C read (R454). -/
  | i3c (bytes : List Byte)
  /-- A read of host memory by CXL.io DMA: host, address, bytes (R303, R418). -/
  | hostRead (pid addr bytes : Nat)
  /-- A CXL.mem read answered to a host: line, its bytes, and whether it is granted exclusively (R312). -/
  | memData (pid line data : Nat) (any : Bool)
  /-- A CXL.mem write completed to a host (R310). -/
  | memDone (pid line : Nat)
  /-- A back-invalidation to a host: BISnpInv or BISnpData (R312). -/
  | bisnp (pid line : Nat) (inv : Bool)
  /-- An SPDM response: host, code, bytes (R340). -/
  | spdm (pid code : Nat) (bytes : List Byte)
  deriving DecidableEq, Repr

/-- The node. -/
structure State where
  /-- The control window's register fields by bit address; an unlisted field reads its default (R461, R466). -/
  regs : Tab Nat
  /-- Host interface and shaper -/
  host : HostSt
  /-- Link layer -/
  ovl : OvlSt
  /-- Step agreement and membership -/
  stp : StepSt
  /-- Collections, queries and mutations -/
  srch : SearchSt
  /-- Safety controller -/
  safe : SafeSt
  /-- Stacked memory -/
  stk : StackSt
  /-- The granary -/
  gran : GranSt
  /-- Configuration, identity and start-up -/
  cfg : CfgSt
  /-- Pins and power -/
  pwr : PwrSt
  /-- Encoder engine -/
  enc : EncSt
  /-- Embedding service -/
  emb : EmbSt
  /-- Shared memory and coherence -/
  home : HomeSt
  /-- Oscillator ticks since reset (R14); reset 0 -/
  now : Nat
  /-- The node is powered, out of reset and past its start-up reset state (R443, R446); reset true -/
  awake : Bool
  /-- The counter that free values are drawn with: the model's own (assumption 2); reset 0 -/
  freeCtr : Nat
  /-- What the node has sent, newest first: the model's own record -/
  out : List Output
  /-- Host commands that arrived while the node was frozen, oldest first (R402); reset none -/
  held : List Instr
  /-- Commands waiting, first in first out; reset none -/
  pending : List Instr
  deriving DecidableEq, Repr

/-! ### Reset -/

/-- The host interface after reset (R373, assumption 5). -/
def HostSt.reset : HostSt :=
  { heads := [], written := [], lastPart := 64, lastRing := [], admSeq := 1, gateEntry := 0, gateStart := 0,
    portHeld := [], flushReads := [], msixHeld := [], waiters := [], ctx := [], resets := [] }

/-- The link layer after reset. -/
def OvlSt.reset : OvlSt :=
  { links := [], txSeq := [], rxSeq := [], rxHeld := [], ackDue := [], msgs := [], linkHeld := [], nextMsg := 0,
    delivered := [], crcSeen := [], treeParent := [], neighbours := [], expected := [], floodAwait := [] }

/-- The step engine after reset. -/
def StepSt.reset : StepSt :=
  { closeTick := 0, doneFrom := [], doneSent := 0, doneTo := none, doneTick := 0, suspects := [], excludes := [], excludeSent := [],
    joins := [], asked := [], joinTick := none, formTick := none, hbTick := 0, waitClose := false, ops := [],
    stalled := [], joinStep := none, was := [] }

/-- Collections, queries and mutations after reset. -/
def SearchSt.reset : SearchSt :=
  { colls := [], shards := [], maps := [], pds := [], work := [], adm := [], staged := [], filterOps := [], credit := [],
    digests := [], reads := [], unflushed := [], cache := [], fetched := [], lostBits := [], lostIdx := [] }

/-- The safety controller after reset. -/
def SafeSt.reset : SafeSt :=
  { isoPending := [], isolated := [], readmitPending := [], isoTimes := [], clean := [], recent := [], faultUntil := none,
    cycleStart := 0, pinLow := false, latch := false, freezeWait := false, badSpares := [], noFallback := [] }

/-- The stacked memory after reset (R22, R180). -/
def StackSt.reset : StackSt :=
  { refreshAt := [], coolFrom := [], uc := [], spareRows := [], rowMap := [], viaMap := [], alloc := [], reserve := [],
    badRows := 0, freeMib := 761856, reloc := [], rebuilds := [] }

/-- The granary after reset. -/
def GranSt.reset : GranSt :=
  { profile := { page := 0, spare := 0, planes := 0, blocks := 0, pages := 0, cycles := 0 }, blocks := [], map := [],
    supers := [], rewrite := [], collecting := [], seq := 0, lunTemp := [], lunFails := [], ckpt := [], ckptNext := 0,
    ckptTick := 0, ageTick := 0, leaseDue := none, unprog := 0, idxDirty := [], flushed := false, luns := [], chanMask := 0 }

/-- Configuration and start-up after reset. -/
def CfgSt.reset : CfgSt :=
  { ownerKey := [], safetyKey := [], partKeys := [], topology := [], baseSeq := 0, baseHead := 0, heads := [], log := [],
    devices := [], waits := [], reports := [], lastReport := 0, firstFail := none, certKey := [], chainDer := [],
    trained := false, badChans := [],
    pufOk := false, logLen := (0, 0), logWr := (0, 0), logErased := (0, 0), imgBase := [], roots := [], retiring := [], badMaps := [], subs := [],
    nextMaps := [], keySlots := [], was := [] }

/-- The pins of a powered node whose RESET_N has risen (R443, R447). -/
def PwrSt.reset : PwrSt :=
  { resetN := true, pwrOk := true, pwrFailN := true, rails := true, resetLatched := false, releaseHeld := none, vcore := 850,
    scanPct := 100, sampleTick := 0, perst := [], i3cAddr := none, bscan := 0, extest := false }

/-- The encoder engine after reset. -/
def EncSt.reset : EncSt :=
  { models := [], backlog := [], jobs := [], raws := [], runs := [], cores := [], lastPart := [], arrived := [], sent := [], loft := [],
    turn := 0, aggs := [], stats := [] }

/-- The embedding service after reset. -/
def EmbSt.reset : EmbSt :=
  { nodes := [], rows := [], dir := [], dirStaged := [], grads := [], undo := [], lookups := [], waiting := [], gathers := [],
    partials := [], applies := [], unsent := [], relays := [], dirAcks := [], old := [], updates := [], loads := [], served := [],
    reports := [], expected := [], digests := [], early := [], chain := [], chainStep := [] }

/-- Shared memory and coherence after reset. -/
def HomeSt.reset : HomeSt :=
  { exports := [], frameCap := 0, mem := [], flash := [], lost := [], frames := [], filling := [], turn := 0, dir := [],
    queue := [], txns := [], held := [], asked := [], waits := [], sealedWrites := [], snoops := [], bisnp := [], pubs := [], flushes := [], retained := [], ends := [], inbox := [],
    swaps := [], logPend := [], zeroing := [], former := [] }

/-- The node right after reset (R461): every register field at its reset value, no command waiting, and no image
loaded: start-up (R428) follows as commands. -/
def State.reset : State :=
  { regs := [], host := HostSt.reset, ovl := OvlSt.reset, stp := StepSt.reset, srch := SearchSt.reset, safe := SafeSt.reset,
    stk := StackSt.reset, gran := GranSt.reset, cfg := CfgSt.reset, pwr := PwrSt.reset, enc := EncSt.reset,
    emb := EmbSt.reset, home := HomeSt.reset, now := 0, awake := true, freeCtr := 0, out := [], held := [], pending := [] }

end Sys2Proof.Machine
end

