-- ==== Sys2Proof/Machine/Ops.lean ====
section
/-! DEFINITION. The operations every block shares: register fields, tallies and events, MSI-X, host writes and
their port shaping, the host's binding, reactions of the safety controller, and the guards every meaning begins
with. -/

namespace Sys2Proof.Machine

open Sys2Proof

/-! ### Register fields -/

/-- The value of a register field. -/
def State.get (s : State) (f : Fld) : Nat := tget f.dflt s.regs f.bit

/-- Whether a one-bit field is 1, or a field is not 0. -/
def State.flag (s : State) (f : Fld) : Bool := decide (s.get f ≠ 0)

/-- The state with a field holding a value, cut to the field's width. -/
def State.set (s : State) (f : Fld) (v : Nat) : State :=
  { s with regs := tset f.dflt s.regs f.bit (v % 2 ^ f.w) }

/-- The state with a one-bit field set or cleared. -/
def State.setB (s : State) (f : Fld) (b : Bool) : State := s.set f (b2n b)

/-- A signed 64-bit field (R375: credits, sign-extended). -/
def State.getI (s : State) (f : Fld) : Int := sext f.w (s.get f)

/-- The state with a signed field holding a value. -/
def State.setI (s : State) (f : Fld) (v : Int) : State := s.set f (untoInt f.w v)

/-- A counter field raised by n, sticking at all ones. -/
def State.stick (s : State) (f : Fld) (n : Nat) : State := s.set f (min (s.get f + n) (2 ^ f.w - 1))

/-- This node's identifier (STEP_ROLE.NODE_ID). -/
def State.me (s : State) : Nat := s.get Reg.STEP_ROLE_NODE_ID

/-- The step this node admits into (R27). -/
def State.openStep (s : State) : Nat := s.get Reg.STEP_OPEN

/-- The node is frozen (R402). -/
def State.frozen (s : State) : Bool := (s.safe.pinLow || s.safe.latch) && !s.safe.freezeWait

/-- The state with one more output. -/
def State.emit (s : State) (o : Output) : State := { s with out := o :: s.out }

/-- A free value below a bound, and the state with the counter advanced (assumption 2). -/
def State.draw (s : State) (bound : Nat) : Nat × State :=
  (Config.freeValue s.freeCtr % bound, { s with freeCtr := s.freeCtr + 1 })

/-! ### MSI-X, events and tallies -/

/-- Raise MSI-X vector v: nothing for an unused vector, held while frozen, pending while masked (R334, R402). -/
def State.raiseVec (s : State) (v : Nat) : State :=
  if s.get (Reg.CXP_VEC_PARTITION v) = 0 then s
  else if s.frozen then { s with host := { s.host with msixHeld := s.host.msixHeld ++ [v] } }
  else if s.flag (Reg.CXP_MSIX_MASK v) then s.set Reg.CXP_PBA (s.get Reg.CXP_PBA ||| 2 ^ v)
  else s.emit (.msix v (s.get (Reg.CXP_VEC_PID v)) (4 * s.get (Reg.CXP_MSIX_ADDR v)) (s.get (Reg.CXP_MSIX_DATA v)))

/-- Raise the event vector of partition p, if it is the partition's own (R381). -/
def State.raiseEvt (s : State) (p : Nat) : State :=
  let v := s.get (Reg.PART_EVT_CFG_VECTOR p)
  if s.get (Reg.CXP_VEC_PARTITION v) = p then s.raiseVec v else s

/-- Event bit k of partition p: raises the vector when it changes from 0 to 1 and ENABLE is set (R381). -/
def State.event (s : State) (p k : Nat) : State :=
  if p = 0 ∨ s.flag (Reg.PART_EVT_STATUS p k) then s
  else
    let s1 := s.setB (Reg.PART_EVT_STATUS p k) true
    if s.flag (Reg.PART_EVT_CFG_ENABLE p) then s1.raiseEvt p else s1

/-- The partitions, 1 to 64 (R367). -/
def partitions : List Nat := (List.range 64).map (· + 1)

/-- Event bit k of every partition. -/
def State.eventAll (s : State) (k : Nat) : State := partitions.foldl (fun t p => t.event p k) s

/-- The event of a tally that has just stuck: TALLY of its partition, or TALLY_STUCK (R399). -/
def State.tallyEvent (s : State) (p : Nat) : State :=
  if p = 0 then s.setB Reg.SAFE_STATUS_TALLY_STUCK true else s.event p 8

/-- Raise tally i of page p by n: it sticks at all ones, sets OVF and raises one event on reaching them (R399). -/
def State.count (s : State) (p i n : Nat) : State :=
  let f := Reg.TALLY_PART_COUNT p i
  let s1 := s.stick f n
  if s1.get f = 2 ^ 48 - 1 ∧ ¬ s.flag (Reg.TALLY_PART_OVF p i) then
    (s1.setB (Reg.TALLY_PART_OVF p i) true).tallyEvent p
  else s1

/-- Raise a node-wide tally. -/
def State.tallyN (s : State) (t : NTally) (n : Nat := 1) : State := s.count 0 t.ctorIdx n

/-- Raise a tally of partition p; work of partition 0 is the node's own and has none (R367). -/
def State.tallyP (s : State) (t : PTally) (p : Nat) (n : Nat := 1) : State :=
  if p = 0 then s else s.count p t.ctorIdx n

/-! ### Hosts -/

/-- A host context after reset (R327, R341). -/
def HostCtx.fresh : HostCtx :=
  { hdmShared := none, hdmBank := none, hdmErr := 0, resetStep := none, cut := false, cutStep := 0, lossReset := false, confirmed := [],
    fenced := false, ideKeyed := false, spdm := { stage := 0, keyed := false, session := false, keyGen := 0 } }

/-- The context of a host. -/
def State.ctx (s : State) (pid : Nat) : HostCtx := tget HostCtx.fresh s.host.ctx pid

/-- Change the context of a host. -/
def State.setCtx (s : State) (pid : Nat) (c : HostCtx) : State :=
  { s with host := { s.host with ctx := tset HostCtx.fresh s.host.ctx pid c } }

/-- The binding entry in force of a host (R327). -/
def State.bindOf (s : State) (pid : Nat) : Option Nat :=
  (List.range 512).find? (fun i =>
    decide (s.get (Reg.CXP_BIND_PARTITION i) ≠ 0 ∧ s.get (Reg.CXP_BIND_PID i) = pid ∧
      s.get (Reg.CXP_BIND_STEP_EFFECTIVE i) ≤ s.openStep))

/-- The partition of a bound host, 0 for an unbound one. -/
def State.hostPart (s : State) (pid : Nat) : Nat :=
  match s.bindOf pid with
  | some i => s.get (Reg.CXP_BIND_PARTITION i)
  | none => 0

/-- A port's link is up (R329). -/
def State.portUp (s : State) (n : Nat) : Bool := decide (s.get (Reg.CXP_PORT_STATE n) = 2)

/-- The port the node writes to a host through: the preferred one, else the other (R329). -/
def State.portTo (s : State) (pid : Nat) : Option Nat :=
  match s.bindOf pid with
  | none => none
  | some i =>
    let q := s.get (Reg.CXP_BIND_PREF_PORT i)
    if s.portUp q then some q else if s.portUp (1 - q) then some (1 - q) else none

/-- Host writes may still go to this host: bound, not cut off by a reset, not fenced (R341, R343). -/
def State.writable (s : State) (pid : Nat) : Bool :=
  (s.bindOf pid).isSome && !(s.ctx pid).cut && !(s.ctx pid).fenced

/-- A reset of its host that has taken effect drops a write: a final sheaf of an operation of the reset's step or earlier
(R341 step 3). -/
def State.resetDrops (s : State) (w : HostWrite) : Bool :=
  match w.done with
  | .sheaf step _ _ _ => decide (step ≤ (s.ctx w.pid).cutStep)
  | _ => false

/-- A request from a host to the control window of its entry node: the partition it acts for, or the state that
answers Unsupported Request (R328, R339). -/
def State.admitHost (s : State) (h : HostReq) : Nat ⊕ State :=
  match s.bindOf h.pid with
  | some i =>
    if s.get (Reg.CXP_BIND_ENTRY_NODE i) = s.me ∧ s.flag (Reg.CXP_BIND_IO_OK i) then
      if s.flag Reg.CXP_CFG_REQUIRE_IDE && !h.ide then
        .inr ((s.tallyP .CXP_NO_IDE (s.get (Reg.CXP_BIND_PARTITION i))).emit (.unsupported h.pid))
      else .inl (s.get (Reg.CXP_BIND_PARTITION i))
    else .inr ((s.tallyN .CXP_UNBOUND).emit (.unsupported h.pid))
  | none => .inr ((s.tallyN .CXP_UNBOUND).emit (.unsupported h.pid))

/-! ### Synchronisation objects -/

/-- The VALUE of an object (R337). -/
def State.syncValue (s : State) (o : Nat) : Nat :=
  if s.get (Reg.SYNC_TYPE o) = 2 then s.get Reg.STEP_COMMITTED else s.get (Reg.SYNC_VALUE o)

/-- The waiters of an object. -/
def State.waitersOf (s : State) (o : Nat) : List SyncWaiter := tget [] s.host.waiters o

/-- The state with the waiters of an object, WAITERS showing their number (R338, R346). -/
def State.setWaiters (s : State) (o : Nat) (w : List SyncWaiter) : State :=
  { s with host := { s.host with waiters := tset [] s.host.waiters o w } }.set (Reg.SYNC_WAITERS o) w.length

/-- The partition that holds an object, 0 for none (R335). -/
def State.syncOwner (s : State) (o : Nat) : Nat :=
  (partitions.find? (fun p => decide (s.get (Reg.PART_SYNC_SYNC_BASE p) ≤ o ∧
    o < s.get (Reg.PART_SYNC_SYNC_BASE p) + s.get (Reg.PART_SYNC_SYNC_COUNT p)))).getD 0

/-- The 16-byte reply of R336. -/
def syncReplyBytes (value tag status code : Nat) : List Byte :=
  natLe 8 value ++ natLe 2 tag ++ natLe 1 status ++ natLe 1 1 ++ natLe 1 code ++ natLe 3 0

/-! ### Host writes and port egress -/

/-- The port credit charge of a write: its bytes and PORT_OVH, in 1/256 units (R380). -/
def State.portCost (s : State) (w : HostWrite) : Int :=
  256 * ((w.data.length : Int) + s.get (Reg.SHAPE_PORT_OVH w.part))

/-- The writes a port shaper holds for partition p. -/
def State.portQueue (s : State) (p port : Nat) : List HostWrite := tget [] s.host.portHeld (2 * p + port)

/-- Set the writes a port shaper holds. -/
def State.setPortQueue (s : State) (p port : Nat) (q : List HostWrite) : State :=
  { s with host := { s.host with portHeld := tset [] s.host.portHeld (2 * p + port) q } }

/-- The port shaper lets a write of partition p pass now: its credit is 0 or above, or its RATE is 0 (R380). -/
def State.portOpen (s : State) (p port : Nat) : Bool :=
  decide (p = 0 ∨ s.get (Reg.SHAPE_PORT_RATE p) = 0 ∨ 0 ≤ s.getI (Reg.SHAPE_PORT_CREDIT p port))

/-- Charge a write to its partition's port credit, unless the partition is unshaped (R375, R380). -/
def State.chargePort (s : State) (port : Nat) (w : HostWrite) : State :=
  if w.part = 0 ∨ s.get (Reg.SHAPE_PORT_RATE w.part) = 0 then s
  else s.setI (Reg.SHAPE_PORT_CREDIT w.part port) (s.getI (Reg.SHAPE_PORT_CREDIT w.part port) - s.portCost w)

/-- The slots of a sheaf ring written and not yet returned (R103). -/
def State.writtenOf (s : State) (p n : Nat) : List Nat := tget [] s.host.written (16 * p + n)

/-- Set the written slots of a sheaf ring. -/
def State.setWritten (s : State) (p n : Nat) (l : List Nat) : State :=
  { s with host := { s.host with written := tset [] s.host.written (16 * p + n) l } }

/-- The objects with a TYPE entry listed in the registers: the only ones that are not unused (R337). -/
def State.typedObjs (s : State) : List Nat :=
  s.regs.filterMap (fun e =>
    if (Reg.SYNC_TYPE 0).bit ≤ e.1 then
      let o := (e.1 - (Reg.SYNC_TYPE 0).bit) / 512
      if o < 131072 ∧ (Reg.SYNC_TYPE o).bit = e.1 then some o else none
    else none)

/-- Send a write to a port's shaper queue without looking at the credit. -/
def State.holdWrite (s : State) (port : Nat) (w : HostWrite) : State :=
  s.setPortQueue w.part port (s.portQueue w.part port ++ [w])

/-- A report slot completes (R427, R435): OP returns to 0, DONE and the partition's event are set. -/
def State.reportDone (s : State) (p n : Nat) : State :=
  let s := (s.set (Reg.SEC_REPORT_OP p n) 0).set (Reg.SEC_REPORT_DONE p n) 1
  (s.setB (Reg.SEC_STATUS_REPORT_EVT p) true).event p 13

/-- A write whose host can no longer be written to is dropped and counted (R106, R341, R344); a dropped final sheaf is
counted by its admitting node when the notice reaches it (R107). -/
def State.dropWrite (s : State) (w : HostWrite) : State :=
  match w.done with
  | .slot p _ _ => s.tallyP .QRY_UNDELIVERED p
  | .sheaf step seq admitter status =>
    { s with host := { s.host with flushReads := s.host.flushReads ++ [(step, seq, admitter, status)] } }
  | .reply _ => s.tallyP .SYNC_REPLY_FAIL w.part
  | .report p n => s.reportDone p n
  | _ => s

/-- A reply to a synchronisation operation: written when REPLY is not 0, to the PID that wrote it, and raising the
object's vector when IRQ is set (R336). The write takes its turn in the port shaper (R380). -/
def State.replyWrite (s : State) (o pid reply tag status code : Nat) : Option HostWrite :=
  if reply = 0 then none
  else some { part := s.syncOwner o, pid := pid, addr := reply,
              data := syncReplyBytes (s.syncValue o) tag status code,
              done := .reply (if s.flag (Reg.SYNC_IRQ o) then some (s.get (Reg.SYNC_VECTOR o)) else none) }

/-- Serve an object's queue once it may have changed (R338): the earliest TAKE when VALUE reaches its ARG, and the
queue again; then every WAIT whose condition holds. The writes are the replies, in order. -/
def State.serveTakes (s : State) (o : Nat) : Nat → State × List HostWrite
  | 0 => (s, [])
  | fuel + 1 =>
    match (s.waitersOf o).find? (·.take) with
    | none => (s, [])
    | some w =>
      if w.arg ≤ s.syncValue o ∧ s.get (Reg.SYNC_TYPE o) = 1 then
        let s1 := (s.set (Reg.SYNC_VALUE o) (s.syncValue o - w.arg)).setWaiters o ((s.waitersOf o).erase w)
        let r := State.serveTakes s1 o fuel
        (r.1, (s1.replyWrite o w.pid w.reply w.tag 0 2).toList ++ r.2)
      else (s, [])

/-- The WAITs of an object whose condition holds reply and leave the queue (R338). -/
def State.serveWaits (s : State) (o : Nat) : State × List HostWrite :=
  let hit (w : SyncWaiter) : Bool := !w.take && decide (w.arg ≤ s.syncValue o)
  let served := (s.waitersOf o).filter hit
  if served.isEmpty then (s, [])
  else
    (s.setWaiters o ((s.waitersOf o).filter (fun w => !hit w)),
      served.filterMap (fun w => s.replyWrite o w.pid w.reply w.tag 0 5))

/-- Serve an object's queue (R338). -/
def State.serveObj (s : State) (o : Nat) : State × List HostWrite :=
  let r := s.serveTakes o 17
  let r2 := r.1.serveWaits o
  (r2.1, r.2 ++ r2.2)

/-- Issue a reply or a polled status write, which announces nothing that a synchronisation object counts. -/
def State.issuePlain (s : State) (port : Nat) (w : HostWrite) : State :=
  let s1 := (s.chargePort port w).emit (.hostWrite port w)
  match w.done with
  | .reply (some v) => s1.raiseVec v
  | .polled p k => s1.event p k
  | .report p n => s1.reportDone p n
  | _ => s1

/-- Submit a reply or a polled status write: dropped when the host cannot be written to, held behind earlier held
writes or without credit, else issued (R329, R380). -/
def State.submitPlain (s : State) (w : HostWrite) : State :=
  if !s.writable w.pid then s.dropWrite w
  else match s.portTo w.pid with
    | none => s.dropWrite w
    | some port =>
      if (s.portQueue w.part port).isEmpty && s.portOpen w.part port then s.issuePlain port w
      else s.holdWrite port w

/-- Submit several plain writes in order. -/
def State.submitAll (s : State) (ws : List HostWrite) : State := ws.foldl State.submitPlain s

/-- Serve an object's queue and send its replies. -/
def State.serveSync (s : State) (o : Nat) : State :=
  let r := s.serveObj o
  r.1.submitAll r.2

/-- A completion was written to ring n of partition p: every enabled RING object of the ring counts it when the
ring's vector falls due, whether or not the vector is raised (R337), and serves its queue. -/
def State.ringObjects (s : State) (p n : Nat) : State :=
  s.typedObjs.foldl (fun t o =>
    if t.get (Reg.SYNC_TYPE o) = 3 ∧ t.get (Reg.SYNC_RING o) = n ∧ t.flag (Reg.SYNC_ENABLE o) ∧ t.syncOwner o = p then
      (t.set (Reg.SYNC_VALUE o) (t.get (Reg.SYNC_VALUE o) + 1)).serveSync o
    else t) s

/-- The slot of a completion is written on this node's behalf: it may be returned (R103), the ring's vector falls
due (R100, R334) and is raised when it belongs to the partition. -/
def State.slotDone (s : State) (p n idx : Nat) : State :=
  let s1 := (s.setWritten p n (s.writtenOf p n ++ [idx])).ringObjects p n
  let v := s1.get (Reg.SRING_CTL_VECTOR p n)
  if s1.get (Reg.CXP_VEC_PARTITION v) = p then s1.raiseVec v else s1

/-- Issue a host write: charge its credit, send it, and do what follows it. -/
def State.issueWrite (s : State) (port : Nat) (w : HostWrite) : State :=
  match w.done with
  | .slot p n idx => ((s.chargePort port w).emit (.hostWrite port w)).slotDone p n idx
  | .sheaf step seq admitter status =>
    let s1 := (s.chargePort port w).emit (.hostWrite port w)
    { s1 with host := { s1.host with flushReads := s1.host.flushReads ++ [(step, seq, admitter, status)] } }
  | _ => s.issuePlain port w

/-- Submit a host write (R329, R380): a held write of the partition on the port holds every later one. -/
def State.submitWrite (s : State) (w : HostWrite) : State :=
  if !s.writable w.pid || s.resetDrops w then s.dropWrite w
  else match s.portTo w.pid with
    | none => s.dropWrite w
    | some port =>
      if (s.portQueue w.part port).isEmpty && s.portOpen w.part port then s.issueWrite port w
      else s.holdWrite port w

/-- Let held writes of a port pass while the credit allows, in order (R380). -/
def State.drainPort (s : State) (p port : Nat) : Nat → State
  | 0 => s
  | fuel + 1 =>
    match s.portQueue p port with
    | [] => s
    | w :: q =>
      if s.portOpen p port then
        let s1 := s.setPortQueue p port q
        (if s1.writable w.pid && !s1.resetDrops w then s1.issueWrite port w else s1.dropWrite w).drainPort p port fuel
      else s

/-! ### Safety -/

/-- The log code of a unit class (R406). -/
def unitClassCode : UnitClass → Nat
  | .node => 0 | .nbu => 1 | .core => 2 | .win => 3 | .gln => 4 | .route => 5 | .channel => 6 | .lun => 7
  | .link => 8 | .port => 9 | .fallback => 10 | .spare => 11 | .safety => 12 | .other => 13

/-- Append a safety log entry (R391, R406). -/
def State.safeLog (s : State) (mech : Nat) (cls : UnitClass) (unit reaction withheld detail : Nat) : State :=
  let n := s.get Reg.SAFE_LOG_COUNT % 1024
  let s := s.set (Reg.SAFE_LOG_STEP n) s.openStep
  let s := s.set (Reg.SAFE_LOG_MECH n) mech
  let s := s.set (Reg.SAFE_LOG_CLASS n) (unitClassCode cls)
  let s := s.set (Reg.SAFE_LOG_UNIT n) unit
  let s := s.set (Reg.SAFE_LOG_REACTION n) reaction
  let s := s.set (Reg.SAFE_LOG_WITHHELD n) withheld
  let s := s.set (Reg.SAFE_LOG_DETAIL n) detail
  s.stick Reg.SAFE_LOG_COUNT 1

/-- NODE_FAULT: the node isolates itself under R48 and drives FAULT_N low until reset (R392). -/
def State.nodeFault (s : State) : State :=
  let s := s.setB Reg.SAFE_STATUS_NODE_FAULT true
  let s := s.setB Reg.SAFE_STATUS_FAULT_N_LOW true
  s.setB Reg.STEP_STATUS_SELF_ISOLATED true

/-- A fallback unit serves a bank (NBU_STATUS.FALLBACK): a bank is isolated (R165), or a pass is threshed again (R164). -/
def State.fallbackServes (s : State) : Bool :=
  decide (s.get Reg.NBU_ISOLATED ≠ 0) || s.srch.work.any (fun w => w.shards.any (fun x => x.passes.any (·.fallback)))

/-- Show in NBU_STATUS whether a fallback unit serves a bank (R164, R165). -/
def State.showFallback (s : State) : State := s.setB Reg.NBU_STATUS_FALLBACK s.fallbackServes

/-- tFLT, 10 ms in ticks (R392). -/
def tFLT : Nat := 250000

/-- One second in ticks (R14). -/
def second : Nat := 25000000

/-- Drive FAULT_N low for tFLT from now, and set NODE_FAULT past FAULT_LIMIT reactions in a second (R392). -/
def State.faultPulse (s : State) : State :=
  let recent := s.now :: s.safe.recent.filter (fun t => decide (s.now < t + second))
  let s := { s with safe := { s.safe with recent := recent, faultUntil := some (s.now + tFLT) } }
  let s := s.setB Reg.SAFE_STATUS_FAULT_N_LOW true
  if s.get Reg.SAFE_POLICY_FAULT_LIMIT < recent.length then s.nodeFault else s

/-- The key of a unit. -/
def unitKey (cls : UnitClass) (unit : Nat) : Nat := 65536 * (unitClassCode cls) + unit

/-- Mark a unit for isolation at the next step boundary (R395). -/
def State.markIso (s : State) (cls : UnitClass) (unit : Nat) : State :=
  if s.safe.isolated.contains (cls, unit) || s.safe.isoPending.contains (cls, unit) then s
  else { s with safe := { s.safe with isoPending := s.safe.isoPending ++ [(cls, unit)] } }

/-- A reaction of the safety controller (R391): withhold, isolate where the reaction says so, assert FAULT_N, log.
Reactions 0 and 1 isolate the unit. -/
def State.react (s : State) (mech : Nat) (cls : UnitClass) (unit reaction withheld detail : Nat) : State :=
  let s := s.safeLog mech cls unit reaction withheld detail
  let s := (s.tallyN .SAFE_REACTIONS).tallyN .SAFE_WITHHELD withheld
  let s := if reaction = 0 ∨ reaction = 1 then s.markIso cls unit else s
  let s := if reaction = 3 then s.nodeFault else s
  s.faultPulse

/-- A node-wide fault event of STACK, NBU, GRAN or OVL: bit 9 of every partition (R381). -/
def State.faultEvent (s : State) : State := s.eventAll 9

/-! ### Changing one block -/

/-- Change the host interface's state. -/
def State.modHost (s : State) (f : HostSt → HostSt) : State := { s with host := f s.host }
/-- Change the link layer's state. -/
def State.modOvl (s : State) (f : OvlSt → OvlSt) : State := { s with ovl := f s.ovl }
/-- Change the step engine's state. -/
def State.modStp (s : State) (f : StepSt → StepSt) : State := { s with stp := f s.stp }
/-- Change the state of collections, queries and mutations. -/
def State.modSrch (s : State) (f : SearchSt → SearchSt) : State := { s with srch := f s.srch }
/-- Change the safety controller's state. -/
def State.modSafe (s : State) (f : SafeSt → SafeSt) : State := { s with safe := f s.safe }

/-! ### Freeze -/

/-- Show the freeze in DBG_STATUS and SAFE_STATUS (R406, R408). -/
def State.showFreeze (s : State) : State :=
  let s := (s.setB Reg.DBG_STATUS_PIN s.safe.pinLow).setB Reg.DBG_STATUS_LATCH s.safe.latch
  let s := (s.setB Reg.DBG_STATUS_FROZEN s.frozen).setB Reg.DBG_STATUS_QUIESCENT s.frozen
  s.setB Reg.SAFE_STATUS_FROZEN s.frozen

/-- Change the freeze's pin, latch or wait (R402, R404): an entry is counted; on resume the vectors held are raised, and the
requests held are served in their order (assumption 34). -/
def State.setFreeze (s : State) (f : SafeSt → SafeSt) : State :=
  let was := s.frozen
  let s := (s.modSafe f).showFreeze
  if s.frozen then (if was then s else s.tallyN .DBG_FREEZES)
  else if was then
    let vs := s.host.msixHeld
    vs.foldl State.raiseVec (s.modHost fun h => { h with msixHeld := [] })
  else s

/-- A start-up stage has ended: a freeze that waited for it takes hold (R402). -/
def State.stageEnded (s : State) : State := if s.safe.freezeWait then s.setFreeze (fun k => { k with freezeWait := false }) else s

/-- A start-up stage ends and another begins (R428). -/
def State.stageTo (s : State) (n : Nat) : State := (s.set Reg.CFG_STATUS_STAGE n).stageEnded

/-! ### Guards -/

/-- The state t with what no command but a reset touches as it is in s: the queue of commands, which belongs to the step, the
requests a freeze holds, and the power of the node. -/
def State.keep (s t : State) : State := { t with pending := s.pending, held := s.held, awake := s.awake }

/-- A host command: nothing before the node is awake; held while frozen, and after a resume behind the requests still
held, to be served in arrival order (R402). -/
def hostCmd (s : State) (c : Instr) (body : State → State) : Host.Outcome State Fault Refusal :=
  if !s.awake then .next s
  else if s.frozen || !s.held.isEmpty then .next { s with held := s.held ++ [c] }
  else .next (s.keep (body s))

/-- An event of the node's own engines, links or timers: none happens while the node is frozen or not awake (R402). -/
def nodeEvt (s : State) (body : State → State) : Host.Outcome State Fault Refusal :=
  if !s.awake || s.frozen then .next s else .next (s.keep (body s))

/-- An event that happens whether or not the node is frozen: pins, sensors, refresh, JTAG, ticks (R402, R403). -/
def anyEvt (s : State) (body : State → State) : Host.Outcome State Fault Refusal := .next (s.keep (body s))

/-- An event that can put the node into reset or let it out (R405, R443, R446): only the queue is out of its reach. -/
def resetEvt (s : State) (body : State → State) : Host.Outcome State Fault Refusal := .next { body s with pending := s.pending }

/-- The state unless a condition holds. -/
def State.when (s : State) (c : Bool) (f : State → State) : State := if c then f s else s

end Sys2Proof.Machine
end

