-- ==== Sys2Proof/Machine/Links.lean ====
section
/-! DEFINITION. The Ovane link layer (R347 to R364): routes, message queues, flits, retry, streams and end-to-end
acknowledgement; and sending, which every other block uses. -/

namespace Sys2Proof.Machine

open Sys2Proof

/-- A link after reset (R354). -/
def Link.fresh : Link :=
  { rxNext := 0, nakAt := none, replay := [], ackTick := 0, replayed := none, txq := [], rrClass := 1, rrLeft := 0,
    rxPart := [], retrains := 0, retrainEnd := 0, uncorr := (0, 0), heard := 0 }

/-- The link-layer state of link l. -/
def State.link (s : State) (l : Nat) : Link := tget Link.fresh s.ovl.links l

/-- Set the link-layer state of link l. -/
def State.setLink (s : State) (l : Nat) (k : Link) : State :=
  { s with ovl := { s.ovl with links := tset Link.fresh s.ovl.links l k } }

/-- The link is up and carries flits (OVL_LINK.STATE 3). -/
def State.linkUp (s : State) (l : Nat) : Bool := decide (s.get (Reg.OVL_LINK_STATE l) = 3)

/-- The link may be routed on: up, in a fast retrain or with its far end frozen (R352, R353, R358). -/
def State.linkUsable (s : State) (l : Nat) : Bool :=
  let st := s.get (Reg.OVL_LINK_STATE l)
  decide (st = 3 ∨ st = 4 ∨ st = 6)

/-- The links of a destination's route entry in order, primary first (R357). -/
def State.routeLinks (s : State) (d : Nat) : List Nat :=
  ([s.get (Reg.OVL_ROUTE_PRIMARY d), s.get (Reg.OVL_ROUTE_ALT1 d), s.get (Reg.OVL_ROUTE_ALT2 d),
    s.get (Reg.OVL_ROUTE_ALT3 d)])

/-- The position of the first usable link of a route, 15 for none (OVL_ROUTE.ACTIVE). -/
def State.routeActive (s : State) (d : Nat) : Nat :=
  match (s.routeLinks d).findIdx? (fun l => decide (l < 8) && s.linkUsable l) with
  | some i => i
  | none => 15

/-- The link a unicast message to d leaves by (R358). -/
def State.routeTo (s : State) (d : Nat) : Option Nat :=
  (s.routeLinks d).find? (fun l => decide (l < 8) && s.linkUsable l)

/-- Node n is a member in the current epoch. -/
def State.isMember (s : State) (n : Nat) : Bool := bit (s.get Reg.STEP_MEMBERS) n

/-- The root candidate number of the current root, 4 when it is none of them (R47). -/
def State.rootIndex (s : State) : Nat :=
  ((List.range 4).find? (fun r => decide (s.get (Reg.OVL_TREE_ROOT r) = s.get Reg.STEP_ROLE_ROOT_ID))).getD 4

/-- The parent of node n in the tree in force, before repair. -/
def State.rawParent (s : State) (n : Nat) : Option Nat := tfind s.ovl.treeParent (4096 * s.rootIndex + n)

/-- The nearest member ancestor of node n in the tree in force (R470). -/
def State.parentOf (s : State) (n : Nat) : Nat → Option Nat
  | 0 => none
  | fuel + 1 =>
    match s.rawParent n with
    | none => none
    | some a => if s.isMember a then some a else s.parentOf a fuel

/-- This node's parent in the tree in force, repaired (R470). -/
def State.parent (s : State) : Option Nat := s.parentOf s.me 4096

/-- The nodes of the tree in force: its root, and those it names a parent for. -/
def State.treeNodes (s : State) : List Nat :=
  let root := s.get Reg.STEP_ROLE_ROOT_ID
  root :: (s.ovl.treeParent.filterMap (fun e => if e.1 / 4096 = s.rootIndex then some (e.1 % 4096) else none)).filter
    (fun n => decide (n ≠ root))

/-- The member children of node n in the tree in force, repaired (R29, R470). -/
def State.childrenOf (s : State) (n : Nat) : List Nat :=
  s.treeNodes.filter (fun c => s.isMember c && decide (c ≠ n) && decide (s.parentOf c 4096 = some n))

/-- The tree neighbours of this node (R361). -/
def State.treeNbrs (s : State) : List Nat := s.parent.toList ++ s.childrenOf s.me

/-! ### Sending -/

/-- The DATA flits a message fills (R350, R355). -/
def flitsOf (bytes : Nat) : Nat := cdiv bytes 246

/-- The next message class a link sends a flit of: STEP, COH_RSP, COH_SNP, then weighted round robin (R363), among
classes with credit. -/
def State.pickClass (s : State) (l : Nat) : Option Nat :=
  let k := s.link l
  let can (c : Nat) : Bool := k.txq.any (fun m => decide (m.cls = c)) && s.flag (Reg.OVL_LINK_TX_CREDITS l c)
  match [0, 7, 6].find? can with
  | some c => some c
  | none =>
    let wrr := [1, 2, 3, 4, 5, 8, 9, 10]
    if 0 < k.rrLeft ∧ can k.rrClass then some k.rrClass
    else (wrr.filter (fun c => decide (k.rrClass < c)) ++ wrr.filter (fun c => decide (c ≤ k.rrClass))).find? can

/-- The message with a number. -/
def State.msg? (s : State) (num : Nat) : Option Msg := s.ovl.msgs.find? (fun m => decide (m.num = num))

/-- Send one DATA flit of a class on a link: spend a credit, take the next sequence number, keep it in the replay
buffer; the message leaves the queue with its last flit (R351, R355, R362). -/
def State.sendFlit (s : State) (l c : Nat) : State :=
  let k := s.link l
  match k.txq.find? (fun m => decide (m.cls = c)) with
  | none => s
  | some m =>
    let seq := s.get (Reg.OVL_LINK_TX_SEQ l)
    let rest := if m.left ≤ 1 then k.txq.erase m
                else lmod (fun x => decide (x.num = m.num)) (fun x => { x with left := x.left - 1 }) k.txq
    let rr := if c = 0 ∨ c = 6 ∨ c = 7 then (k.rrClass, k.rrLeft)
              else if c = k.rrClass ∧ 0 < k.rrLeft then (c, k.rrLeft - 1) else (c, s.get (Reg.OVL_CLASS_WEIGHT c) - 1)
    let k1 := { k with txq := rest, replay := k.replay ++ [{ seq := seq, msg := m.num }], rrClass := rr.1,
                       rrLeft := rr.2, ackTick := if k.replay.isEmpty then s.now else k.ackTick }
    let s1 := s.setLink l k1
    let s1 := s1.set (Reg.OVL_LINK_TX_SEQ l) ((seq + 1) % 1024)
    let s1 := s1.set (Reg.OVL_LINK_TX_CREDITS l c) (s1.get (Reg.OVL_LINK_TX_CREDITS l c) - 1)
    let s1 := s1.set (Reg.OVL_LINK_REPLAY_USED l) k1.replay.length
    if m.left ≤ 1 then
      match s.msg? m.num with
      | some g => s1.emit (.send l g.dst g.cargo)
      | none => s1
    else s1

/-- Send queued flits on a link while it is up, a class has credit and the replay buffer has room (R351, R362). -/
def State.pump (s : State) (l : Nat) : Nat → State
  | 0 => s
  | fuel + 1 =>
    if s.linkUp l && decide ((s.link l).replay.length < 512) then
      match s.pickClass l with
      | some c => (s.sendFlit l c).pump l fuel
      | none => s
    else s

/-- Flits that a link could send at most in one go. -/
def State.txFlits (s : State) (l : Nat) : Nat := ((s.link l).txq.map (·.left)).sum

/-- Send what can be sent on a link. -/
def State.pumpLink (s : State) (l : Nat) : State := s.pump l (s.txFlits l)

/-- Put a message on a link's queue. -/
def State.enqueueOn (s : State) (l : Nat) (m : Msg) : State :=
  let k := s.link l
  (s.setLink l { k with txq := k.txq ++ [{ num := m.num, cls := m.cls, left := flitsOf m.bytes }] }).pumpLink l

/-- The link credit charge of a message in 1/256 units (R379). -/
def State.linkCost (s : State) (p bytes : Nat) : Int :=
  256 * ((bytes : Int) + flitsOf bytes * s.get (Reg.SHAPE_LINK_OVH p))

/-- The messages a link shaper holds for partition p, by number. -/
def State.linkQueue (s : State) (p l : Nat) : List Nat := tget [] s.ovl.linkHeld (8 * p + l)

/-- Set the messages a link shaper holds. -/
def State.setLinkQueue (s : State) (p l : Nat) (q : List Nat) : State :=
  { s with ovl := { s.ovl with linkHeld := tset [] s.ovl.linkHeld (8 * p + l) q } }

/-- The link shaper lets partition p's messages pass now (R379). -/
def State.linkOpen (s : State) (p l : Nat) : Bool :=
  decide (s.get (Reg.SHAPE_LINK_RATE p) = 0 ∨ 0 ≤ s.getI (Reg.SHAPE_LINK_CREDIT p l))

/-- Charge a message to its partition's link credit, unless unshaped, and queue it (R379). -/
def State.passShaper (s : State) (l : Nat) (m : Msg) : State :=
  let s1 := if s.get (Reg.SHAPE_LINK_RATE m.part) = 0 then s
    else s.setI (Reg.SHAPE_LINK_CREDIT m.part l) (s.getI (Reg.SHAPE_LINK_CREDIT m.part l) - s.linkCost m.part m.bytes)
  s1.enqueueOn l m

/-- Let held messages of a link pass while the credit allows, in order (R379). -/
def State.drainLink (s : State) (p l : Nat) : Nat → State
  | 0 => s
  | fuel + 1 =>
    match s.linkQueue p l with
    | [] => s
    | num :: q =>
      if s.linkOpen p l then
        let s1 := s.setLinkQueue p l q
        match s1.msg? num with
        | some m => (s1.passShaper l m).drainLink p l fuel
        | none => s1.drainLink p l fuel
      else s

/-- Remove a message from the node's keeping. -/
def State.dropMsg (s : State) (num : Nat) : State :=
  { s with ovl := { s.ovl with msgs := s.ovl.msgs.filter (fun m => decide (m.num ≠ num)) } }

/-- Start a kept message on its way: its first link's shaper for a partition's own traffic of a class other than STEP,
else the link's queue (R358, R363); without a route it is discarded and counted. -/
def State.startMsg (s : State) (m : Msg) : State :=
  match s.routeTo m.dst with
  | none => (s.tallyN .OVL_UNROUTABLE).setB Reg.OVL_STATUS_UNROUTABLE_EVT true |>.faultEvent |>.dropMsg m.num
  | some l =>
    if m.part = 0 ∨ m.cls = 0 ∨ m.seq = 0 then s.enqueueOn l m
    else if (s.linkQueue m.part l).isEmpty && s.linkOpen m.part l then s.passShaper l m
    else s.setLinkQueue m.part l (s.linkQueue m.part l ++ [m.num])

/-- The stream a message travels in: its class and far node, floods apart (R359). -/
def streamKey (route cls node : Nat) : Nat := (if route = 1 then 131072 else 0) + 4096 * cls + node

/-- Send a message of a body size to a node: it takes the next SEQ of its stream and is kept until acknowledged
(R355, R359, R360). A message to the node itself does not leave it. -/
def State.sendMsg (s : State) (part cls route dst body : Nat) (i : Instr) : State :=
  if dst = s.me then s.emit (.toSelf i)
  else
    let key := streamKey route cls dst
    let seq := tget 0 s.ovl.txSeq key + 1
    let m : Msg := { num := s.ovl.nextMsg, dst := dst, cls := cls, route := route, seq := seq, part := part,
                     bytes := 16 + body, cargo := .cmd i, acked := false, resent := 0 }
    let s1 := { s with ovl := { s.ovl with nextMsg := s.ovl.nextMsg + 1, txSeq := tset 0 s.ovl.txSeq key seq,
                                           msgs := s.ovl.msgs ++ [m] } }
    s1.startMsg m

/-- Send a message to each of several nodes. -/
def State.sendEach (s : State) (part cls route body : Nat) (i : Instr) (dsts : List Nat) : State :=
  dsts.foldl (fun t d => t.sendMsg part cls route d body i) s

/-- Flood a message over the tree in force, from its source (no copy excepted) or on from a neighbour (R361). -/
def State.flood (s : State) (part cls body : Nat) (from_ : Option Nat) (i : Instr) : State :=
  s.sendEach part cls 1 body i (s.treeNbrs.filter (fun n => decide (some n ≠ from_)))

/-- The members of the structure other than this node. -/
def State.otherMembers (s : State) : List Nat :=
  s.treeNodes.filter (fun n => s.isMember n && decide (n ≠ s.me))

/-! ### Receiving -/

/-- A flit's header fields and payload (R350). -/
structure FlitHdr where
  kind : Nat
  cls : Nat
  seg : Nat
  len : Nat
  seq : Nat
  ack : Nat
  crcl : Nat
  credits : Nat
  payload : List Byte
  deriving DecidableEq, Repr

/-- Read a 256-byte flit: none when its CRC fails or its header holds a reserved value (R350). -/
def readFlit (b : List Byte) : Option FlitHdr :=
  let h := leNat b 0 6
  let f : FlitHdr :=
    { kind := bits h 45 3, cls := bits h 41 4, seg := bits h 39 2, len := bits h 31 8,
      seq := bits h 21 10, ack := bits h 11 10, crcl := bits h 7 4, credits := bits h 1 6,
      payload := (b.drop 6).take (bits h 31 8) }
  let isData := decide (f.kind = 1)
  if b.length = 256 ∧ crc32c (b.take 252) = BitVec.ofNat 32 (leNat b 252 4) ∧ f.kind ≤ 3 ∧ f.crcl ≤ 10 ∧ ¬ bit h 0 ∧
      (if isData then f.cls ≤ 10 ∧ 1 ≤ f.len ∧ f.len ≤ 246 else f.cls = 0 ∧ f.seg = 0 ∧ f.len = 0) then some f
  else none

/-- Messages with no flit in a replay buffer or queue and no acknowledgement due are let go (R358, R360). -/
def State.forget (s : State) : State :=
  let busy (m : Msg) : Bool := s.ovl.links.any (fun e => e.2.replay.any (fun f => decide (f.msg = m.num)) ||
    e.2.txq.any (fun t => decide (t.num = m.num)))
  { s with ovl := { s.ovl with msgs := s.ovl.msgs.filter (fun m => !m.acked || busy m) } }

/-- An ACK releases the replay-buffer flits before it, and starts the replay timeout again (R351). -/
def State.takeAck (s : State) (l ack : Nat) : State :=
  let k := s.link l
  let keep := k.replay.filter (fun f => decide (512 ≤ (ack + 2047 - f.seq) % 1024))
  if keep.length = k.replay.length then s
  else
    let s1 := s.setLink l { k with replay := keep, ackTick := s.now, replayed := none }
    (s1.set (Reg.OVL_LINK_REPLAY_USED l) keep.length).forget

/-- Every destination takes the first usable link of its route entry; REROUTED shows whether one uses an alternate
(R46, R358). -/
def State.refreshRoutes (s : State) : State :=
  let ds := (s.ovl.neighbours.map (·.1)).filter (fun d => decide (d ≠ s.me))
  let s := ds.foldl (fun t d => t.set (Reg.OVL_ROUTE_ACTIVE d) (t.routeActive d)) s
  s.setB Reg.OVL_STATUS_REROUTED (ds.any (fun d => decide (s.get (Reg.OVL_ROUTE_ACTIVE d) ≠ 0)))

/-- What every valid flit does: the far end is heard, its ACK and credits are taken, and waiting flits go out
(R43, R350, R351, R362). A silent link returns to use (R46). -/
def State.takeFlit (s : State) (l : Nat) (f : FlitHdr) : State :=
  let s := s.setLink l { s.link l with heard := s.now }
  let s := s.when (decide (s.get (Reg.OVL_LINK_STATE l) = 7 ∨ s.get (Reg.OVL_LINK_STATE l) = 6)) (fun t =>
    ((t.set (Reg.OVL_LINK_STATE l) 3).setLink l { t.link l with ackTick := t.now }).refreshRoutes)
  let s := s.takeAck l f.ack
  let s := s.set (Reg.OVL_LINK_TX_CREDITS l f.crcl) (s.get (Reg.OVL_LINK_TX_CREDITS l f.crcl) + f.credits)
  s.pumpLink l

/-- tACK, 4 microseconds in ticks (R351). -/
def tACK : Nat := 100

/-- Discard a flit: one NAK naming the expected number, and no other for it within tACK (R351). -/
def State.sendNak (s : State) (l : Nat) : State :=
  let k := s.link l
  match k.nakAt with
  | some (n, t) =>
    if n = k.rxNext ∧ s.now < t + tACK then s
    else (s.setLink l { k with nakAt := some (k.rxNext, s.now) }).emit (.nak l k.rxNext)
  | none => (s.setLink l { k with nakAt := some (k.rxNext, s.now) }).emit (.nak l k.rxNext)

/-- The message types of each class (R356). -/
def typeOk (cls typ : Nat) : Bool :=
  decide (1 ≤ typ ∧ typ ≤ ([9, 5, 3, 6, 6, 7, 2, 5, 3, 6, 6] : List Nat).getD cls 0)

/-- The body length of the types whose body is fixed (R32, R356). -/
def lengthOk (cls typ len : Nat) : Bool :=
  match cls with
  | 0 => decide (len = 32)
  | 1 => decide (typ = 1 ∨ len = 24)
  | _ => true

/-- A message in its turn is delivered; one already delivered is discarded; one ahead of its turn is held (R359). -/
def State.deliver (s : State) (key seq : Nat) (d : Delivered) : State :=
  let last := tget 0 s.ovl.rxSeq key
  let s := { s with ovl := { s.ovl with ackDue := if (tfind s.ovl.ackDue key).isSome then s.ovl.ackDue
                                                  else tput s.ovl.ackDue key s.now } }
  if seq ≤ last then s.tallyN .OVL_DUPLICATES
  else if seq = last + 1 then
    { s with ovl := { s.ovl with rxSeq := tset 0 s.ovl.rxSeq key seq, delivered := d :: s.ovl.delivered } }
  else { s with ovl := { s.ovl with rxHeld := s.ovl.rxHeld ++ [(key, seq, d)] } }

/-- Deliver held messages of a stream whose turn has come (R359). -/
def State.deliverHeld (s : State) (key : Nat) : Nat → State
  | 0 => s
  | fuel + 1 =>
    match s.ovl.rxHeld.find? (fun h => decide (h.1 = key ∧ h.2.1 = tget 0 s.ovl.rxSeq key + 1)) with
    | none => s
    | some h =>
      ({ s with ovl := { s.ovl with rxHeld := s.ovl.rxHeld.erase h, rxSeq := tset 0 s.ovl.rxSeq key h.2.1,
                                    delivered := h.2.2 :: s.ovl.delivered } }).deliverHeld key fuel

/-- Acknowledgements are neither numbered nor acknowledged themselves (assumption 10). -/
def State.sendAck (s : State) (dst : Nat) (i : Instr) : State :=
  if dst = s.me then s
  else
    let m : Msg := { num := s.ovl.nextMsg, dst := dst, cls := 10, route := 0, seq := 0, part := 0, bytes := 32,
                     cargo := .cmd i, acked := true, resent := 0 }
    ({ s with ovl := { s.ovl with nextMsg := s.ovl.nextMsg + 1, msgs := s.ovl.msgs ++ [m] } }).startMsg m

/-- A message that failed its CRC at its destination: discarded, E2E_NAK to the source, reported as an active-path
fault; a second failure of the same message withholds what depends on it (R360). -/
def State.crcFailed (s : State) (l key src seq : Nat) (nak : Instr) : State :=
  let again := s.ovl.crcSeen.contains (key, seq)
  let s := (s.tallyN .OVL_E2E_CRC).setB Reg.OVL_STATUS_E2E_EVT true |>.faultEvent
  let s := s.react 3 .link l (if again then 5 else 2) (b2n again) seq
  let s := { s with ovl := { s.ovl with crcSeen := if again then s.ovl.crcSeen else (key, seq) :: s.ovl.crcSeen } }
  s.sendAck src nak

/-- Forward a message that is for another node: once more on a route, not shaped again (R358). -/
def State.forward (s : State) (cls : Nat) (b : List Byte) : State :=
  let m : Msg := { num := s.ovl.nextMsg, dst := leNat b 0 2 % 4096, cls := cls, route := leNat b 2 2 / 4096, seq := 0,
                   part := 0, bytes := b.length, cargo := .raw b, acked := true, resent := 0 }
  ({ s with ovl := { s.ovl with nextMsg := s.ovl.nextMsg + 1, msgs := s.ovl.msgs ++ [m] } }).startMsg m

/-- A whole message of a class has arrived on a link (R355 to R360). -/
def State.arrived (s : State) (l cls : Nat) (b : List Byte) : State :=
  let src := leNat b 2 2 % 4096
  let route := leNat b 2 2 / 4096
  let len := leNat b 4 2
  let typ := leNat b 6 1
  let seq := leNat b 8 4
  let key := streamKey route cls src
  if leNat b 0 2 % 4096 ≠ s.me then s.forward cls b
  else if !crcOk b 12 || decide (b.length ≠ 16 + len) then
    s.crcFailed l key src seq (.e2eNak s.me cls route seq)
  else if !typeOk cls typ || !lengthOk cls typ len || decide (route = 2 ∨ 3 < route) then
    (s.tallyN .OVL_BAD_MSG).when (decide (cls = 0)) (fun t => t.tallyN .STEP_BAD_MSG)
  else
    let d : Delivered := { src := src, cls := cls, typ := typ, part := leNat b 7 1, body := b.drop 16 }
    if route = 3 ∨ (cls = 10 ∧ (typ = 5 ∨ typ = 6)) then { s with ovl := { s.ovl with delivered := d :: s.ovl.delivered } }
    else (s.deliver key seq d).deliverHeld key (s.ovl.rxHeld.length + 1)

/-- A DATA flit in its turn: the next number is expected, ACK and a credit go back, and the message is assembled,
whole at SEG 2 or 3 (R351, R355, R362). -/
def State.acceptData (s : State) (l : Nat) (f : FlitHdr) : State :=
  let k := s.link l
  let so := tget [] k.rxPart f.cls
  let body := if f.seg = 1 ∨ f.seg = 3 then f.payload else so ++ f.payload
  let whole := decide (f.seg = 2 ∨ f.seg = 3)
  let k1 := { k with rxNext := (f.seq + 1) % 1024, nakAt := none,
                     rxPart := tset [] k.rxPart f.cls (if whole then [] else body) }
  let s1 := (s.setLink l k1).set (Reg.OVL_LINK_RX_ACK l) ((f.seq + 1) % 1024)
  let s2 := s1.emit (.ack l ((f.seq + 1) % 1024) f.cls)
  if whole then s2.arrived l f.cls body else s2

/-- A received DATA flit: accepted in sequence order, else discarded with a NAK (R351). -/
def State.rxData (s : State) (l : Nat) (f : FlitHdr) : State :=
  let s := s.takeFlit l f
  if f.seq = (s.link l).rxNext then s.acceptData l f else s.sendNak l

/-- A flit that is discarded whole (R350): a failed CRC or reserved header counts, an uncorrectable codeword counts
against the link's limit (R352). -/
def State.flitBad (s : State) (l : Nat) (fecOk : Bool) : State :=
  let s := if fecOk then s.tallyN .OVL_CRC_FAIL
    else
      let k := s.link l
      let u := if s.now < k.uncorr.2 + 25000 then (k.uncorr.1 + 1, k.uncorr.2) else (1, s.now)
      ((s.setLink l { k with uncorr := u }).stick (Reg.OVL_LINK_FEC_UNCORRECTABLE l) 1).tallyN .OVL_FEC_UNCORRECTABLE
  s.sendNak l

/-- Resend the replay buffer of a link from a sequence number (R351): the flits go out again in order, each counted. -/
def State.replayFrom (s : State) (l n : Nat) : State :=
  let k := s.link l
  let again := k.replay.dropWhile (fun f => decide (f.seq ≠ n))
  let times := match k.replayed with
    | some (m, c) => if m = n then c + 1 else 1
    | none => 1
  if again.isEmpty then s
  else
    let s1 := s.setLink l { k with ackTick := s.now, replayed := some (n, times) }
    (s1.stick (Reg.OVL_LINK_REPLAYS l) again.length).tallyN .OVL_REPLAYS again.length

/-- The node switches every destination that used a link which can no longer be routed on to its next alternate, and
resends whole every message with a flit in the link's replay buffer or queue (R46, R358). -/
def State.reroute (s : State) (l : Nat) : State :=
  let k := s.link l
  let nums := (k.replay.map (·.msg) ++ k.txq.map (·.num)).dedup
  let moved := s.treeNodes.filter (fun d =>
    decide ((s.routeLinks d).getD (s.get (Reg.OVL_ROUTE_ACTIVE d)) 15 = l ∧ d ≠ s.me))
  let s := s.setLink l { k with replay := [], txq := [] }
  let s := s.set (Reg.OVL_LINK_REPLAY_USED l) 0
  let s := moved.foldl (fun t d => t.set (Reg.OVL_ROUTE_ACTIVE d) (t.routeActive d)) s
  let s := s.tallyN .OVL_REROUTES moved.length
  let s := s.when (!moved.isEmpty) (fun t => t.setB Reg.OVL_STATUS_REROUTED true)
  nums.foldl (fun t n => match t.msg? n with | some m => t.startMsg m | none => t) s

/-- A link fails: routes switch and the event is raised (R352, R358). -/
def State.failLink (s : State) (l : Nat) : State :=
  let s := s.set (Reg.OVL_LINK_STATE l) 5
  let s := (s.tallyN .OVL_LINK_FAILS).setB Reg.OVL_STATUS_LINK_FAIL_EVT true |>.faultEvent
  s.reroute l

/-- The far node of link l. -/
def State.peer (s : State) (l : Nat) : Nat := s.get (Reg.OVL_LINK_PEER l)

/-- The links to node y. -/
def State.linksTo (s : State) (y : Nat) : List Nat :=
  (List.range 8).filter (fun l => decide (s.peer l = y ∧ 2 ≤ s.get (Reg.OVL_LINK_STATE l)))

/-- Ticks since node y was last heard on any link (R44). -/
def State.silence (s : State) (y : Nat) : Nat :=
  s.now - ((s.linksTo y).map (fun l => (s.link l).heard)).foldl max 0

/-- The link neighbours of node y that are members (R44, R45). -/
def State.memberNbrs (s : State) (y : Nat) : List Nat := (tget [] s.ovl.neighbours y).filter s.isMember

/-- The coordinator of node y: its member link neighbour with the lowest identifier (R44). -/
def State.coordinator (s : State) (y : Nat) : Option Nat := (s.memberNbrs y).min?

end Sys2Proof.Machine
end

