-- ==== Sys2Proof/Machine/Membership.lean ====
section
/-! DEFINITION. Liveness and membership: heartbeats, suspicion, exclusion requests, isolation and joining (R43 to R52,
R430). What a STEP_COMMIT does with a change of membership is in Commit. -/

namespace Sys2Proof.Machine

open Sys2Proof

/-- tSUS, 1 ms in ticks (R44); also the JOIN_REQ interval (R52). -/
def tSUS : Nat := 25000

/-- tHB, 50 microseconds in ticks (R43). -/
def tHB : Nat := 1250

/-- tMEMB in ticks (STEP_MEMB_CFG). -/
def State.tMemb (s : State) : Nat := s.get Reg.STEP_MEMB_CFG

/-- A step message this node sends (R32). -/
def State.stepMsg (s : State) (step subject count flags : Nat) : StepMsg :=
  { flags := flags, sender := s.me, epoch := s.get Reg.STEP_EPOCH, step := step, subject := subject,
    root := s.get Reg.STEP_ROLE_ROOT_ID, count := count, crcOk := true }

/-- A step message that is discarded: failed CRC or an older epoch (R32). -/
def State.stepBad (s : State) (m : StepMsg) : Bool := !m.crcOk || decide (m.epoch < s.get Reg.STEP_EPOCH)

/-- Take a step message: a bad one is counted and discarded; RSVD flag bits are ignored (R6, R32). -/
def State.withStep (s : State) (m : StepMsg) (f : State → State) : State :=
  if s.stepBad m then s.tallyN .STEP_BAD_MSG else f s

/-- Send a step message to one node (class STEP, 32 bytes). -/
def State.sendStep (s : State) (dst : Nat) (i : Instr) : State := s.sendMsg 0 0 0 dst 32 i

/-- Node y is suspected by this node (STEP_SUSPECTS). -/
def State.suspected (s : State) (y : Nat) : Bool := bit (s.get Reg.STEP_SUSPECTS) y

/-- Set or clear the suspicion of node y. -/
def State.setSuspect (s : State) (y : Nat) (b : Bool) : State :=
  let v := s.get Reg.STEP_SUSPECTS
  if bit v y = b then s else s.set Reg.STEP_SUSPECTS (v ^^^ 2 ^ y)

/-- The standing suspicions of node y at this coordinator, its own included (R44, R45). -/
def State.standing (s : State) (y : Nat) : List Nat :=
  ((s.stp.suspects.filter (fun x => decide (x.subject = y))).map (·.by_) ++
    (if s.suspected y then [s.me] else [])).dedup

/-- Drop a standing suspicion. -/
def State.dropSuspicion (s : State) (y by_ : Nat) : State :=
  { s with stp := { s.stp with suspects := s.stp.suspects.filter (fun x => decide (¬ (x.subject = y ∧ x.by_ = by_))) } }

/-- The node admits nothing: not yet a member, isolated, without a root, recovering, or waiting for a STEP_CLOSE (R47, R48,
R52, R429). -/
def State.admitStopped (s : State) : Bool :=
  s.flag Reg.STEP_STATUS_SELF_ISOLATED || s.flag Reg.STEP_STATUS_NO_ROOT || s.flag Reg.STEP_STATUS_RECOVERING ||
  s.stp.waitClose || !s.isMember s.me || decide (s.get Reg.CFG_STATUS_STAGE ≠ 6)

/-- A node held for RESET_N (R48): it does not resume by hearing a neighbour. -/
def State.heldForReset (s : State) : Bool :=
  s.flag Reg.SAFE_STATUS_NODE_FAULT || s.flag Reg.STACK_STATUS_RESERVE_EXHAUSTED || s.flag Reg.NODE_PWR_STATUS_PWR_FAIL_SEEN ||
  s.flag Reg.NODE_PWR_STATUS_THERMAL_TRIP

/-- A flit arrived from node y: a suspicion ends and its coordinator is told (R44). -/
def State.heardFrom (s : State) (y : Nat) : State :=
  if s.suspected y then
    let s1 := s.setSuspect y false
    match s1.coordinator y with
    | some c => if c = s.me then s1 else s1.sendStep c (.clear (s1.stepMsg s1.openStep y 0 0) s.me)
    | none => s1
  else s

/-- HEARTBEAT_TIMER (R43): every 50 microseconds the node sends HEARTBEAT on each of its active links. -/
def execHeartbeatTimer (s : State) :=
  nodeEvt s (fun s =>
    if s.now < s.stp.hbTick + tHB then s
    else
      let s := { s with stp := { s.stp with hbTick := s.now } }
      ((List.range 8).filter s.linkUp).foldl
        (fun t l => t.emit (.send l (t.peer l) (.cmd (.heartbeat (t.stepMsg t.openStep 0xFFFF 0 0) t.me)))) s)

/-- SUSPICION_TIMEOUT (R44): nothing heard from link neighbour y for 1 ms: it is suspected, the suspicion is counted,
and the coordinator is told unless this node is it. -/
def execSuspicionTimeout (y : Nat) (s : State) :=
  nodeEvt s (fun s =>
    if s.suspected y || (s.linksTo y).isEmpty || decide (s.silence y < tSUS) then s
    else
      let s1 := (s.setSuspect y true).tallyN .MEMB_SUSPECTS
      match s1.coordinator y with
      | some c => if c = s1.me then s1
                  else s1.sendStep c (.suspect (s1.stepMsg s1.openStep y (s1.silence y) 0) s1.me)
      | none => s1)

/-- SUSPECT (R45): the coordinator keeps it standing. -/
def execSuspect (m : StepMsg) (src : Nat) (s : State) :=
  nodeEvt s (fun s => s.withStep m (fun s =>
    let s1 := s.dropSuspicion m.subject src
    let x : Suspicion := { subject := m.subject, by_ := src, count := m.count, at_ := s1.now }
    s1.modStp fun k => { k with suspects := k.suspects ++ [x] }))

/-- A suspecting node marks as silent each link on which it still hears nothing from y, and routes around it (R46). -/
def State.markSilent (s : State) (y : Nat) : State :=
  if s.suspected y then
    (s.linksTo y).foldl (fun t l => (t.set (Reg.OVL_LINK_STATE l) 7).reroute l) (s.setSuspect y false)
  else s

/-- CLEAR (R44, R46): at the coordinator a standing suspicion ends; from the coordinator, an abandoned suspicion. -/
def execClear (m : StepMsg) (src : Nat) (s : State) :=
  nodeEvt s (fun s => s.withStep m (fun s =>
    if s.coordinator m.subject = some s.me then s.dropSuspicion m.subject src
    else if s.coordinator m.subject = some src then s.markSilent m.subject
    else s))

/-- The first root candidate that is a member and is not y (R47). -/
def State.nextRoot (s : State) (y : Nat) : Option Nat :=
  [s.get Reg.STEP_ROOTS_CAND0, s.get Reg.STEP_ROOTS_CAND1, s.get Reg.STEP_ROOTS_CAND2, s.get Reg.STEP_ROOTS_CAND3].find?
    (fun c => decide (c ≠ 0xFFF ∧ c ≠ y) && s.isMember c)

/-- The structure has no root: admission stops and NO_ROOT is set (R47). -/
def State.noRoot (s : State) : State := s.setB Reg.STEP_STATUS_NO_ROOT true

/-- The condition of R45: this node coordinates y, its own silence has reached tMEMB, and more than half of y's member
link neighbours suspect it. -/
def State.mayExclude (s : State) (y : Nat) : Bool :=
  decide (s.coordinator y = some s.me ∧ s.tMemb ≤ s.silence y ∧ (s.memberNbrs y).length <
    2 * ((s.standing y).filter (fun n => (s.memberNbrs y).contains n)).length) && s.isMember y &&
  !s.stp.excludeSent.contains y

/-- MEMB_TIMEOUT (R45, R47): the coordinator sends EXCLUDE to the root, or to the next candidate when the root is the
silent node; with no candidate left every member learns that there is no root. -/
def execMembTimeout (y : Nat) (s : State) :=
  nodeEvt s (fun s =>
    if !s.mayExclude y then s
    else
      let root := s.get Reg.STEP_ROLE_ROOT_ID
      let s1 := { s with stp := { s.stp with excludeSent := y :: s.stp.excludeSent } }
      let msg : Instr := .exclude (s1.stepMsg s1.openStep y 0 0) s1.me
      if y ≠ root then s1.sendStep root msg
      else match s1.nextRoot y with
        | some c => s1.sendStep c msg
        | none => (s1.sendEach 0 0 0 32 msg (s1.otherMembers.filter (fun n => decide (n ≠ y)))).noRoot)

/-- The condition of R46. -/
def State.mayAbandon (s : State) (y : Nat) : Bool :=
  decide (s.coordinator y = some s.me) &&
  (decide (2 * s.tMemb ≤ s.silence y) && s.suspected y ||
   (!s.suspected y && s.stp.suspects.any (fun x => decide (x.subject = y ∧ 2 * s.tMemb ≤ x.count + (s.now - x.at_)))))

/-- QUORUM_ABANDON (R46): the coordinator sends CLEAR to every suspecting neighbour, and counts. -/
def execQuorumAbandon (y : Nat) (s : State) :=
  nodeEvt s (fun s =>
    if !s.mayAbandon y then s
    else
      let others := (s.stp.suspects.filter (fun x => decide (x.subject = y))).map (·.by_)
      let s1 := (s.tallyN .MEMB_NO_QUORUM).sendEach 0 0 0 32 (.clear (s.stepMsg s.openStep y 0 0) s.me) others
      let s2 := { s1 with stp := { s1.stp with suspects := s1.stp.suspects.filter (fun x => decide (x.subject ≠ y)) } }
      s2.markSilent y)

/-- No member neighbour has been heard for tMEMB (R48). -/
def State.cutOff (s : State) : Bool :=
  (s.memberNbrs s.me).all (fun y => decide (s.tMemb ≤ s.silence y))

/-- ISOLATION_TIMEOUT (R48): the node regards itself as isolated, stops admitting and holds its work. -/
def execIsolationTimeout (s : State) :=
  nodeEvt s (fun s =>
    if s.isMember s.me && s.cutOff && !(tget [] s.ovl.neighbours s.me).isEmpty then
      s.setB Reg.STEP_STATUS_SELF_ISOLATED true
    else s)

/-- The JOIN_REQ this node sends, carrying its lease as the step (R430; assumption 6). -/
def State.joinReq (s : State) : Instr :=
  .joinReq (s.stepMsg (s.get Reg.GRAN_LEASE) s.me 0 0) s.me

/-- Send JOIN_REQ to the root, or to the first candidate while none is known (R52, R430). -/
def State.askJoin (s : State) : State :=
  let s1 := { s with stp := { s.stp with joinTick := some s.now } }
  let dst := if s.get Reg.STEP_EPOCH = 0 then s.get Reg.STEP_ROOTS_CAND0 else s.get Reg.STEP_ROLE_ROOT_ID
  if dst = s1.me then s1.modStp fun k =>
    { k with asked := (s1.me, s1.get Reg.GRAN_LEASE) :: k.asked.filter (fun a => decide (a.1 ≠ s1.me)) }
  else s1.sendStep dst s1.joinReq

/-- JOIN_RETRY_TIMEOUT (R52): no JOIN_GRANT within 1 ms of the last JOIN_REQ: it is sent again. -/
def execJoinRetryTimeout (s : State) :=
  nodeEvt s (fun s =>
    match s.stp.joinTick with
    | some t => if t + tSUS ≤ s.now ∧ s.flag Reg.STEP_STATUS_RECOVERING then s.askJoin else s
    | none => s)

/-- Grant a node at the step boundary: JOIN_GRANT naming it is flooded (R52). -/
def State.grantJoin (s : State) (n : Nat) : State :=
  let s1 := { s with stp := { s.stp with joins := (n, s.openStep) :: s.stp.joins } }
  let msg : Instr := .joinGrant (s1.stepMsg s1.openStep n 0 0) s1.me
  (s1.flood 0 0 32 none msg).sendStep n msg

/-- Every node of the topology section. -/
def State.topology (s : State) : List Nat := s.ovl.neighbours.map (·.1)

/-- The first step of a forming structure: one above the largest lease present, and 2^32 more when a node is absent
(R25, R430). -/
def State.firstStep (s : State) : Nat :=
  (s.stp.asked.map (·.2)).foldl max 0 + 1 +
    (if s.topology.all (fun n => s.stp.asked.any (fun a => decide (a.1 = n))) then 0 else 2 ^ 32)

/-- Take part as a member from a first step (R25, R430). -/
def State.startMember (s : State) (first : Nat) : State :=
  let s := s.set Reg.STEP_OPEN first
  let s := s.set Reg.STEP_COMMITTED (first - 1)
  let s := s.set Reg.STEP_EXEC first
  let s := s.setB Reg.STEP_STATUS_RECOVERING false
  let s := s.setB Reg.HOME_MODE_SWAP_ONLY false
  let s := s.setB Reg.HOME_MODE_SERVING true
  let s := s.stageTo 6
  { s with stp := { s.stp with joinTick := none, closeTick := s.now, waitClose := false, doneSent := first - 1 } }

end Sys2Proof.Machine
end

