-- ==== Sys2Proof/Machine/Num.lean ====
section
/-! DEFINITION. Exact arithmetic and the single roundings of the node (R60, R95, R97, R110, R111, R125): binary
floating-point values are read exactly, as integers in a fixed power-of-two unit, and written once, rounded to nearest
with ties to even. -/

namespace Sys2Proof

/-- Division by 2^k of a natural number, rounded to nearest, ties to even. -/
def rneShift (a k : Nat) : Nat :=
  let q := a / 2 ^ k
  let r := a % 2 ^ k
  if k = 0 then a
  else if 2 * r < 2 ^ k then q
  else if 2 ^ k < 2 * r then q + 1
  else if q % 2 = 0 then q else q + 1

/-- Round half to even of the integer n in units of 2^-k. -/
def rneInt (n : Int) (k : Nat) : Int :=
  if 0 ≤ n then (rneShift n.toNat k : Int) else -(rneShift (-n).toNat k : Int)

/-- A binary format: significand bits with the leading one, exponent bits, and the bias. -/
structure FpFmt where
  p : Nat
  w : Nat
  bias : Nat
  deriving DecidableEq, Repr

/-- Binary32. -/
def fp32 : FpFmt := { p := 24, w := 8, bias := 127 }
/-- Binary64. -/
def fp64 : FpFmt := { p := 53, w := 11, bias := 1023 }
/-- Binary16. -/
def fp16 : FpFmt := { p := 11, w := 5, bias := 15 }
/-- Bfloat16. -/
def bf16 : FpFmt := { p := 8, w := 8, bias := 127 }

/-- The power k such that every finite value of the format is a whole number of 2^-k. -/
def FpFmt.unit (f : FpFmt) : Nat := f.bias + f.p - 2

/-- The exact value of a bit pattern in units of 2^-unit; none for a NaN or an infinity. -/
def FpFmt.read (f : FpFmt) (v : Nat) : Option Int :=
  let m := v % 2 ^ (f.p - 1)
  let e := v / 2 ^ (f.p - 1) % 2 ^ f.w
  let neg := v.testBit (f.p - 1 + f.w)
  if e = 2 ^ f.w - 1 then none
  else
    let a := if e = 0 then m else (m + 2 ^ (f.p - 1)) * 2 ^ (e - 1)
    some (if neg then -(a : Int) else a)

/-- The bit pattern of a format's infinity. -/
def FpFmt.inf (f : FpFmt) (neg : Bool) : Nat :=
  (2 ^ f.w - 1) * 2 ^ (f.p - 1) + (if neg then 2 ^ (f.p - 1 + f.w) else 0)

/-- The bit pattern nearest to a × 2^-k for a natural a, ties to even; overflow gives infinity. -/
def FpFmt.roundNat (f : FpFmt) (a k : Nat) : Nat :=
  if a = 0 then 0
  else
    -- the exponent, relative to the subnormal quantum 2^-unit, of the last kept bit
    let top : Int := (a.log2 : Int) - k
    let q : Int := max (top - (f.p - 1)) (-(f.unit : Int))
    let sh : Int := q + k
    let m := if 0 ≤ sh then rneShift a sh.toNat else a * 2 ^ (-sh).toNat
    let steps := (q + f.unit).toNat
    -- m at quantum q; a carry out of the significand moves to the next exponent by itself
    let bitsOf := if m < 2 ^ (f.p - 1) then m else steps * 2 ^ (f.p - 1) + m
    if f.inf false ≤ bitsOf then f.inf false else bitsOf

/-- The bit pattern nearest to n × 2^-k, an exact zero giving +0. -/
def FpFmt.round (f : FpFmt) (n : Int) (k : Nat) : Nat :=
  if 0 ≤ n then f.roundNat n.toNat k else f.roundNat (-n).toNat k + 2 ^ (f.p - 1 + f.w)

/-- Whether a binary32 pattern is a NaN. -/
def isNan32 (v : Nat) : Bool := decide (v / 2 ^ 23 % 256 = 255 ∧ v % 2 ^ 23 ≠ 0)

/-- Whether a binary32 pattern is an infinity. -/
def isInf32 (v : Nat) : Bool := decide (v / 2 ^ 23 % 256 = 255 ∧ v % 2 ^ 23 = 0)

/-- A finite, non-zero binary32 value (Q_SCALE, X_SCALE). -/
def scaleOk (v : Nat) : Bool := match fp32.read v with | some n => decide (n ≠ 0) | none => false

/-- Negative zero becomes positive zero (R110). -/
def normScore (v : Nat) : Nat := if v = 2 ^ 31 then 0 else v

/-- The integer transform of a normalised score (R111). -/
def key32 (v : Nat) : Nat := if v < 2 ^ 31 then v + 2 ^ 31 else 2 ^ 32 - 1 - v

/-- The element types of a collection: 0 int8, 1 FP16, 2 BF16 (COLL_DESC.ELEM). -/
def elemBytes (elem : Nat) : Nat := if elem = 0 then 1 else 2

/-- The format of a floating-point element type. -/
def elemFmt (elem : Nat) : FpFmt := if elem = 1 then fp16 else bf16

/-- The elements of a vector as integers: int8 codes less the zero point, or floating-point values in units of the
format; none if one is a NaN or an infinity (R60, R90). -/
def readElems (elem : Nat) (zero : Int) (b : List Byte) (d : Nat) : Option (List Int) :=
  (List.range d).mapM (fun i =>
    if elem = 0 then some (sext 8 (leNat b i 1) - zero)
    else (elemFmt elem).read (leNat b (2 * i) 2))

/-- The power of two of the unit of readElems' integers once scaled: FP32 scale units for int8, the format's for the
others. -/
def elemUnit (elem : Nat) : Nat := if elem = 0 then fp32.unit else (elemFmt elem).unit

/-- The routing form (R60): clamp(round-half-even(x × 2^S), −127, 127), and whether any element was clamped. -/
def routingForm (elem : Nat) (scale : Int) (shift : Nat) (xs : List Int) : List Int × Nat :=
  let vs := xs.map (fun x => rneInt ((if elem = 0 then x * scale else x) * 2 ^ shift) (elemUnit elem))
  (vs.map (fun v => max (-127) (min 127 v)), vs.countP (fun v => decide (v < -127 ∨ 127 < v)))

/-- The inner product of two integer vectors. -/
def dot (a b : List Int) : Int := (List.zipWith (· * ·) a b).foldl (· + ·) 0

/-- The sum of squared differences. -/
def sqdist (a b : List Int) : Int := (List.zipWith (fun x y => (x - y) * (x - y)) a b).foldl (· + ·) 0

/-- The routing distance of two routing forms: metric 0 is L2 squared, 1 and 2 the negated inner product (R62). -/
def routeKey (metric : Nat) (q c : List Int) : Int := if metric = 0 then sqdist q c else -dot q c

/-- The sketch of a routing form (R61): bit j is 1 exactly when row j's sum and offset is above 0. -/
def sketchOf (proj : List (List Int)) (offs : List Int) (v : List Int) : Nat :=
  ((List.zipWith (fun r b => decide (0 < dot r v + b)) proj offs).foldr (fun b (acc : Nat) => 2 * acc + b2n b) 0)

/-- The number of ones of a natural number below 2^n. -/
def popcount (n v : Nat) : Nat := (List.range n).countP (fun i => v.testBit i)

/-- The sketch distance (R109). -/
def sketchDist (w a b : Nat) : Nat := popcount w (a ^^^ b)

/-- The exact distance of R95, rounded once to binary32: the query's and record's elements as readElems gives them, and
their scales in units of 2^-149 (int8 only). An infinite result is an overflow (R96). -/
def exactDistance (metric elem : Nat) (sq sx : Int) (a c : List Int) : Nat :=
  if elem = 0 then
    let n := if metric = 0 then sq * sq * dot a a - 2 * sq * sx * dot a c + sx * sx * dot c c else -(sq * sx * dot a c)
    fp32.round n (2 * fp32.unit)
  else
    let n := if metric = 0 then sqdist a c else -dot a c
    fp32.round n (2 * (elemFmt elem).unit)

/-- One binary32 operation on exact operands (R97): none stands for a value that is not finite. -/
def fl32 (n : Int) (k : Nat) : Nat := fp32.round n k

/-- The score-map index of a rank key (R97). -/
def mapIndex (x0 inv x : Nat) : Nat :=
  match fp32.read x, fp32.read x0, fp32.read inv with
  | some x, some x0, some i =>
    let d := fl32 (x - x0) fp32.unit
    match fp32.read d with
    | none => if d < 2 ^ 31 then 4095 else 0
    | some d =>
      let m := fl32 (d * i) (2 * fp32.unit)
      match fp32.read m with
      | none => if m < 2 ^ 31 then 4095 else 0
      | some m => (max 0 (min 4095 (m / (2 ^ fp32.unit : Nat)))).toNat
  | _, _, _ => 0

/-- The binary64 pattern of an accumulator in units of 2^-32 (R125). -/
def acc64 (a : Nat) : Nat := fp64.roundNat a 32

end Sys2Proof
end

