-- ==== Sys2Proof/Machine/Objects.lean ====
section
/-! DEFINITION. The objects an operation can name - collections, score maps, tables, models, ranges, regions - and
when they serve (R57, R58, R98, R274, R304, R472). -/

namespace Sys2Proof.Machine

open Sys2Proof

/-- Nothing is known of the collection. -/
def CollInfo.none : CollInfo := { shardMap := [], proj := [], offs := [], loads := [], retires := [] }

/-- What is known of collection h beyond its descriptor. -/
def State.coll (s : State) (h : Nat) : CollInfo := tget CollInfo.none s.srch.colls h

/-- An entry with a STATE and a STEP_EFFECTIVE serves at a step (R57): it is serving, or pending and the step has come. -/
def servesAt (state eff step : Nat) : Bool := decide (state = 2 ∨ (state = 1 ∧ eff ≤ step))

/-- Collection h serves at a step and belongs to partition p (R57, R58). -/
def State.collServes (s : State) (p h step : Nat) : Bool :=
  decide (h < 4096 ∧ s.get (Reg.COLL_DESC_PARTITION h) = p ∧ p ≠ 0) &&
    servesAt (s.get (Reg.COLL_DESC_STATE h)) (s.get (Reg.COLL_DESC_STEP_EFFECTIVE h)) step

/-- The owner and mirror of a shard (R70); 0xFFF for none. -/
def State.holdersOf (s : State) (h n : Nat) : Nat × Nat := (s.coll h).shardMap.getD n (0xFFF, 0xFFF)

/-- The owner and mirror of a shard that exist, an unmirrored shard having one (R469). -/
def State.holderList (s : State) (h n : Nat) : List Nat :=
  ([(s.holdersOf h n).1, (s.holdersOf h n).2].filter (fun x => decide (x ≠ 0xFFF))).dedup

/-- The shard of a record (R70). -/
def shardOf (shards id : Nat) : Nat := (id * 0x9E3779B97F4A7C15 % 2 ^ 64) / 2 ^ 32 % shards

/-- The shard of a record of collection h. -/
def State.shardOfRecord (s : State) (h id : Nat) : Nat := shardOf (s.get (Reg.COLL_DESC_SHARDS h)) id

/-- The first index below n whose entry satisfies f. -/
def firstIdx (n : Nat) (f : Nat → Bool) : Option Nat := (List.range n).find? f

/-- The COLL_SMAP entry of a map of partition p (R98). -/
def State.mapEntry (s : State) (p id : Nat) : Option Nat :=
  firstIdx 1024 (fun i => decide (s.get (Reg.COLL_SMAP_MAP_ID i) = id ∧ s.get (Reg.COLL_SMAP_PARTITION i) = p ∧ id ≠ 0))

/-- A map is loaded for partition p at a step, or unavailable (R97, R98). -/
def State.mapServes (s : State) (p id step : Nat) : Bool :=
  match s.mapEntry p id with
  | some i => servesAt (s.get (Reg.COLL_SMAP_STATE i)) (s.get (Reg.COLL_SMAP_STEP_EFFECTIVE i)) step
  | none => false

/-- A map is unavailable (R98). -/
def State.mapUnavail (s : State) (p id : Nat) : Bool :=
  match s.mapEntry p id with
  | some i => decide (s.get (Reg.COLL_SMAP_STATE i) = 4)
  | none => false

/-- The EMB_TABLE entry of a table that serves at a step and belongs to partition p (R274). -/
def State.tableEntry (s : State) (p t step : Nat) : Option Nat :=
  firstIdx 1024 (fun i => decide (s.get (Reg.EMB_TABLE_TABLE i) = t ∧ s.get (Reg.EMB_TABLE_PARTITION i) = p ∧ p ≠ 0) &&
    servesAt (s.get (Reg.EMB_TABLE_STATE i)) (s.get (Reg.EMB_TABLE_STEP_EFFECTIVE i)) step)

/-- The ENC_MODEL entry in force at a step for a model of partition p: the latest of those that serve (R221, R235). -/
def State.modelEntry (s : State) (p id step : Nat) : Option Nat :=
  let good (i : Nat) : Bool :=
    decide (s.get (Reg.ENC_MODEL_MODEL_ID i) = id ∧ s.get (Reg.ENC_MODEL_PARTITION i) = p ∧ id ≠ 0 ∧ p ≠ 0 ∧
      s.get (Reg.ENC_MODEL_STEP_EFFECTIVE i) ≤ step ∧ s.get (Reg.ENC_MODEL_STATE i) ≠ 0 ∧ s.get (Reg.ENC_MODEL_STATE i) ≠ 3)
  ((List.range 256).filter good).foldl (fun b i => match b with
    | none => some i
    | some j => if s.get (Reg.ENC_MODEL_STEP_EFFECTIVE j) < s.get (Reg.ENC_MODEL_STEP_EFFECTIVE i) then some i else some j) none

/-! ### Ranges and grants -/

/-- The HOME_RANGE entry in force that holds a shared address (R304, R305). -/
def State.rangeOf (s : State) (a : Nat) : Option Nat :=
  firstIdx 4096 (fun i => decide (s.get (Reg.HOME_RANGE_LENGTH i) ≠ 0 ∧ s.get (Reg.HOME_RANGE_STEP_EFFECTIVE i) ≤ s.openStep ∧
    s.get (Reg.HOME_RANGE_BASE i) ≤ a ∧ a < s.get (Reg.HOME_RANGE_BASE i) + s.get (Reg.HOME_RANGE_LENGTH i)))

/-- The line is a region descriptor line (R304, R318). -/
def State.isDescLine (s : State) (a : Nat) : Bool :=
  (firstIdx 4096 (fun i => decide (s.get (Reg.HOME_REGION_PARTITION i) ≠ 0 ∧ s.get (Reg.HOME_REGION_STATE i) = 1 ∧
    s.get (Reg.HOME_REGION_DESC_ADDR i) = a / 64 * 64))).isSome

/-- Range i grants partition p, or one of its hosts, a read or a write (R304, R472). -/
def State.rangeGrants (s : State) (i p : Nat) (host : Option Nat) (write : Bool) : Bool :=
  decide (s.get (Reg.HOME_RANGE_PARTITION i) = p) &&
  (match host with
   | none => true
   | some h => decide (s.get (Reg.HOME_RANGE_HOST i) = 0xFFFF ∨ s.get (Reg.HOME_RANGE_HOST i) % 4096 = h)) &&
  (if write then s.flag (Reg.HOME_RANGE_CAN_WRITE i) && decide (s.get (Reg.HOME_RANGE_KIND i) < 2)
   else s.flag (Reg.HOME_RANGE_CAN_READ i))

/-- The whole span is granted, range after range (R472). -/
def State.spanOk (s : State) (p : Nat) (host : Option Nat) (write : Bool) (published : Bool) (lo hi : Nat) : Nat → Bool
  | 0 => decide (hi ≤ lo)
  | fuel + 1 =>
    if hi ≤ lo then true
    else match s.rangeOf lo with
      | none => false
      | some i =>
        s.rangeGrants i p host write && (!published || decide (s.get (Reg.HOME_RANGE_KIND i) = 2)) &&
          s.spanOk p host write published (s.get (Reg.HOME_RANGE_BASE i) + s.get (Reg.HOME_RANGE_LENGTH i)) hi fuel

/-- No region descriptor line lies in the span. -/
def State.noDescLine (s : State) (lo hi : Nat) : Bool :=
  (List.range 4096).all (fun i => !(decide (s.get (Reg.HOME_REGION_PARTITION i) ≠ 0 ∧ s.get (Reg.HOME_REGION_STATE i) = 1 ∧
    lo < s.get (Reg.HOME_REGION_DESC_ADDR i) + 64 ∧ s.get (Reg.HOME_REGION_DESC_ADDR i) < hi)))

/-- The span [a, a + n) is readable for host h of partition p. -/
def State.canRead (s : State) (p : Nat) (host : Option Nat) (a n : Nat) : Bool := s.spanOk p host false false a (a + n) 4096

/-- The span is writable. -/
def State.canWrite (s : State) (p : Nat) (host : Option Nat) (a n : Nat) : Bool :=
  s.spanOk p host true false a (a + n) 4096 && s.noDescLine a (a + n)

/-- The span is readable and published (R277, R98, R422). -/
def State.canReadPublished (s : State) (p : Nat) (host : Option Nat) (a n : Nat) : Bool :=
  s.spanOk p host false true a (a + n) 4096

/-- The shared space's size in bytes (R296). -/
def State.shmSize (s : State) : Nat := s.get Reg.HOME_CFG_EXPORTERS * (s.get Reg.HOME_CFG_SHARE_64G * 2 ^ 36)

/-! ### Filters -/

/-- A filter slot of a collection is live at step t (R79). -/
def State.filterLive (s : State) (h f t : Nat) : Bool :=
  let c := s.coll h
  (List.range (s.get (Reg.COLL_DESC_SHARDS h))).all (fun n =>
    c.loads.any (fun l => decide (l.1 = f ∧ l.2.1 = n ∧ l.2.2.2 < t) &&
      !c.retires.any (fun r => decide (r.1 = f ∧ l.2.2.1 ≤ r.2 ∧ r.2 < t))))

/-- A filter slot holds an object on some shard, from the admission of its load (R79). -/
def State.filterHeld (s : State) (h f : Nat) : Bool :=
  (s.coll h).loads.any (fun l => decide (l.1 = f)) ||
  s.srch.filterOps.any (fun o => decide (o.handle = h ∧ o.fslot = f) && o.shard.isSome)

end Sys2Proof.Machine
end

