-- ==== Sys2Proof/Machine/Desc.lean ====
section
/-! DEFINITION. Descriptors: their layouts (R86, R89, R135, R75, R79, R277, R221, R319), the checks that complete one
at once when it is taken (R11, R471), the reserved fields that are counted (R6), and the records that report a
completion (R80, R101, R144, R224, R293, R322). -/

namespace Sys2Proof.Machine

open Sys2Proof

/-- A little-endian field of a descriptor's body (R86). -/
def body (d : List Byte) (o n : Nat) : Nat := leNat d (16 + o) n

/-- The descriptor's operation code. -/
def opcodeOf (d : List Byte) : Nat := leNat d 0 1

/-- The descriptor's LENGTH in units. -/
def lengthOf (d : List Byte) : Nat := leNat d 2 2

/-- A unit whose LENGTH is 0 or above 256 (R87). -/
def badLength (d : List Byte) : Bool := decide (lengthOf d = 0 ∨ 256 < lengthOf d)

/-- The assigned operation codes (R86, R134, R277, R319). -/
def knownOpcode (op : Nat) : Bool :=
  ([0x01, 0x02, 0x03, 0x10, 0x11, 0x12, 0x13, 0x20, 0x21, 0x22, 0x23, 0x2C, 0x30, 0x31, 0x32] : List Nat).contains op

/-- The units of a body of n bytes (R86). -/
def unitsOf (n : Nat) : Nat := cdiv (16 + n) 64

/-- The first condition that holds gives the status. -/
def firstStatus : List (Bool × Nat) → Option Nat
  | [] => none
  | (c, v) :: r => if c then some v else firstStatus r

/-- A QUERY's form: raw record (R89). -/
def rawForm (d : List Byte) : Bool := bit (body d 9 1) 0

/-- N_TOK and N_CODE of a raw-form query (R89). -/
def nTok (d : List Byte) : Nat := body d 32 2
/-- N_CODE. -/
def nCode (d : List Byte) : Nat := body d 34 2

/-- The body offset of categorical code i of a raw-form query (R90). -/
def codeAt (d : List Byte) (i : Nat) : Nat := 48 + 8 * cdiv (nTok d) 2 + 8 * i

/-- The vector of a descriptor is well formed for the collection: every element finite (R60, R90, R136). -/
def State.vectorOk (s : State) (h : Nat) (v : List Byte) : Bool :=
  (readElems (s.get (Reg.COLL_DESC_ELEM h)) 0 v (s.get (Reg.COLL_DESC_DIM h))).isSome

/-- Bytes of a vector of collection h. -/
def State.vecBytes (s : State) (h : Nat) : Nat := s.get (Reg.COLL_DESC_DIM h) * elemBytes (s.get (Reg.COLL_DESC_ELEM h))

/-- The partition's operations in flight are at the limit (R371). -/
def State.quotaFull (s : State) (p : Nat) : Bool :=
  decide (s.get (Reg.PART_QUOTA_MAX_INFLIGHT p) ≤ s.get (Reg.INT_INFLIGHT p))

/-- What completes a QUERY at once (R105 in the order of R11). -/
def State.queryVerdict (s : State) (p : Nat) (d : List Byte) : Option Nat :=
  let h := body d 0 2 % 4096
  let k := body d 2 2
  let rr := body d 4 2
  let serves := s.collServes p h s.openStep
  let elem := s.get (Reg.COLL_DESC_ELEM h)
  let int8 := decide (elem = 0)
  let fs := body d 8 1
  let map := body d 12 4
  firstStatus [
    (decide (k = 0 ∨ 1024 < k ∨ rr < k ∨ 4096 < rr ∨ body d 6 2 = 0 ∨ 4096 < body d 6 2), 5),
    (rawForm d && decide (nTok d = 0 ∨ 256 < nTok d ∨ 512 < nCode d), 5),
    (rawForm d && decide (lengthOf d ≠ unitsOf (codeAt d (nCode d))), 5),
    (rawForm d && (List.range (nCode d)).any (fun i => decide (63 < body d (codeAt d i + 2) 1)), 5),
    (!serves, 6),
    (rawForm d && decide (s.get (Reg.COLL_DESC_ENCODER h) = 0), 5),
    (!rawForm d && decide (lengthOf d ≠ unitsOf (48 + s.vecBytes h)), 5),
    (!rawForm d && int8 && !scaleOk (body d 32 4), 5),
    (!rawForm d && !s.vectorOk h (d.drop 64), 5),
    (decide (fs ≠ 0xFF) && (decide (s.get (Reg.COLL_DESC_FILTERS h) ≤ fs) || !s.filterLive h fs s.openStep), 5),
    (decide (map ≠ 0 ∧ map ≠ 0xFFFFFFFF) && !s.mapServes p map s.openStep && !s.mapUnavail p map, 5),
    (rawForm d && (List.range (nCode d)).any (fun i => (s.tableEntry p (body d (codeAt d i) 2) s.openStep).isNone), 6),
    (s.quotaFull p, 3)]

/-- What completes a FILTER_LOAD or FILTER_RETIRE at once (R80). The slot's freedom and the slot count are checked at
the shard's holders, in key order, at the commit (assumption 9). -/
def State.filterVerdict (s : State) (p n : Nat) (d : List Byte) : Option Nat :=
  let h := body d 0 2 % 4096
  let load := decide (opcodeOf d = 2)
  let fs := body d 2 1
  firstStatus [
    (decide (lengthOf d ≠ 1), 5),
    (load && decide (2 ^ 40 < body d 8 8 ∨ body d 16 8 % 64 ≠ 0), 5),
    (!s.collServes p h s.openStep, 6),
    (decide (s.get (Reg.COLL_DESC_FILTERS h) ≤ fs), 5),
    (load && decide (s.get (Reg.COLL_DESC_SHARDS h) ≤ body d 4 2), 5),
    (load && !s.canRead p (some (s.get (Reg.CXP_RINGHOST_IOWNER p n) % 4096)) (body d 16 8) (cdiv (body d 8 8) 8), 5),
    (!load && !s.filterHeld h fs, 5)]

/-- What completes a mutation or RECORD_READ at once (R136, R145). -/
def State.mutVerdict (s : State) (p : Nat) (d : List Byte) : Option Nat :=
  let h := body d 0 2 % 4096
  let vec := decide (opcodeOf d = 0x10 ∨ opcodeOf d = 0x12)
  firstStatus [
    (decide (body d 8 8 = 2 ^ 64 - 1), 5),
    (!vec && decide (lengthOf d ≠ 1), 5),
    (!s.collServes p h s.openStep, 6),
    (vec && decide (lengthOf d ≠ unitsOf (32 + s.vecBytes h)), 5),
    (vec && decide (s.get (Reg.COLL_DESC_ELEM h) = 0) && !scaleOk (body d 16 4), 5),
    (vec && !s.vectorOk h (d.drop 48), 5)]

/-- The size of a row of table entry e as FP32 (R277). -/
def State.rowBytes (s : State) (e : Nat) : Nat := 4 * s.get (Reg.EMB_TABLE_DIM e)

/-- What completes an embedding operation at once, apart from what its source holds (R277, R274). -/
def State.embVerdict (s : State) (p n : Nat) (d : List Byte) : Option Nat :=
  let op := opcodeOf d
  let host := some (s.get (Reg.CXP_RINGHOST_IOWNER p n) % 4096)
  let e := s.tableEntry p (body d 0 2) s.openStep
  let entry := e.getD 0
  let row := s.rowBytes entry
  let rows := s.get (Reg.EMB_TABLE_ROWS_M1 entry) + 1
  let quota := decide (op = 0x20 ∨ op = 0x23) && s.quotaFull p
  firstStatus ((match op with
    | 0x20 => [
        (decide (lengthOf d ≠ 1 ∨ body d 2 2 = 0 ∨ 64 < body d 2 2 ∨ body d 8 8 % 64 ≠ 0 ∨ body d 16 8 % 64 ≠ 0), 5),
        (e.isNone, 6),
        (!s.canRead p host (body d 8 8) 64, 5),
        (!s.canWrite p host (body d 16 8) (body d 2 2 * row), 5)]
    | 0x21 => [
        (decide (lengthOf d ≠ 1 ∨ body d 4 4 = 0 ∨ 4096 < body d 4 4 ∨ body d 8 8 % 64 ≠ 0), 5),
        (e.isNone, 6),
        (!s.canRead p host (body d 8 8) (body d 4 4 * (16 + row)), 5)]
    | 0x22 => [
        (decide (lengthOf d ≠ 1 ∨ body d 8 8 = 0 ∨ 2 ^ 32 < body d 4 4 + body d 8 8 ∨ body d 16 8 % 64 ≠ 0), 5),
        (e.isNone, 6),
        (decide (rows < body d 4 4 + body d 8 8), 5),
        (!s.canReadPublished p host (body d 16 8) (body d 8 8 * row), 5)]
    | _ => [
        (decide (lengthOf d ≠ 1 ∨ body d 8 8 = 0 ∨ 2 ^ 20 < body d 8 8 ∨ body d 16 8 % 64 ≠ 0), 5),
        (e.isNone, 6),
        (decide (rows < body d 4 4 + body d 8 8), 5),
        (!s.canWrite p host (body d 16 8) (body d 8 8 * row), 5)]) ++ [(quota, 3)])

/-- Bytes of an output element: int8, FP16, BF16, FP32 (R235). -/
def outElemBytes (e : Nat) : Nat := if e = 0 then 1 else if e = 3 then 4 else 2

/-- Bytes of an output record (R223): a header of 32 bytes and OUT_DIM elements. -/
def State.outRecBytes (s : State) (m : Nat) : Nat :=
  32 + s.get (Reg.ENC_MODEL_OUT_DIM m) * outElemBytes (s.get (Reg.ENC_MODEL_OUT_ELEM m))

/-- What completes an ENC_RUN at once (R222). A model of another partition and one that does not serve both give
BAD_DESCRIPTOR. The size its input records need is at least one record header. -/
def State.encVerdict (s : State) (p n : Nat) (d : List Byte) : Option Nat :=
  let host := some (s.get (Reg.CXP_RINGHOST_IOWNER p n) % 4096)
  let m := s.modelEntry p (body d 0 4) s.openStep
  let c := body d 4 4
  let out := s.outRecBytes (m.getD 0)
  firstStatus [
    (decide (lengthOf d ≠ 1 ∨ c = 0 ∨ 64 < c), 5),
    (decide (body d 8 8 % 64 ≠ 0 ∨ body d 16 8 % 64 ≠ 0 ∨ body d 24 4 % 64 ≠ 0 ∨ body d 28 4 % 64 ≠ 0), 5),
    (m.isNone, 5),
    (decide (body d 24 4 < 64 ∨ body d 28 4 < out), 5),
    (!s.canRead p host (body d 8 8) ((c - 1) * body d 24 4 + 64), 5),
    (!s.canWrite p host (body d 16 8) ((c - 1) * body d 28 4 + out), 5),
    (s.quotaFull p, 3)]

/-- A range entry belongs to partition p and applies (R319). -/
def State.rangeServes (s : State) (p i : Nat) : Bool :=
  decide (i < 4096 ∧ s.get (Reg.HOME_RANGE_LENGTH i) ≠ 0 ∧ s.get (Reg.HOME_RANGE_PARTITION i) = p ∧
    s.get (Reg.HOME_RANGE_STEP_EFFECTIVE i) ≤ s.openStep)

/-- A region serves partition p (R319). -/
def State.regionServes (s : State) (p r : Nat) : Bool :=
  decide (r < 4096 ∧ s.get (Reg.HOME_REGION_STATE r) = 1 ∧ s.get (Reg.HOME_REGION_PARTITION r) = p ∧
    s.get (Reg.HOME_REGION_STEP_EFFECTIVE r) ≤ s.openStep)

/-- What completes a shared-space operation at once (R319). -/
def State.shmVerdict (s : State) (p : Nat) (d : List Byte) : Option Nat :=
  match opcodeOf d with
  | 0x30 =>
    let st := body d 2 2
    firstStatus [
      (decide (lengthOf d ≠ 1), 5),
      (!s.regionServes p (body d 0 2) || !s.rangeServes p st, 6),
      (decide (s.get (Reg.HOME_RANGE_KIND st) ≠ 1 ∨ s.get (Reg.HOME_RANGE_REGION st) ≠ body d 0 2 ∨
        s.get (Reg.HOME_RANGE_LENGTH st) ≠ s.get (Reg.HOME_REGION_LENGTH (body d 0 2))), 5)]
  | 0x31 => firstStatus [
      (decide (lengthOf d ≠ 1), 5),
      (!s.rangeServes p (body d 0 2), 6),
      (decide (s.get (Reg.HOME_RANGE_LENGTH (body d 0 2)) < body d 8 8 + body d 16 8), 5)]
  | _ => firstStatus [
      (decide (lengthOf d ≠ 1), 5),
      (!s.rangeServes p (body d 0 2), 6),
      (decide (s.get (Reg.HOME_RANGE_KIND (body d 0 2)) ≠ 1), 5)]

/-- What completes a fetched descriptor of ring n of partition p at once when it is taken (R471); none when it is
admitted to run. -/
def State.verdict (s : State) (p n : Nat) (d : List Byte) : Option Nat :=
  let op := opcodeOf d
  if badLength d || !crcOk d 12 || !knownOpcode op then some 5
  else if op = 1 then s.queryVerdict p d
  else if op = 2 ∨ op = 3 then s.filterVerdict p n d
  else if op < 0x20 then s.mutVerdict p d
  else if op = 0x2C then s.encVerdict p n d
  else if op < 0x30 then s.embVerdict p n d
  else s.shmVerdict p d

/-! ### Reserved fields (R6) -/

/-- A reserved field of a descriptor or structure: offset, bytes, and the bits of it that are reserved. -/
def rsvdSet (d : List Byte) (fields : List (Nat × Nat × Nat)) : Bool :=
  fields.any (fun f => decide (leNat d f.1 f.2.1 &&& f.2.2 ≠ 0))

/-- A wholly reserved field. -/
def allOf (o n : Nat) : Nat × Nat × Nat := (o, n, 2 ^ (8 * n) - 1)

/-- The reserved fields of a descriptor, its common header's included. -/
def rsvdFields (d : List Byte) : List (Nat × Nat × Nat) :=
  [(1, 1, 0xFE), allOf 10 2] ++
  (match opcodeOf d with
   | 0x01 => [(17, 1, 0xF0), (25, 1, 0xFE), allOf 26 2, allOf 40 8] ++
       (if rawForm d then allOf 52 12 :: (List.range (nCode d)).map (fun i => allOf (16 + codeAt d i + 3) 1)
        else [allOf 53 11])
   | 0x02 => [(17, 1, 0xF0), (19, 1, 0xFE), allOf 22 2]
   | 0x03 => [(17, 1, 0xF0), allOf 19 5]
   | 0x10 | 0x12 => [(17, 1, 0xF0), allOf 18 6, allOf 37 11]
   | 0x11 | 0x13 => [(17, 1, 0xF0), allOf 18 6]
   | 0x20 => [allOf 20 4]
   | 0x21 => [allOf 18 2]
   | 0x22 => [(18, 1, 0xFE), allOf 19 1]
   | 0x23 => [allOf 18 2]
   | 0x2C => [allOf 56 8]
   | 0x30 => [allOf 20 4]
   | 0x31 => [allOf 18 6]
   | 0x32 => [allOf 18 14]
   | _ => [])

/-- The body bytes of a descriptor as far as its own fields give them; past them lies padding (R86). -/
def State.bodyLen (s : State) (d : List Byte) : Nat :=
  match opcodeOf d with
  | 0x01 => if rawForm d then codeAt d (nCode d) else 48 + s.vecBytes (body d 0 2 % 4096)
  | 0x02 => 24
  | 0x03 => 8
  | 0x10 | 0x12 => 32 + s.vecBytes (body d 0 2 % 4096)
  | 0x11 | 0x13 => 16
  | 0x20 => 32
  | 0x21 => 24
  | 0x22 | 0x23 => 32
  | 0x2C => 48
  | 0x30 => 24
  | 0x31 => 32
  | _ => 24

/-- A descriptor writes a value other than 0 to a reserved field or to its padding (R6, R86; assumption 12). -/
def State.descRsvd (s : State) (d : List Byte) : Bool :=
  if badLength d || !knownOpcode (opcodeOf d) then rsvdSet d [(1, 1, 0xFE), allOf 10 2]
  else rsvdSet d (rsvdFields d) || (d.drop (16 + s.bodyLen d)).any (fun b => decide (b ≠ 0))

/-! ### Completion records -/

/-- A byte string of n zero bytes with fields (offset, size, value) written. -/
def record (n : Nat) (fields : List (Nat × Nat × Nat)) : List Byte :=
  fields.foldl (fun b f => spliceAt b f.1 (natLe f.2.1 f.2.2)) (List.replicate n 0)

/-- A record of 128 bytes whose CRC lies at offset 104. -/
def record128 (fields : List (Nat × Nat × Nat)) : List Byte := sealCrc (record 128 fields) 104

/-- The fields every completion shares (R101, R144). -/
def commonFields (status : Nat) (phaseByte tag step admitter seq : Nat) : List (Nat × Nat × Nat) :=
  [(0, 1, status), (1, 1, phaseByte), (4, 4, tag), (8, 8, step), (68, 2, admitter), (72, 8, seq)]

/-- A status-only sheaf header (R101, R104): no shard covered is named. -/
def statusSheaf (status phaseByte handle tag step user k total admitter seq : Nat) : List Byte :=
  record128 (commonFields status phaseByte tag step admitter seq ++
    [(2, 2, handle), (16, 8, user), (24, 2, k), (64, 2, total), (88, 16, 2 ^ 128 - 1)])

/-- A mutation completion (R144). -/
def mutRecord (status phaseByte handle tag step record_ opcode admitter seq primary mirror : Nat) (o : MutOutcome) : List Byte :=
  record128 (commonFields status phaseByte tag step admitter seq ++
    [(2, 2, handle), (16, 8, record_), (24, 1, opcode), (25, 1, o.outcome), (32, 8, o.newSlot), (40, 8, o.oldSlot),
     (48, 4, o.list0), (52, 4, o.list1), (56, 2, primary), (58, 2, mirror)])

/-- An outcome that applied nothing (R145). -/
def MutOutcome.notApplied (status : Nat) : MutOutcome :=
  { status := status, outcome := 7, newSlot := 0xFFFFFFFFFF, oldSlot := 0xFFFFFFFFFF, list0 := 0xFFFFFF, list1 := 0xFFFFFF }

/-- A filter completion (R80). -/
def filterRecord (status phaseByte handle tag step opcode fslot shard live allowed admitter seq : Nat) : List Byte :=
  record128 (commonFields status phaseByte tag step admitter seq ++
    [(2, 2, handle), (16, 1, opcode), (17, 1, fslot), (18, 2, shard), (24, 8, live), (32, 8, allowed)])

/-- An embedding completion (R293). -/
def embRecord (status phaseByte table tag step user opcode items done sat fwd admitter seq : Nat) : List Byte :=
  record128 (commonFields status phaseByte tag step admitter seq ++
    [(2, 2, table), (16, 8, user), (24, 1, opcode), (28, 4, items), (32, 4, done), (36, 4, sat), (40, 4, fwd),
     (44, 1, items / 2 ^ 32), (45, 1, done / 2 ^ 32)])

/-- A shared-space completion (R322). -/
def shmRecord (status phaseByte obj tag step user opcode version pubStep admitter seq : Nat) : List Byte :=
  record128 (commonFields status phaseByte tag step admitter seq ++
    [(2, 2, obj), (16, 8, user), (24, 1, opcode), (28, 8, version), (36, 8, pubStep)])

/-- An ENC_RUN completion (R224). -/
def encRecord (status phaseByte tag step user model ok bad admitter seq : Nat) : List Byte :=
  record128 (commonFields status phaseByte tag step admitter seq ++ [(16, 8, user), (24, 4, model), (28, 4, ok), (32, 4, bad)])

/-- The USER of a descriptor, 0 where its operation has none. -/
def userOf (d : List Byte) : Nat :=
  match opcodeOf d with
  | 0x01 => body d 16 8
  | 0x20 => body d 24 8
  | 0x21 => body d 16 8
  | 0x22 | 0x23 => body d 24 8
  | 0x2C => body d 32 8
  | 0x30 => body d 16 8
  | 0x31 => body d 24 8
  | 0x32 => body d 16 8
  | _ => 0

/-- The completion of a descriptor that completes at once (R471). A unit of malformed length or reserved opcode
completes with a status-only header (R87, R101). -/
def State.statusRecord (s : State) (d : List Byte) (status : Nat) (dlv : Delivery) (step seq : Nat) : List Byte :=
  let h := body d 0 2 % 4096
  let op := opcodeOf d
  if badLength d || !knownOpcode op then statusSheaf status dlv.phase 0 dlv.tag step 0 0 0 s.me seq
  else if op = 1 then
    let own := s.collServes dlv.part h s.openStep
    statusSheaf status dlv.phase h dlv.tag step dlv.user (body d 2 2) (if own then s.get (Reg.COLL_DESC_SHARDS h) else 0) s.me seq
  else if op = 2 then filterRecord status dlv.phase h dlv.tag step 2 (body d 2 1) (body d 4 2) 0 0 s.me seq
  else if op = 3 then filterRecord status dlv.phase h dlv.tag step 3 (body d 2 1) 0xFFFF 0 0 s.me seq
  else if op < 0x20 then
    let own := s.collServes dlv.part h s.openStep
    let hold := if own then s.holdersOf h (s.shardOfRecord h (body d 8 8)) else (0xFFF, 0xFFF)
    mutRecord status dlv.phase h dlv.tag step (body d 8 8) op s.me seq hold.1 hold.2 (MutOutcome.notApplied status)
  else if op = 0x2C then encRecord status dlv.phase dlv.tag step dlv.user (body d 0 4) 0 0 s.me seq
  else if op < 0x30 then
    let items := if op = 0x20 then body d 2 2 else if op = 0x21 then body d 4 4 else body d 8 8
    embRecord status dlv.phase (body d 0 2) dlv.tag step dlv.user op items 0 0 0 s.me seq
  else shmRecord status dlv.phase (body d 0 2) dlv.tag step dlv.user op 0 0 s.me seq

end Sys2Proof.Machine
end

