-- ==== Sys2Proof/Machine/Intake.lean ====
section
/-! DEFINITION. Intake and sheaf rings, the traffic shaper, and what taking a descriptor does (R86 to R92, R103, R333,
R371 to R378, R471). -/

namespace Sys2Proof.Machine

open Sys2Proof

/-! ### Rings -/

/-- Units of intake ring n of partition p (R88). -/
def State.iringSize (s : State) (p n : Nat) : Nat := 2 ^ s.get (Reg.IRING_CTL_LOG2_SIZE p n)

/-- Slots of sheaf ring n of partition p. -/
def State.sringSize (s : State) (p n : Nat) : Nat := 2 ^ s.get (Reg.SRING_CTL_LOG2_SIZE p n)

/-- The host that owns an intake ring (R333). -/
def State.iringOwner (s : State) (p n : Nat) : Nat := s.get (Reg.CXP_RINGHOST_IOWNER p n) % 4096

/-- The host that owns a sheaf ring (R333). -/
def State.sringOwner (s : State) (p n : Nat) : Nat := s.get (Reg.CXP_RINGHOST_SOWNER p n) % 4096

/-- An intake ring is in use: enabled, and its owner bound (R333). -/
def State.iringOn (s : State) (p n : Nat) : Bool :=
  decide (n < 16) && s.flag (Reg.IRING_CTL_ENABLE p n) && (s.bindOf (s.iringOwner p n)).isSome

/-- A sheaf ring is in use: enabled, and its owner bound (R92, R333). -/
def State.sringOn (s : State) (p n : Nat) : Bool :=
  decide (n < 16) && s.flag (Reg.SRING_CTL_ENABLE p n) && (s.bindOf (s.sringOwner p n)).isSome

/-- The distance from b up to a, modulo m. -/
def ringDist (a b m : Nat) : Nat := (a + m - b % m) % m

/-- A slot of the sheaf ring is free (R92). -/
def State.slotFree (s : State) (p n : Nat) : Bool :=
  decide (ringDist (s.get (Reg.SRING_TAIL p n)) (s.get (Reg.SRING_HEAD p n)) (2 * s.sringSize p n) < s.sringSize p n)

/-- The fetched head of a ring. -/
def State.head? (s : State) (p n : Nat) : Option Head := tfind s.host.heads (16 * p + n)

/-- A bad doorbell (R88, R103). -/
def State.badDoorbell (s : State) (p : Nat) : State :=
  ((s.tallyP .INT_BAD_DOORBELL p).setB (Reg.INT_STATUS_BAD_DOORBELL_EVT p) true).event p 6

/-- A host of partition p may act on p's own page only (R331). -/
def State.ownPage (s : State) (h : HostReq) (p : Nat) (f : State → State) : State :=
  match s.admitHost h with
  | .inr t => t
  | .inl q => if q = p then f s else s.tallyP .CXP_FOREIGN q

/-- The doorbell check of R88. -/
def doorbellOk (size head tail value : Nat) : Bool :=
  decide (value < 2 * size ∧ ringDist tail head (2 * size) ≤ ringDist value head (2 * size) ∧
    ringDist value head (2 * size) ≤ size)

/-- Ring an intake doorbell (R88). -/
def State.ringDoorbell (s : State) (p n value : Nat) : State :=
  if doorbellOk (s.iringSize p n) (s.get (Reg.IRING_HEAD p n)) (s.get (Reg.IRING_TAIL p n)) value then
    s.set (Reg.IRING_TAIL p n) value
  else s.badDoorbell p

/-- IRING_TAIL_WRITE (R88): bits [31:17] are reserved. -/
def execIringTailWrite (h : HostReq) (p n value : Nat) (s : State) :=
  hostCmd s (.iringTailWrite h p n value) (fun s => s.ownPage h p (fun s =>
    if 16 ≤ n then s
    else (s.when (decide (value % 2 ^ 32 / 2 ^ 17 ≠ 0)) (fun t => t.tallyP .CXP_RSVD_WRITES p)).ringDoorbell p n
      (value % 2 ^ 17)))

/-- The written slots from SRING_HEAD onwards without a gap (R103). -/
def State.writtenRun (s : State) (p n : Nat) : Nat → Nat → Nat
  | _, 0 => 0
  | idx, fuel + 1 =>
    if (s.writtenOf p n).contains (idx % (2 * s.sringSize p n)) then 1 + s.writtenRun p n (idx + 1) fuel else 0

/-- Return slots of a sheaf ring (R103). -/
def State.returnSlots (s : State) (p n value : Nat) : State :=
  let size := s.sringSize p n
  let head := s.get (Reg.SRING_HEAD p n)
  let d := ringDist value head (2 * size)
  if value < 2 * size ∧ d ≤ s.writtenRun p n head size then
    (s.setWritten p n ((s.writtenOf p n).filter (fun i => decide (d ≤ ringDist i head (2 * size))))).set
      (Reg.SRING_HEAD p n) value
  else s.badDoorbell p

/-- SRING_HEAD_WRITE (R103): bits [31:17] are reserved. -/
def execSringHeadWrite (h : HostReq) (p n value : Nat) (s : State) :=
  hostCmd s (.sringHeadWrite h p n value) (fun s => s.ownPage h p (fun s =>
    if 16 ≤ n then s
    else (s.when (decide (value % 2 ^ 32 / 2 ^ 17 ≠ 0)) (fun t => t.tallyP .CXP_RSVD_WRITES p)).returnSlots p n
      (value % 2 ^ 17)))

/-- Units that a descriptor beginning with these bytes occupies (R87). -/
def fetchUnits (d : List Byte) : Nat := if badLength d then 1 else lengthOf d

/-- DESCRIPTOR_FETCH (R87): the node reads the units at HEAD, as far as TAIL covers them, from the ring's owner; HEAD
moves on and the descriptor becomes the ring's head. A failed CRC sets CRC_EVT. A host in reset is not read (R341). -/
def execDescriptorFetch (p n : Nat) (data : List Byte) (s : State) :=
  nodeEvt s (fun s =>
    let units := fetchUnits data
    let head := s.get (Reg.IRING_HEAD p n)
    let size := s.iringSize p n
    if s.iringOn p n && (s.head? p n).isNone && decide (1 ≤ p ∧ p ≤ 64 ∧ data.length = 64 * units ∧
        units ≤ ringDist (s.get (Reg.IRING_TAIL p n)) head (2 * size)) && (s.ctx (s.iringOwner p n)).resetStep.isNone then
      let s := s.modHost fun k => { k with heads := tput k.heads (16 * p + n) { data := data, units := units } }
      let s := s.set (Reg.IRING_HEAD p n) ((head + units) % (2 * size))
      if !badLength data && !crcOk data 12 then (s.setB (Reg.INT_STATUS_CRC_EVT p) true).event p 6 else s
    else s)

/-! ### The shaper -/

/-- The gate in force is open to partition p (R377). -/
def State.gateOpen (s : State) (p : Nat) : Bool :=
  let l := s.get Reg.SHAPE_STATUS_ACTIVE_LIST
  decide (s.get (Reg.SHAPE_GATE_HDR_COUNT l) = 0) || bit (s.get (Reg.SHAPE_GATE_MASK l s.host.gateEntry)) (p - 1)

/-- The admission credit lets partition p through (R373). -/
def State.creditOpen (s : State) (p : Nat) : Bool :=
  decide (s.get (Reg.SHAPE_ADM_RATE p) = 0 ∨ 0 ≤ s.getI (Reg.SHAPE_ADM_CREDIT p))

/-- Staging units of 4 KiB that a mutation of LENGTH units needs (R137; assumption 13). -/
def stagingUnits (length : Nat) : Nat := cdiv (64 * length) 4096

/-- Staging credit held from a node (R137). -/
def State.creditFrom (s : State) (n : Nat) : Nat := tget 0 s.srch.credit n

/-- The holders of a mutation's shard that are members (R137). -/
def State.mutHolders (s : State) (d : List Byte) : List Nat :=
  let h := body d 0 2 % 4096
  (s.holderList h (s.shardOfRecord h (body d 8 8))).filter s.isMember

/-- The records a descriptor adds to the encoder backlog (R221). -/
def encRecords (d : List Byte) : Nat :=
  if opcodeOf d = 0x2C then body d 4 4 else if opcodeOf d = 1 ∧ rawForm d then 1 else 0

/-- A mutation that is staged. -/
def isStaged (d : List Byte) : Bool := decide (0x10 ≤ opcodeOf d ∧ opcodeOf d ≤ 0x12)

/-- What completes the head of ring n of partition p at once: its own verdict; REFUSED_DISABLED while the partition is
disabled (R342, R374); BAD_DESCRIPTOR when its RING is not in use (R92). -/
def State.headVerdict (s : State) (p n : Nat) (d : List Byte) : Option Nat :=
  let v := s.verdict p n d
  if !s.sringOn p (leNat d 8 2) then some 5
  else if s.flag (Reg.PART_CFG_ENABLE p) || decide (v = some 5) then v else some 4

/-- The sheaf ring of the descriptor's completion: the one it names, else ring 0, else none (R92). -/
def State.completionRing (s : State) (p : Nat) (d : List Byte) : Option Nat :=
  let r := leNat d 8 2
  if s.sringOn p r then some r else if s.sringOn p 0 then some 0 else none

/-- The completion slot is free, or none is needed (R92, R373). -/
def State.slotReady (s : State) (p : Nat) (d : List Byte) : Bool :=
  match s.completionRing p d with | some r => s.slotFree p r | none => true

/-- Staging credit is held, when the descriptor needs it (R137). -/
def State.creditReady (s : State) (p n : Nat) (d : List Byte) : Bool :=
  (s.headVerdict p n d).isSome || !isStaged d ||
    (s.mutHolders d).all (fun x => decide (stagingUnits (lengthOf d) ≤ s.creditFrom x))

/-- The encoder backlog has room, when the descriptor needs it (R221). -/
def State.backlogReady (s : State) (p n : Nat) (d : List Byte) : Bool :=
  (s.headVerdict p n d).isSome || decide (encRecords d = 0 ∨
    s.get Reg.ENC_BACKLOG + encRecords d ≤ s.get Reg.ENC_CFG_BACKLOG_MAX)

/-- The head of a ring is ready (R373). -/
def State.ringReady (s : State) (p n : Nat) : Bool :=
  match s.head? p n with
  | none => false
  | some h => s.slotReady p h.data && s.creditReady p n h.data && s.backlogReady p n h.data

/-- The node admits at all: it is a serving member, neither isolated nor held (R47, R48, R52, R216). -/
def State.admits (s : State) : Bool := !s.admitStopped && !s.heldForReset

/-- The numbers below n in turn order, from the one above last, wrapping (R373). -/
def turnOrder (last n : Nat) : List Nat :=
  ((List.range n).filter (fun i => decide (last < i))) ++ ((List.range n).filter (fun i => decide (i ≤ last)))

/-- The ring last served in partition p. -/
def State.lastRingOf (s : State) (p : Nat) : Nat := tget 15 s.host.lastRing p

/-- The first ready ring of partition p in turn order. -/
def State.pickRing (s : State) (p : Nat) : Option Nat := (turnOrder (s.lastRingOf p) 16).find? (fun n => s.ringReady p n)

/-- Partition p is eligible (R373); a disabled one is not gated (R374). -/
def State.eligible (s : State) (p : Nat) : Bool :=
  decide (1 ≤ p) && (!s.flag (Reg.PART_CFG_ENABLE p) || (s.gateOpen p && s.creditOpen p)) && (s.pickRing p).isSome

/-- What the shaper serves next: partition and ring (R373). -/
def State.pick (s : State) : Option (Nat × Nat) :=
  if !s.admits then none
  else match (turnOrder s.host.lastPart 65).find? s.eligible with
    | none => none
    | some p => (s.pickRing p).map (fun n => (p, n))

/-- The cost of a descriptor (R375). -/
def State.cost (s : State) (p units : Nat) : Nat :=
  if s.get (Reg.SHAPE_ADM_MODE p) = 1 then 1 else 64 * units + s.get (Reg.SHAPE_ADM_OVERHEAD p)

/-- Charge a partition's admission credit, unless it is unshaped (R375). -/
def State.chargeAdm (s : State) (p cost : Nat) : State :=
  if s.get (Reg.SHAPE_ADM_RATE p) = 0 then s
  else s.setI (Reg.SHAPE_ADM_CREDIT p) (s.getI (Reg.SHAPE_ADM_CREDIT p) - 256 * (cost : Int))

/-- The delivery of a completion that takes the next slot of sheaf ring r (R92, R101). -/
def State.deliveryAt (s : State) (p r : Nat) (d : List Byte) : Delivery :=
  let idx := s.get (Reg.SRING_TAIL p r)
  let n := s.sringSize p r
  let units := s.get (Reg.SRING_CTL_SLOT_UNITS p r)
  { part := p, ring := r, idx := idx, addr := 64 * s.get (Reg.SRING_BASE p r) + 64 * units * (idx % n),
    pid := s.sringOwner p r, units := units, phase := if idx < n then 1 else 0, tag := leNat d 4 4, user := userOf d }

/-- A descriptor that has been taken (R471). -/
structure Taken where
  part : Nat
  ring : Nat
  data : List Byte
  id : OpId
  dlv : Option Delivery
  deriving DecidableEq, Repr

/-- Take the head of a ring (R471): charge it, count it, give it the open step and the next sequence number, and
reserve its slot. A disabled partition's is neither charged nor counted (R374). -/
def State.takeHead (s : State) (p n : Nat) (h : Head) : State × Taken :=
  let r := s.completionRing p h.data
  let t : Taken := { part := p, ring := n, data := h.data, id := { step := s.openStep, seq := s.host.admSeq, admitter := s.me },
                     dlv := r.map (fun q => s.deliveryAt p q h.data) }
  let on := s.flag (Reg.PART_CFG_ENABLE p)
  let s1 := s.when (s.descRsvd h.data) (fun u => u.tallyP .CXP_RSVD_WRITES p)
  let s1 := s1.when on (fun u => (u.chargeAdm p (u.cost p h.units)).tallyP .SHP_ADMITTED p)
  let s1 := s1.modHost fun k => { k with heads := tdel k.heads (16 * p + n), lastPart := p,
                                         lastRing := tset 15 k.lastRing p n, admSeq := k.admSeq + 1 }
  match r with
  | none => (s1, t)
  | some q => (s1.set (Reg.SRING_TAIL p q) ((s1.get (Reg.SRING_TAIL p q) + 1) % (2 * s1.sringSize p q)), t)

/-! ### Completions -/

/-- The tally of a completion's status that every opcode counts (R107). -/
def State.statusTally (s : State) (p status : Nat) : State :=
  match status with
  | 3 | 4 => s.tallyP .QRY_REFUSED p
  | 5 => s.tallyP .QRY_BAD_DESC p
  | 6 => s.tallyP .QRY_UNKNOWN_COLL p
  | _ => s

/-- Write a completion to its reserved slot, of which the vector falls due when it is written (R92, R103, R380). -/
def State.writeSlot (s : State) (dlv : Delivery) (bytes : List Byte) : State :=
  s.submitWrite { part := dlv.part, pid := dlv.pid, addr := dlv.addr, data := bytes, done := .slot dlv.part dlv.ring dlv.idx }

/-- Complete a taken descriptor at once (R471); without a ring nothing is written and it counts as undelivered (R92). -/
def State.completeTaken (s : State) (t : Taken) (status : Nat) : State :=
  match t.dlv with
  | none => s.tallyP .QRY_UNDELIVERED t.part
  | some dlv => (s.statusTally t.part status).writeSlot dlv (s.statusRecord t.data status dlv t.id.step t.id.seq)

/-- Serve the shaper's pick if its descriptor is one that f accepts: one that a check completes at once is completed, an
admitted one runs. Another pick, or none, changes nothing (assumption 1). -/
def State.serve (s : State) (f : List Byte → Bool) (run : State → Taken → Delivery → State) : State :=
  match s.pick with
  | none => s
  | some (p, n) =>
    match s.head? p n with
    | none => s
    | some h =>
      if f h.data then
        let r := s.takeHead p n h
        match s.headVerdict p n h.data, r.2.dlv with
        | some v, _ => r.1.completeTaken r.2 v
        | none, some dlv => run r.1 r.2 dlv
        | none, none => r.1.completeTaken r.2 5
      else s

/-- A well-formed unit of an operation code. -/
def isOp (op : Nat) (d : List Byte) : Bool := !badLength d && decide (opcodeOf d = op)

/-- MALFORMED_UNIT (R87, R471): a unit of malformed length, or a reserved opcode, is taken at its turn, charged as one
descriptor, and completed with BAD_DESCRIPTOR. -/
def execMalformedUnit (s : State) :=
  nodeEvt s (fun s => s.serve (fun d => badLength d || !knownOpcode (opcodeOf d)) (fun s t _ => s.completeTaken t 5))

/-! ### Operations admitted here -/

/-- An operation admitted at this node and not yet completed. -/
def State.adm? (s : State) (id : OpId) : Option Admitted := s.srch.adm.find? (fun a => decide (a.id = id))

/-- Change the operation admitted with an identity. -/
def State.modAdm (s : State) (id : OpId) (f : Admitted → Admitted) : State :=
  s.modSrch fun k => { k with adm := lmod (fun a => decide (a.id = id)) f k.adm }

/-- Set the in-flight count of a partition (R371), as INT_INFLIGHT, PART_USE and PART_STATUS show it (R108, R384). -/
def State.setInflight (s : State) (p n : Nat) : State :=
  let s := (s.set (Reg.INT_INFLIGHT p) n).set (Reg.PART_USE_MAX_INFLIGHT p) n
  s.setB (Reg.PART_STATUS_INFLIGHT_FULL p) (decide (n = s.get (Reg.PART_QUOTA_MAX_INFLIGHT p)))

/-- Record an admitted operation, counted in flight if it counts as a query for the horizon (R371). -/
def State.admitOp (s : State) (a : Admitted) : State :=
  let s1 := s.modSrch fun k => { k with adm := k.adm ++ [a] }
  s1.when a.counts (fun u => u.setInflight a.dlv.part (u.get (Reg.INT_INFLIGHT a.dlv.part) + 1))

/-- Let go of an operation that has completed (R371). -/
def State.dropAdm (s : State) (a : Admitted) : State :=
  let s1 := s.modSrch fun k => { k with adm := k.adm.filter (fun b => decide (b.id ≠ a.id)) }
  s1.when a.counts (fun u => u.setInflight a.dlv.part (u.get (Reg.INT_INFLIGHT a.dlv.part) - 1))

/-- The base of an admitted operation. -/
def Taken.admitted (t : Taken) (dlv : Delivery) (handle record_ : Nat) (counts : Bool) : Admitted :=
  { id := t.id, opcode := opcodeOf t.data, dlv := dlv, handle := handle, record := record_, query := none, started := false,
    acks := [], notices := [], holders := [], counts := counts, items := 0 }

/-- Complete an admitted operation with a record (R9): its status is counted where every opcode counts it. -/
def State.completeAdm (s : State) (a : Admitted) (status : Nat) (bytes : List Byte) : State :=
  ((s.dropAdm a).statusTally a.dlv.part status).writeSlot a.dlv bytes

end Sys2Proof.Machine
end

