-- ==== Sys2Proof/Machine/LinkCmds.lean ====
section
/-! DEFINITION. The commands of the Ovane link layer (R347 to R364): flits, acknowledgement, retrains and training. -/

namespace Sys2Proof.Machine

open Sys2Proof

/-- A received flit of a kind on a link in use: a good one of that kind is taken, one of another kind changes nothing
(assumption 1), a bad one is discarded (R350). `fec` is the number of codewords the FEC corrected, none when it could not. -/
def State.onFlit (s : State) (l kind : Nat) (raw : List Byte) (fec : Option Nat) (f : State → FlitHdr → State) : State :=
  let st := s.get (Reg.OVL_LINK_STATE l)
  if 8 ≤ l ∨ st < 2 ∨ st = 5 then s
  else match fec with
    | none => s.flitBad l false
    | some n =>
      let s := (s.stick (Reg.OVL_LINK_FEC_CORRECTED l) n).tallyN .OVL_FEC_CORRECTED n
      match readFlit raw with
      | some h => if h.kind = kind then f s h else s
      | none => s.flitBad l true

/-- FLIT_DATA (R351): in sequence it is accepted, acknowledged and assembled; else discarded with a NAK. The far node
has been heard (R44). -/
def execFlitData (link : Nat) (raw : List Byte) (fec : Option Nat) (s : State) :=
  nodeEvt s (fun s => s.onFlit link 1 raw fec (fun s h =>
    if s.get (Reg.OVL_LINK_STATE link) = 2 then s else (s.heardFrom (s.peer link)).rxData link h))

/-- FLIT_NAK (R351): the sender resends from the named number. -/
def execFlitNak (link : Nat) (raw : List Byte) (fec : Option Nat) (s : State) :=
  nodeEvt s (fun s => s.onFlit link 2 raw fec (fun s h =>
    if s.get (Reg.OVL_LINK_STATE link) = 2 then s
    else ((s.heardFrom (s.peer link)).takeFlit link h).replayFrom link h.seq))

/-- FLIT_IDLE (R350): ACK and credits flow, and the far node has been heard (R44, R46). -/
def execFlitIdle (link : Nat) (raw : List Byte) (fec : Option Nat) (s : State) :=
  nodeEvt s (fun s => s.onFlit link 0 raw fec (fun s h =>
    if s.get (Reg.OVL_LINK_STATE link) = 2 then s else (s.heardFrom (s.peer link)).takeFlit link h))

/-- The link comes up with the far end's credits and answers with its own INIT (R354, assumption 11). -/
def State.linkBringUp (s : State) (l : Nat) (rec : List Byte) : State :=
  let s := s.setLink l { Link.fresh with heard := s.now, ackTick := s.now }
  let s := s.set (Reg.OVL_LINK_STATE l) 3
  let s := (s.set (Reg.OVL_LINK_PEER l) (leNat rec 0 2)).set (Reg.OVL_LINK_PEER_LINK l) (leNat rec 2 1)
  let s := s.set (Reg.OVL_LINK_TX_SEQ l) 0
  let s := s.set (Reg.OVL_LINK_RX_ACK l) 0
  let s := (List.range 11).foldl (fun t c => t.set (Reg.OVL_LINK_TX_CREDITS l c) (leNat rec (16 + 2 * c) 2)) s
  let s := s.emit (.init l (s.get (Reg.OVL_LINK_WIDTH l)) (s.get Reg.STEP_EPOCH) (s.flag Reg.STEP_STATUS_RECOVERING))
  (s.refreshRoutes).heardFrom (leNat rec 0 2 % 4096)

/-- REPLAY_TIMEOUT (R351): no ACK has advanced for tACK while flits are unacknowledged on a link that is up: the oldest
is resent, and all after it. -/
def execReplayTimeout (link : Nat) (s : State) :=
  nodeEvt s (fun s =>
    match (s.link link).replay with
    | [] => s
    | f :: _ => if s.linkUp link ∧ (s.link link).ackTick + tACK ≤ s.now then s.replayFrom link f.seq else s)

/-- A link must retrain: one number replayed 8 times, or too many uncorrectable codewords in 1 ms (R352). -/
def State.mustRetrain (s : State) (l : Nat) : Bool :=
  let k := s.link l
  (match k.replayed with | some (_, c) => decide (8 ≤ c) | none => false) ||
    decide (s.get Reg.OVL_CFG_ERR_LIMIT < k.uncorr.1 ∧ s.now < k.uncorr.2 + 25000)

/-- 100 ms of clean running, in ticks (R352). -/
def cleanRun : Nat := 2500000

/-- FAST_RETRAIN_START (R352): counted; after RETRAIN_MAX in a row without 100 ms of clean running the link fails. -/
def execFastRetrainStart (link : Nat) (s : State) :=
  nodeEvt s (fun s =>
    if s.linkUp link && s.mustRetrain link then
      let k := s.link link
      let before := if s.now < k.retrainEnd + cleanRun then k.retrains else 0
      if s.get Reg.OVL_CFG_RETRAIN_MAX ≤ before then s.failLink link
      else
        let s := s.setLink link { k with retrains := before + 1, replayed := none, uncorr := (0, s.now) }
        let s := s.set (Reg.OVL_LINK_STATE link) 4
        (s.stick (Reg.OVL_LINK_RETRAINS link) 1).tallyN .OVL_RETRAINS
    else s)

/-- FAST_RETRAIN_DONE (R352): sequence numbers, replay buffer and credits unchanged, the link resumes. -/
def execFastRetrainDone (link : Nat) (s : State) :=
  nodeEvt s (fun s =>
    if s.get (Reg.OVL_LINK_STATE link) = 4 then
      let s := s.setLink link { s.link link with retrainEnd := s.now, ackTick := s.now }
      (s.set (Reg.OVL_LINK_STATE link) 3).pumpLink link
    else s)

/-- Begin full training of a link (R352, R428). -/
def State.trainLink (s : State) (l : Nat) : State :=
  if bit (s.get Reg.OVL_CFG_LINK_ENABLE) l then
    (s.setLink l Link.fresh).set (Reg.OVL_LINK_STATE l) 1 |>.set (Reg.OVL_LINK_WIDTH l) 0
  else s

/-- FREEZE_PATTERN_RX (R353): the link stays trained and its replay timer stops. -/
def execFreezePatternRx (link : Nat) (s : State) :=
  nodeEvt s (fun s =>
    let st := s.get (Reg.OVL_LINK_STATE link)
    if link < 8 ∧ (st = 3 ∨ st = 7) then s.set (Reg.OVL_LINK_STATE link) 6 else s)

/-- The messages an E2E_ACK covers are acknowledged: those of the stream up to its SEQ (R360); an ANNOUNCE delivered
here may then be acknowledged in turn (R361). -/
def State.ackMsgs (s : State) (src cls route seq : Nat) : State :=
  let hit (m : Msg) : Bool := decide (m.dst = src ∧ m.cls = cls ∧ m.route = route ∧ m.seq ≠ 0 ∧ m.seq ≤ seq)
  let nums := (s.ovl.msgs.filter hit).map (·.num)
  let s := s.modOvl fun o => { o with
    msgs := lmod hit (fun m => { m with acked := true }) o.msgs
    floodAwait := (o.floodAwait.map (fun e => (e.1, e.2.1, e.2.2.filter (fun n => !nums.contains n)))).filter
      (fun e => !e.2.2.isEmpty) }
  s.forget

/-- A message command of a stream floods on and is acknowledged only when its copies are (R361): the copies sent since
a message number. -/
def State.awaitCopies (s : State) (src first : Nat) : State :=
  let key := streamKey 1 1 src
  let nums := (s.ovl.msgs.filter (fun m => decide (first ≤ m.num) && !m.acked)).map (·.num)
  if nums.isEmpty then s
  else s.modOvl fun o => { o with floodAwait := o.floodAwait ++ [(key, tget 0 o.rxSeq key, nums)] }

/-- The sequence number an E2E_ACK of a stream may name now (R359, R361). -/
def State.ackable (s : State) (key : Nat) : Nat :=
  (s.ovl.floodAwait.filter (fun e => decide (e.1 = key))).foldl (fun n e => min n (e.2.1 - 1)) (tget 0 s.ovl.rxSeq key)

/-- E2E_NAK (R360): the named message is sent again whole. -/
def execE2eNak (src cls route seq : Nat) (s : State) :=
  nodeEvt s (fun s =>
    match s.ovl.msgs.find? (fun m => decide (m.dst = src ∧ m.cls = cls ∧ m.route = route ∧ m.seq = seq ∧ m.seq ≠ 0)) with
    | none => s
    | some m =>
      let s := s.modOvl fun o => { o with
        msgs := lmod (fun x => decide (x.num = m.num)) (fun x => { x with resent := x.resent + 1 }) o.msgs }
      (s.tallyN .OVL_E2E_RESENDS).startMsg m)

/-- E2E_ACK_TIMER (R360): at least every 2 microseconds each stream with unacknowledged messages is acknowledged, as
far as R361 allows. -/
def execE2eAckTimer (s : State) :=
  nodeEvt s (fun s =>
    s.ovl.ackDue.foldl (fun t e =>
      if t.now < e.2 + 50 then t
      else
        let key := e.1
        let n := t.ackable key
        let t1 := t.modOvl fun o => { o with
          ackDue := if n = tget 0 o.rxSeq key then tdel o.ackDue key else tput o.ackDue key t.now }
        if n = 0 then t1
        else t1.sendAck (key % 4096) (.e2eAck t1.me (key / 4096 % 32) (if key < 131072 then 0 else 1) n)) s)

end Sys2Proof.Machine
end

