-- ==== Sys2Proof/Machine/Shard.lean ====
section
/-! DEFINITION. The index of a shard: routing (R72, R73), insertion and retirement at a commit (R68, R69, R140, R141,
R150), upkeep (R81 to R83, R147 to R149), rebuild (R74) and filters (R76 to R79). Every decision is a function of the
committed state (R71). -/

namespace Sys2Proof.Machine

open Sys2Proof

/-- A collection's parameters (R59, R85). -/
structure CollCfg where
  metric : Nat
  elem : Nat
  dim : Nat
  w : Nat
  shift : Nat
  graph : Bool
  degree : Nat
  beam : Nat
  maxexp : Nat
  margin : Nat
  splitLen : Nat
  mergeLen : Nat
  compactFrac : Nat
  rebuildFrac : Nat
  lag : Nat
  graphLag : Nat
  shards : Nat
  proj : List (List Int)
  offs : List Int
  deriving DecidableEq, Repr

/-- The parameters of collection h. -/
def State.cfgOf (s : State) (h : Nat) : CollCfg :=
  { metric := s.get (Reg.COLL_DESC_METRIC h), elem := s.get (Reg.COLL_DESC_ELEM h), dim := s.get (Reg.COLL_DESC_DIM h),
    w := 128 * 2 ^ s.get (Reg.COLL_DESC_SKETCH_W h), shift := s.get (Reg.COLL_DESC_ROUTE_SHIFT h),
    graph := decide (s.get (Reg.COLL_DESC_ROUTE_MODE h) = 1), degree := s.get (Reg.COLL_DESC_GRAPH_DEGREE h),
    beam := s.get (Reg.COLL_DESC_ROUTE_BEAM h), maxexp := s.get (Reg.COLL_DESC_ROUTE_MAXEXP h),
    margin := s.get (Reg.COLL_DESC_SPILL_MARGIN h), splitLen := s.get (Reg.COLL_DESC_SPLIT_LEN h),
    mergeLen := s.get (Reg.COLL_DESC_MERGE_LEN h), compactFrac := s.get (Reg.COLL_DESC_COMPACT_FRAC h),
    rebuildFrac := s.get (Reg.COLL_DESC_REBUILD_FRAC h), lag := s.get (Reg.COLL_DESC_UPKEEP_LAG h),
    graphLag := s.get (Reg.COLL_DESC_GRAPH_LAG h), shards := s.get (Reg.COLL_DESC_SHARDS h),
    proj := (s.coll h).proj, offs := (s.coll h).offs }

/-- The node with the configuration in force at step t, for what a request of t reads of it (R17, R421). -/
def State.inForce (s : State) (t : Nat) : State :=
  match s.cfg.was.reverse.find? (fun w => decide (t < w.1)) with
  | some w => { s with regs := w.2 }
  | none => s

/-- The parameters of collection h in force at step t (R17). -/
def State.cfgAt (s : State) (t h : Nat) : CollCfg := (s.inForce t).cfgOf h

/-- The routing form of a vector of the collection, and the elements clamped (R60); none for a NaN or an infinity. -/
def CollCfg.form (c : CollCfg) (scale : Nat) (zero : Int) (v : List Byte) : Option (List Int × Nat) :=
  (readElems c.elem zero v c.dim).map (routingForm c.elem ((fp32.read scale).getD 0) c.shift)

/-! ### Versions of lists -/

/-- A list is visible at step t (R65). -/
def LList.visible (l : LList) (t : Nat) : Bool := decide (l.born ≤ t ∧ (l.retired = 0 ∨ t < l.retired))

/-- The list or tombstone of an index visible at step t. -/
def Shard.at (sh : Shard) (i t : Nat) : Option LList := sh.lists.find? (fun l => decide (l.idx = i) && l.visible t)

/-- The live lists at step t, by ascending index. -/
def Shard.live (sh : Shard) (t : Nat) : List LList :=
  sortBy (fun a b => decide (a.idx ≤ b.idx)) (sh.lists.filter (fun l => l.visible t && !l.tomb))

/-- The list of an index is live at step t. -/
def Shard.isLive (sh : Shard) (i t : Nat) : Bool := match sh.at i t with | some l => !l.tomb | none => false

/-- The index is a tombstone at step t. -/
def Shard.isTomb (sh : Shard) (i t : Nat) : Bool := match sh.at i t with | some l => l.tomb | none => false

/-- Edges and entry centroids that a query of step t uses (R74). -/
def Shard.graphAt (sh : Shard) (t : Nat) : Tab (List Nat) × List Nat :=
  match sh.oldGraph with
  | some (u, e, n) => if t < u then (e, n) else (sh.edges, sh.entry)
  | none => (sh.edges, sh.entry)

/-- The centroid of an index at step t. -/
def Shard.cent (sh : Shard) (i t : Nat) : List Int := match sh.at i t with | some l => l.centroid | none => []

/-- Entries of a list committed at steps below t (R37). -/
def LList.len (l : LList) (t : Nat) : Nat := tget 0 l.ring (t % 16)

/-! ### Routing -/

/-- reach(e) of R73 and the paths abandoned at a third tombstone: the argument is how many tombstones may still be
followed. -/
def Shard.reach (sh : Shard) (edges : Tab (List Nat)) (t : Nat) : Nat → Nat → List Nat × Nat
  | 0, i => if sh.isLive i t then ([i], 0) else if sh.isTomb i t then ([], 1) else ([], 0)
  | d + 1, i =>
    if sh.isLive i t then ([i], 0)
    else if sh.isTomb i t then
      (tget [] edges i).foldl (fun a e => let r := Shard.reach sh edges t d e; (a.1 ++ r.1, a.2 + r.2)) ([], 0)
    else ([], 0)

/-- A scored centroid orders before another: by key, then by index (R62). -/
def keyLe (a b : Int × Nat) : Bool := decide (a.1 < b.1 ∨ (a.1 = b.1 ∧ a.2 ≤ b.2))

/-- What a walk has: beam, visited, expanded, and abandoned paths. -/
structure Walk where
  beam : List (Int × Nat)
  visited : List Nat
  expanded : List Nat
  depth : Nat
  deriving DecidableEq, Repr

/-- Score a centroid into the beam, of which the best b stay. -/
def Walk.visit (k : Walk) (key : Nat → Int) (b n : Nat) : Walk :=
  if k.visited.contains n then k
  else { k with visited := n :: k.visited, beam := (insSorted keyLe (key n, n) k.beam).take b }

/-- Walk from what an edge reaches. -/
def Walk.follow (k : Walk) (key : Nat → Int) (b : Nat) (r : List Nat × Nat) : Walk :=
  let k1 := r.1.foldl (fun a n => a.visit key b n) k
  { k1 with depth := k1.depth + r.2 }

/-- The expansions of a walk (R72): the fuel is ROUTE_MAXEXP; true when it ran out. -/
def Shard.expand (sh : Shard) (edges : Tab (List Nat)) (t : Nat) (key : Nat → Int) (b : Nat) : Nat → Walk → Walk × Bool
  | 0, k => (k, true)
  | fuel + 1, k =>
    match k.beam.find? (fun e => !k.expanded.contains e.2) with
    | none => (k, false)
    | some c =>
      let k1 := { k with expanded := c.2 :: k.expanded }
      let k2 := (tget [] edges c.2).foldl (fun a e => a.follow key b (sh.reach edges t 2 e)) k1
      Shard.expand sh edges t key b fuel k2

/-- The centroid-graph walk of R72 over a graph: the best p of the beam, whether MAXEXP was reached, and the paths
abandoned. -/
def Shard.walk (sh : Shard) (c : CollCfg) (g : Tab (List Nat) × List Nat) (t : Nat) (q : List Int) (p : Nat) :
    List Nat × Bool × Nat :=
  let key (n : Nat) : Int := routeKey c.metric q (sh.cent n t)
  let b := max c.beam p
  let k0 : Walk := { beam := [], visited := [], expanded := [], depth := 0 }
  let starts := g.2.foldl (fun (a : Walk) e =>
    if sh.isLive e t then a.visit key (2 ^ 24) e
    else (tget [] g.1 e).foldl (fun a f => a.follow key (2 ^ 24) (sh.reach g.1 t 2 f)) a) k0
  let starts := if starts.beam.isEmpty then
      match sh.live t with | l :: _ => starts.visit key (2 ^ 24) l.idx | [] => starts
    else starts
  let r := sh.expand g.1 t key b c.maxexp starts
  ((r.1.beam.take p).map (·.2), r.2, r.1.depth)

/-- Every live list ranked by (key, index). -/
def Shard.ranked (sh : Shard) (c : CollCfg) (t : Nat) (q : List Int) : List Nat :=
  (sortBy keyLe ((sh.live t).map (fun l => (routeKey c.metric q l.centroid, l.idx)))).map (·.2)

/-- The probe lists of a query of step t, whether the walk ended at MAXEXP, and the paths abandoned (R72). -/
def Shard.route (sh : Shard) (c : CollCfg) (t : Nat) (q : List Int) (p : Nat) : List Nat × Bool × Nat :=
  if !c.graph ∨ (sh.live t).length < p then ((sh.ranked c t q).take p, false, 0)
  else sh.walk c (sh.graphAt t) t q p

/-- The list or lists an insert is assigned to from the centroids live at step t (R68, R69), with what the walk counted. -/
def Shard.assign (sh : Shard) (c : CollCfg) (t : Nat) (q : List Int) : List Nat × Bool × Nat :=
  let r := sh.route c t q 2
  let key (n : Nat) : Int := routeKey c.metric q (sh.cent n t)
  match (sortBy keyLe (r.1.map (fun n => (key n, n)))) with
  | [] => ([], r.2)
  | [a] => ([a.2], r.2)
  | a :: b :: _ =>
    if c.margin ≠ 0 ∧ (b.1 - a.1) * 256 ≤ c.margin * max (a.1.natAbs : Int) 1 then ([a.2, b.2], r.2) else ([a.2], r.2)

/-! ### Threshing -/

/-- An entry is offered to a query: not stubble, and allowed by the query's filter (R39, R78). -/
def Entry.offered (e : Entry) (fslot : Nat) : Bool := !e.stubble && (decide (fslot = 0xFF) || bit e.allow fslot)

/-- Stook entries in rank order within a shard (R109). -/
def stookLe (a b : StookEntry) : Bool :=
  decide (a.dist < b.dist ∨ (a.dist = b.dist ∧ (a.list < b.list ∨ (a.list = b.list ∧ a.pos ≤ b.pos))))

/-- One THRESH pass over a list at step t (R37, R113, R156): the best L offered entries above a floor key. -/
def LList.thresh (l : LList) (w t sketch fslot : Nat) (floor : Option (Nat × Nat)) (n : Nat) : List StookEntry :=
  let offered := ((l.entries.take (l.len t)).zipIdx).filterMap (fun e =>
    if e.1.offered fslot then
      some { dist := sketchDist w sketch e.1.sketch, slot := e.1.slot, list := l.idx, pos := e.2 : StookEntry }
    else none)
  let above := offered.filter (fun e => match floor with
    | none => true
    | some (d, p) => decide (d < e.dist ∨ (d = e.dist ∧ p < e.pos)))
  (sortBy stookLe above).take n

/-! ### Changing a shard -/

/-- Change the version of a list that is visible at step t. -/
def Shard.modList (sh : Shard) (i t : Nat) (f : LList → LList) : Shard :=
  { sh with lists := lmod (fun l => decide (l.idx = i) && l.visible t) f sh.lists }

/-- The allow bits of an entry appended now (R77, R79): 0 in a slot whose load has not completed. -/
def FilterObj.allows (o : FilterObj) (slot : Nat) : Bool := if slot < o.op.slotCount then bit o.bitmap slot else o.op.dflt

/-- The allow bits of slot number `slot`. -/
def Shard.allowBits (sh : Shard) (slot : Nat) : Nat :=
  (sh.filters.map (fun f => if f.2.completed && f.2.allows slot then 2 ^ f.1 else 0)).sum

/-- The oldest slot that a live entry or a pending pair refers to (R150; assumption 14). -/
def Shard.oldestSlot (sh : Shard) (pds : List PdsPair) : Nat :=
  let mine := (pds.filter (fun q => decide (q.coll = sh.coll ∧ q.shard = sh.num))).map (·.slot)
  ((sh.index.map (fun e => e.2.slot)) ++ mine).foldl min sh.tail

/-- The span of the shard (R150). -/
def Shard.span (sh : Shard) (pds : List PdsPair) : Nat := sh.tail - sh.oldestSlot pds

/-- An append to these lists is possible: plane capacity is left, and the span stays within the rerank ring (R141, R150). -/
def Shard.canAppend (sh : Shard) (pds : List PdsPair) (lists : List Nat) (t : Nat) : Bool :=
  lists.all (fun i => match sh.at i t with | some l => decide (l.entries.length < l.capacity) | none => false) &&
  !lists.isEmpty && decide (sh.tail + 1 - sh.oldestSlot pds ≤ sh.slotCap)

/-- Append a record to its lists at the commit of step t (R140). -/
def Shard.append (sh : Shard) (t : Nat) (rec : Rerank) (sketch : Nat) (lists : List Nat) (renewed : Bool) : Shard :=
  let slot := sh.tail
  let allow := sh.allowBits (slot % 2 ^ 40)
  let places := lists.map (fun i => (i, match sh.at i t with | some l => l.entries.length | none => 0))
  let sh1 := (lists.zipIdx).foldl (fun a e => a.modList e.1 t (fun l => { l with entries := l.entries ++
    [{ slot := slot, spill := decide (e.2 = 1), moved := false, stubble := false, allow := allow, sketch := sketch }] })) sh
  { sh1 with tail := slot + 1, store := tput sh1.store slot rec,
             index := tput sh1.index rec.record { slot := slot, renewed := renewed, at_ := places },
             idxWas := sh1.idxWas ++ [(rec.record, t, tfind sh1.index rec.record)] }

/-- Retire a record at the commit of step t: the pair for the pending-delete set, and the index without it (R38, R140). -/
def Shard.retire (sh : Shard) (t record : Nat) (e : IdxEntry) : Shard × PdsPair :=
  ({ sh with index := tdel sh.index record, idxWas := sh.idxWas ++ [(record, t, some e)] },
   { coll := sh.coll, shard := sh.num, slot := e.slot, step := t, at_ := e.at_ })

/-- The record index entry committed below step t (R142). -/
def Shard.indexBelow (sh : Shard) (record t : Nat) : Option IdxEntry :=
  match sh.idxWas.find? (fun w => decide (w.1 = record ∧ t ≤ w.2.1)) with
  | some w => w.2.2
  | none => tfind sh.index record

/-- Slots and lists of an outcome (R144). -/
def outcomeOf (status code : Nat) (new old : Option Nat) (lists : List Nat) : MutOutcome :=
  { status := status, outcome := code, newSlot := (new.map (· % 2 ^ 40)).getD 0xFFFFFFFFFF,
    oldSlot := (old.map (· % 2 ^ 40)).getD 0xFFFFFFFFFF, list0 := lists.getD 0 0xFFFFFF, list1 := lists.getD 1 0xFFFFFF }

/-- Apply one staged mutation at the commit of step t (R140, R141), against the state left by those before it. -/
def Shard.applyOne (sh : Shard) (pds : List PdsPair) (t : Nat) (g : Staged) : Shard × List PdsPair × MutOutcome :=
  let m := g.m
  let rec_ : Rerank := { record := m.record, scale := m.xscale, zero := m.xzero, vec := m.vec }
  if g.withheld then (sh, pds, MutOutcome.notApplied 2)
  else match m.op, tfind sh.index m.record with
    | 0x11, none => (sh, pds, outcomeOf 0 4 none none [])
    | 0x11, some e => let r := sh.retire t m.record e; (r.1, pds ++ [r.2], outcomeOf 0 2 none (some e.slot) [])
    | 0x10, some _ => (sh, pds, outcomeOf 0 3 none none [])
    | _, none =>
      if sh.canAppend pds g.lists t then
        (sh.append t rec_ g.sketch g.lists false, pds, outcomeOf 0 0 (some sh.tail) none g.lists)
      else (sh, pds, MutOutcome.notApplied 3)
    | _, some e =>
      if sh.canAppend pds g.lists t then
        let r := sh.retire t m.record e
        (r.1.append t rec_ g.sketch g.lists false, pds ++ [r.2], outcomeOf 0 1 (some sh.tail) (some e.slot) g.lists)
      else (sh, pds, MutOutcome.notApplied 3)

/-- The ring entries for step t + 1, written at the commit of t (R37). -/
def Shard.writeRings (sh : Shard) (t : Nat) : Shard :=
  { sh with lists := sh.lists.map (fun l =>
      if l.visible (t + 1) && !l.tomb then { l with ring := tset 0 l.ring ((t + 1) % 16) l.entries.length } else l) }

/-! ### Renewal (R150) -/

/-- Renewal is in force after a commit, from its state before (R150). -/
def Shard.renewalNow (sh : Shard) (pds : List PdsPair) : Bool :=
  let span := sh.span pds
  if sh.renewing then decide (7 * sh.slotCap ≤ 8 * span) else decide (15 * sh.slotCap ≤ 16 * span)

/-- The oldest live record: its identifier and index entry. -/
def Shard.oldestLive (sh : Shard) : Option (Nat × IdxEntry) :=
  sh.index.foldl (fun b e => match b with
    | none => some e
    | some x => if e.2.slot < x.2.slot then some e else some x) none

/-- Renew up to n of the oldest live records at the commit of step t, as a REPLACE with the record's own vector; a
renewal that would exceed the ring is not made. The number made is returned. -/
def Shard.renew (c : CollCfg) (t : Nat) : Nat → Shard → List PdsPair → Shard × List PdsPair × Nat
  | 0, sh, pds => (sh, pds, 0)
  | n + 1, sh, pds =>
    match sh.oldestLive with
    | none => (sh, pds, 0)
    | some (id, e) =>
      match tfind sh.store e.slot with
      | none => (sh, pds, 0)
      | some rec_ =>
        match c.form rec_.scale rec_.zero rec_.vec with
        | none => (sh, pds, 0)
        | some (rf, _) =>
          let lists := (sh.assign c t rf).1
          if sh.canAppend pds lists t then
            let r := sh.retire t id e
            let sh1 := r.1.append t rec_ (sketchOf c.proj c.offs rf) lists true
            let q := Shard.renew c t n sh1 (pds ++ [r.2])
            (q.1, q.2.1, q.2.2 + 1)
          else (sh, pds, 0)

/-! ### Upkeep -/

/-- Round half to even of a quotient. -/
def rneDiv (a : Int) (n : Nat) : Int :=
  let q := a / n
  let r := a % n
  if 2 * r < n then q else if (n : Int) < 2 * r then q + 1 else if q % 2 = 0 then q else q + 1

/-- The mean of routing forms, each element rounded half to even (R82). -/
def meanForm (dim : Nat) (fs : List (List Int)) : List Int :=
  (List.range dim).map (fun i => rneDiv ((fs.map (fun f => f.getD i 0)).foldl (· + ·) 0) fs.length)

/-- Entries of a list version that an action at a step's commit carries: not stubble, and no delete pending (R82, R147). -/
def LList.carried (l : LList) (sh : Shard) (pds : List PdsPair) (n : Nat) : List (Nat × Entry) :=
  ((l.entries.take n).zipIdx).filterMap (fun e =>
    if e.1.stubble || pds.any (fun q => decide (q.coll = sh.coll ∧ q.shard = sh.num ∧ q.slot = e.1.slot)) then none
    else some (e.2, e.1))

/-- The routing form of a slot's record. -/
def Shard.formOf (sh : Shard) (c : CollCfg) (slot : Nat) : List Int :=
  match tfind sh.store slot with
  | some r => match c.form r.scale r.zero r.vec with | some f => f.1 | none => []
  | none => []

/-- The first centroid is at least as good for a form (ties go to the lower new index). -/
def toFirst (metric : Nat) (ca cb f : List Int) : Bool := decide (routeKey metric f ca ≤ routeKey metric f cb)

/-- One round of assignment and mean; an empty group keeps its centroid (R82). -/
def splitRound (c : CollCfg) (fs : List (List Int)) (ab : List Int × List Int) : List Int × List Int :=
  let ga := fs.filter (fun f => toFirst c.metric ab.1 ab.2 f)
  let gb := fs.filter (fun f => !toFirst c.metric ab.1 ab.2 f)
  (if ga.isEmpty then ab.1 else meanForm c.dim ga, if gb.isEmpty then ab.2 else meanForm c.dim gb)

/-- The two centroids of a split, none when a group is empty in the fourth round (R82). -/
def splitCentroids (c : CollCfg) (fs : List (List Int)) : Option (List Int × List Int) :=
  match fs with
  | [] => none
  | f0 :: _ =>
    let far := fs.foldl (fun b f => if routeKey c.metric f0 b < routeKey c.metric f0 f then f else b) f0
    let c3 := splitRound c fs (splitRound c fs (splitRound c fs (f0, far)))
    if fs.all (fun f => toFirst c.metric c3.1 c3.2 f) ∨ fs.all (fun f => !toFirst c.metric c3.1 c3.2 f) then none
    else some (splitRound c fs c3)

/-- An action is in its window on a list (R81). -/
def Shard.busy (sh : Shard) (i : Nat) : Bool :=
  sh.upkeep.any (fun u => decide (u.list = i) || (match u.kind with | .merge g _ => decide (g = i) | _ => false))

/-- The two lowest free list indices (R63, R82). -/
def Shard.freeIdx (sh : Shard) : List Nat :=
  let used := sh.lists.map (·.idx) ++ (sh.upkeep.map (fun u => match u.kind with | .split a b _ _ => [a, b] | _ => [])).flatten
  ((List.range (used.length + 2)).filter (fun i => !used.contains i && decide (i < 0xFFFFFF))).take 2

/-- Live length: committed length less the stubble count (R81). -/
def LList.liveLen (l : LList) : Nat := l.entries.countP (fun e => !e.stubble)

/-- The action that R81 triggers on a list after the commit of step s, or a suppressed split to count (R83). -/
def Shard.trigger (sh : Shard) (c : CollCfg) (pds : List PdsPair) (s : Nat) (l : LList) : Option UpkeepKind × Bool :=
  let stub := l.entries.length - l.liveLen
  let live := sh.live (s + 1)
  if c.splitLen < l.liveLen then
    if (match l.noSplit with | none => true | some n => decide (c.splitLen ≤ 4 * (l.liveLen - n))) then
      match sh.freeIdx with
      | [a, b] =>
        if !c.graph ∧ 262144 ≤ live.length then (none, true)
        else match splitCentroids c ((l.carried sh pds l.entries.length).map (fun e => sh.formOf c e.2.slot)) with
          | some (ca, cb) => (some (.split a b ca cb), false)
          | none => (some (.suppress l.liveLen), false)
      | _ => (none, true)
    else (none, false)
  else if l.liveLen < c.mergeLen ∧ 1 < live.length then
    match sortBy keyLe ((live.filter (fun x => decide (x.idx ≠ l.idx))).map (fun x => (routeKey c.metric l.centroid x.centroid, x.idx))) with
    | [] => (none, false)
    | (_, g) :: _ =>
      if sh.busy g then (none, false)
      else match sh.at g (s + 1) with
        | none => (none, false)
        | some tg =>
          let fs := (tg.carried sh pds tg.entries.length ++ l.carried sh pds l.entries.length).map (fun e => sh.formOf c e.2.slot)
          (some (.merge g (if fs.isEmpty then tg.centroid else meanForm c.dim fs)), false)
  else if stub ≠ 0 ∧ c.compactFrac * l.entries.length ≤ 256 * stub then (some .compact, false)
  else (none, false)

/-- Evaluate every list after the commit of step s (R81): the shard with its new actions, and the splits suppressed. -/
def Shard.evaluate (sh : Shard) (c : CollCfg) (pds : List PdsPair) (s : Nat) : Shard × Nat :=
  (sh.live (s + 1)).foldl (fun a l =>
    if a.1.busy l.idx then a
    else match a.1.trigger c pds s l with
      | (some k, _) => ({ a.1 with upkeep := a.1.upkeep ++ [{ list := l.idx, trigger := s, due := s + c.lag, kind := k, built := false }] }, a.2)
      | (none, sup) => (a.1, a.2 + b2n sup)) (sh, 0)

/-- A list version made at the commit of e of carried entries, each with MOVED set (R82, R147). -/
def newList (old : LList) (i e : Nat) (cent : List Int) (es : List (Nat × Nat × Entry)) : LList :=
  let entries := es.map (fun x => { x.2.2 with moved := true })
  { idx := i, capacity := max old.capacity entries.length, ring := tset 0 [] ((e + 1) % 16) entries.length,
    entries := entries, centroid := cent, tomb := false, born := e + 1, retired := 0, noSplit := none, place := old.place }

/-- The tombstone of a list (R73, R149). -/
def tombOf (old : LList) (e : Nat) : LList :=
  { old with capacity := 0, ring := [], entries := [], tomb := true, born := e + 1, retired := 0, noSplit := none }

/-- Where carried entries move: from (list, position) to (list, position). -/
def movesOf (i : Nat) (es : List (Nat × Nat × Entry)) : List ((Nat × Nat) × (Nat × Nat)) :=
  (es.zipIdx).map (fun x => ((x.1.1, x.1.2.1), (i, x.2)))

/-- Retire the visible version of a list from step e + 1. -/
def Shard.endList (sh : Shard) (i e : Nat) : Shard := sh.modList i e (fun l => { l with retired := e + 1 })

/-- Take effect at the commit of e (R147): the new versions, the ended ones and the moves. -/
def Shard.act (sh : Shard) (c : CollCfg) (pds : List PdsPair) (e : Nat) (u : Upkeep) :
    Shard × List ((Nat × Nat) × (Nat × Nat)) :=
  match sh.at u.list e with
  | none => (sh, [])
  | some l =>
    let mine := (l.carried sh pds l.entries.length).map (fun x => (l.idx, x.1, x.2))
    match u.kind with
    | .suppress n => (sh.modList u.list e (fun l => { l with noSplit := some n }), [])
    | .compact =>
      (let s1 := sh.endList l.idx e
       { s1 with lists := s1.lists ++ [newList l l.idx e l.centroid mine] }, movesOf l.idx mine)
    | .split a b ca cb =>
      let ga := mine.filter (fun x => toFirst c.metric ca cb (sh.formOf c x.2.2.slot))
      let gb := mine.filter (fun x => !toFirst c.metric ca cb (sh.formOf c x.2.2.slot))
      let s1 := sh.endList l.idx e
      ({ s1 with lists := s1.lists ++ [newList l a e ca ga, newList l b e cb gb, tombOf l e] }, movesOf a ga ++ movesOf b gb)
    | .merge g cent =>
      match sh.at g e with
      | none => (sh, [])
      | some tg =>
        let all := (tg.carried sh pds tg.entries.length).map (fun x => (tg.idx, x.1, x.2)) ++ mine
        let s1 := (sh.endList l.idx e).endList g e
        ({ s1 with lists := s1.lists ++ [newList tg g e cent all, tombOf l e] }, movesOf g all)

/-- The record index names the new positions from step e + 1 (R142, R148). -/
def Shard.moveIndex (sh : Shard) (e : Nat) (mv : List ((Nat × Nat) × (Nat × Nat))) : Shard :=
  let go (x : Nat × Nat) : Nat × Nat := match mv.find? (fun m => decide (m.1 = x)) with | some m => m.2 | none => x
  { sh with index := sh.index.map (fun e => (e.1, { e.2 with at_ := e.2.at_.map go })),
            idxWas := sh.idxWas ++ (sh.index.filter (fun x => decide (x.2.at_.map go ≠ x.2.at_))).map (fun x => (x.1, e, some x.2)) }

/-- Make an edge from t to the new centroid n (R149). -/
def Shard.link (sh : Shard) (c : CollCfg) (edges : Tab (List Nat)) (step t n : Nat) : Tab (List Nat) :=
  let es := tget [] edges t
  let key (x : Nat) : Int := routeKey c.metric (sh.cent t step) (sh.cent x step)
  if es.length < c.degree then tput edges t (es ++ [n])
  else
    match (es.zipIdx).reverse.find? (fun x => !sh.isLive x.1 step) with
    | some w => tput edges t (lset es w.2 n)
    | none =>
      match (es.zipIdx).foldl (fun (b : Option (Nat × Nat)) x => match b with
          | none => some x
          | some y => if keyLe (key y.1, y.1) (key x.1, x.1) then some x else some y) none with
      | some w => if key n < key w.1 then tput edges t (lset es w.2 n) else edges
      | none => edges

/-- Link the two centroids of a split into a graph, as seen at a step (R149). -/
def Shard.repair (sh : Shard) (c : CollCfg) (step : Nat) (g : Tab (List Nat) × List Nat) (a b : Nat) : Tab (List Nat) × List Nat :=
  [a, b].foldl (fun g n =>
    let p := c.degree + 1
    let cent := sh.cent n step
    let near := if (sh.live step).length ≤ p then sh.ranked c step cent else (sh.walk c g step cent p).1
    let es := (near.filter (fun x => decide (x ≠ n))).take c.degree
    (es.foldl (fun e t => sh.link c e step t n) (tput g.1 n es), g.2)) g

/-- The splits among actions, in (trigger, list) order. -/
def splitsOf (us : List Upkeep) : List (Nat × Nat) :=
  us.filterMap (fun u => match u.kind with | .split a b _ _ => some (a, b) | _ => none)

/-- Actions in order of trigger step and list index (R149). -/
def upkeepOrder (us : List Upkeep) : List Upkeep :=
  sortBy (fun a b => decide (a.trigger < b.trigger ∨ (a.trigger = b.trigger ∧ a.list ≤ b.list))) us

/-- The actions due at the commit of e take effect (R147 to R149): the shard, and what took effect. -/
def Shard.upkeepDue (sh : Shard) (c : CollCfg) (pds : List PdsPair) (e : Nat) : Shard × List Upkeep :=
  let due := upkeepOrder (sh.upkeep.filter (fun u => decide (u.due = e)))
  let r := due.foldl (fun (a : Shard × List ((Nat × Nat) × (Nat × Nat))) u => let q := a.1.act c pds e u; (q.1, a.2 ++ q.2)) (sh, [])
  let sh1 := r.1.moveIndex e r.2
  let sh1 := { sh1 with upkeep := sh1.upkeep.filter (fun u => decide (u.due ≠ e)) }
  let splits := splitsOf due
  if !c.graph ∨ splits.isEmpty then (sh1, due)
  else
    let old := (sh1.edges, sh1.entry)
    let g := splits.foldl (fun g x => sh1.repair c (e + 1) g x.1 x.2) old
    ({ sh1 with edges := g.1, entry := g.2,
                oldGraph := match sh1.oldGraph with | some o => some o | none => some (e + 1, old.1, old.2),
                rebuild := sh1.rebuild.map (fun b => { b with
                  done := b.done.map (fun g => splits.foldl (fun g x => sh1.repair c (e + 1) g x.1 x.2) g)
                  splits := b.splits ++ splits }) }, due)

/-- A rebuild begins after the commit of s when tombstones reach REBUILD_FRAC/256 of the graph's centroids (R74). -/
def Shard.rebuildCheck (sh : Shard) (c : CollCfg) (s : Nat) : Shard :=
  let vis := sh.lists.filter (fun l => l.visible (s + 1))
  let tombs := vis.countP (·.tomb)
  if c.graph ∧ sh.rebuild.isNone ∧ tombs ≠ 0 ∧ c.rebuildFrac * vis.length ≤ 256 * tombs then
    { sh with rebuild := some { trigger := s, done := none, splits := [], serves := s + c.graphLag } }
  else sh

/-- A finished rebuild takes effect for step e + 1 at the commit of e (R74): its tombstones are gone. -/
def Shard.rebuildDue (sh : Shard) (e : Nat) : Shard × Bool :=
  match sh.rebuild with
  | some { trigger := s, done := some g, serves := v, .. } =>
    if v = e + 1 then
      ({ sh with oldGraph := match sh.oldGraph with | some o => some o | none => some (e + 1, sh.edges, sh.entry),
                 edges := g.1, entry := g.2, rebuild := none, gen := sh.gen + 1,
                 lists := lmod (fun l => l.tomb && l.visible (e + 1) && (tfind g.1 l.idx).isNone && decide (l.born ≤ s + 1))
                   (fun l => { l with retired := e + 1 }) sh.lists }, true)
    else (sh, false)
  | _ => (sh, false)

/-! ### What ends with the last query of a step -/

/-- Convert a pair into stubble: the entries it names, on the version in force at its step (R39, R148). -/
def Shard.convert (sh : Shard) (q : PdsPair) : Shard :=
  q.at_.foldl (fun a x => a.modList x.1 q.step (fun l => { l with entries :=
    match l.entries[x.2]? with | some e => lset l.entries x.2 { e with stubble := true } | none => l.entries })) sh

/-- Let go of what only queries of steps below `oldest` used (R57, R74, R77, R148): ended lists, an old graph, retired
filter objects whose load has completed, and index history more than 16 steps old. -/
def Shard.sweep (sh : Shard) (oldest committed : Nat) : Shard :=
  { sh with lists := sh.lists.filter (fun l => decide (l.retired = 0 ∨ oldest < l.retired)),
            oldGraph := match sh.oldGraph with | some o => if o.1 ≤ oldest then none else some o | none => none,
            filters := sh.filters.filter (fun f => match f.2.retiredAt with
              | some r => !(f.2.completed && decide (r ≤ committed ∧ r < oldest))
              | none => true),
            idxWas := sh.idxWas.filter (fun w => decide (committed < w.2.1 + 16)) }

/-- Place every allow bit of a filter slot (R76, R79). -/
def Shard.placeFilter (sh : Shard) (f : Nat) (o : FilterObj) : Shard :=
  let bitsOf (e : Entry) : Nat :=
    let now := bit e.allow f
    let want := o.allows (e.slot % 2 ^ 40)
    if now = want then e.allow else e.allow ^^^ 2 ^ f
  { sh with lists := sh.lists.map (fun l => { l with entries := l.entries.map (fun e => { e with allow := bitsOf e }) }) }

end Sys2Proof.Machine
end

