-- ==== Sys2Proof/Machine/Query.lean ====
section
/-! DEFINITION. The query path: admission and distribution (R93, R94, R473), routing, threshing, winnowing and gleaning on
a serving node (R72, R113 to R117, R156 to R164), and the merge tree with the final sheaf (R100 to R106, R118 to R132,
R470). -/

namespace Sys2Proof.Machine

open Sys2Proof

/-! ### Operations held for the horizon (R41, R473) -/

/-- The operation's step and identity as the node holds it. -/
def heldOf (id : OpId) (opcode : Nat) : HeldOp :=
  { step := id.step, seq := id.seq, admitter := id.admitter, opcode := opcode, released := false }

/-- A held operation is the one of an identity. -/
def HeldOp.is (o : HeldOp) (id : OpId) : Bool := decide (o.step = id.step ∧ o.seq = id.seq ∧ o.admitter = id.admitter)

/-- Hold an announced operation (R473). -/
def State.holdOp (s : State) (id : OpId) (opcode : Nat) : State :=
  if s.stp.ops.any (·.is id) then s else s.modStp fun k => { k with ops := k.ops ++ [heldOf id opcode] }

/-- The lowest step of an operation this node still holds work of, else the step after the last one committed (R39). -/
def State.oldestWork (s : State) : Nat :=
  (s.stp.ops.map (·.step)).foldl min (s.get Reg.STEP_COMMITTED + 1)

/-- Change the embedding service's state. -/
def State.modEmb (s : State) (f : EmbSt → EmbSt) : State := { s with emb := f s.emb }

/-- EMB_UNDO and EMB_RUN show the undo set (R289, R295). -/
def State.showUndo (s : State) : State :=
  let ent (t : Nat) : Option Nat := (List.range 1024).find? (fun i => decide (s.get (Reg.EMB_TABLE_TABLE i) = t ∧ s.get (Reg.EMB_TABLE_PARTITION i) ≠ 0))
  let bytes := (s.emb.undo.map (fun u => 12 * s.get (Reg.EMB_TABLE_DIM ((ent (u.2.1 / 2 ^ 32)).getD 0)))).sum
  let tabs := ((s.emb.undo.map (fun u => u.2.1 / 2 ^ 32)).dedup)
  let s := s.set Reg.EMB_UNDO (cdiv bytes (2 ^ 20))
  tabs.foldl (fun s t => match ent t with
    | some i => s.set (Reg.EMB_RUN_UNDO_ROWS i) (s.emb.undo.countP (fun u => decide (u.2.1 / 2 ^ 32 = t)))
    | none => s) s

/-- Undo copies and old copies of migrated rows that no look-up of their step or earlier can still need are released
(R289, R292). -/
def State.sweepEmb (s : State) (old : Nat) : State :=
  if s.emb.undo.isEmpty && s.emb.old.isEmpty then s
  else
    let gone := s.emb.undo.filter (fun u => decide (u.1 < old))
    let tabs := (gone.map (fun u => u.2.1 / 2 ^ 32)).dedup
    let s := tabs.foldl (fun s t => match (List.range 1024).find? (fun i => decide (s.get (Reg.EMB_TABLE_TABLE i) = t)) with
      | some i => s.set (Reg.EMB_RUN_UNDO_ROWS i) 0
      | none => s) s
    let rel := (s.emb.old.filter (fun o => decide (o.2 < old))).map (·.1)
    (s.modEmb fun e => { e with
      undo := e.undo.filter (fun u => decide (old ≤ u.1))
      rows := e.rows.filter (fun r => !rel.contains r.1)
      old := e.old.filter (fun o => decide (old ≤ o.2)) }).showUndo

/-- Convert pending pairs of steps below every held operation, and let go of what only those read (R39, R57, R77, R148). -/
def State.sweep (s : State) : State :=
  let old := s.oldestWork
  let done := s.srch.pds.filter (fun q => decide (q.step < old))
  let conv (sh : Shard) : Shard :=
    (done.filter (fun q => decide (q.coll = sh.coll ∧ q.shard = sh.num))).foldl Shard.convert sh
  let s := s.modSrch fun k => { k with
    pds := k.pds.filter (fun q => decide (old ≤ q.step))
    shards := k.shards.map (fun sh => (conv sh).sweep old (s.get Reg.STEP_COMMITTED)) }
  (s.set Reg.STEP_PDS s.srch.pds.length).sweepEmb old

/-- Local work for an operation remains: a merge stage that has not emitted, an operation admitted here other than a
query, look-up entries not yet gathered, or a record that runs or waits here (R41). -/
def State.worksOn (s : State) (o : HeldOp) : Bool :=
  s.srch.work.any (fun w => o.is w.q.id && (!w.emitted || w.shards.any (·.rerun))) ||
  s.srch.adm.any (fun a => o.is a.id && decide (a.opcode ≠ 1)) ||
  s.emb.waiting.any (fun e => o.is e.id) || s.emb.gathers.any (fun e => o.is e.id) ||
  s.enc.backlog.any (fun e => o.is e.id) || s.enc.runs.any (fun e => o.is e.2.r.id) || s.enc.raws.any (fun e => o.is e.1)

/-- Stop holding operations that are released and finished here (R473). -/
def State.finishOps (s : State) : State :=
  if s.stp.ops.any (fun o => o.released && !s.worksOn o) then
    (s.modStp fun k => { k with ops := k.ops.filter (fun o => !(o.released && !s.worksOn o)) }).sweep
  else s

/-- Announce an operation that starts here (R473). -/
def State.announceOp (s : State) (id : OpId) (opcode : Nat) : State :=
  (s.holdOp id opcode).flood 0 1 24 none (.announce id opcode s.me)

/-- Every request of an operation has been delivered: release it (R473). -/
def State.releaseOp (s : State) (id : OpId) (opcode : Nat) : State :=
  let s := s.flood 0 1 24 none (.release id opcode s.me)
  (s.modStp fun k => { k with ops := lmod (·.is id) (fun o => { o with released := true }) k.ops }).finishOps

/-- ANNOUNCE (R473): the operation is held, and the announcement floods on; it is acknowledged when its copies are
(R361). -/
def execAnnounce (id : OpId) (opcode src : Nat) (s : State) :=
  nodeEvt s (fun s =>
    let first := s.ovl.nextMsg
    (((s.holdOp id opcode).flood 0 1 24 (some src) (.announce id opcode s.me))).awaitCopies src first)

/-- RELEASE (R473): the operation is held no longer than this node's own work for it. -/
def execRelease (id : OpId) (opcode src : Nat) (s : State) :=
  nodeEvt s (fun s =>
    let s := s.flood 0 1 24 (some src) (.release id opcode s.me)
    (s.modStp fun k => { k with ops := lmod (·.is id) (fun o => { o with released := true }) k.ops }).finishOps)

/-! ### A running query -/

/-- The work of a query on this node. -/
def State.work? (s : State) (id : OpId) : Option QWork := s.srch.work.find? (fun w => decide (w.q.id = id))

/-- Change the work of a query. -/
def State.modWork (s : State) (id : OpId) (f : QWork → QWork) : State :=
  s.modSrch fun k => { k with work := lmod (fun w => decide (w.q.id = id)) f k.work }

/-- Change the work of a query on one shard. -/
def State.modShardWork (s : State) (id : OpId) (n : Nat) (f : ShardWork → ShardWork) : State :=
  s.modWork id (fun w => { w with shards := lmod (fun x => decide (x.shard = n)) f w.shards })

/-- A shard of a collection that this node holds. -/
def State.shard? (s : State) (h n : Nat) : Option Shard := s.srch.shards.find? (fun x => decide (x.coll = h ∧ x.num = n))

/-- Change a shard. -/
def State.modShard (s : State) (h n : Nat) (f : Shard → Shard) : State :=
  s.modSrch fun k => { k with shards := lmod (fun x => decide (x.coll = h ∧ x.num = n)) f k.shards }

/-- This node serves a shard it holds: as its owner, or as its mirror while the owner is no member (R49). -/
def State.serves (s : State) (sh : Shard) : Bool := decide (sh.owner = s.me) || (decide (sh.mirror = s.me) && !s.isMember sh.owner)

/-- The membership at step t as far as it still stands: without the nodes excluded since, nor those joined since (R119). -/
def State.forStep (s : State) (t : Nat) : State :=
  match s.stp.was.reverse.find? (fun w => decide (t < w.1)) with
  | some w => s.set Reg.STEP_MEMBERS (w.2 &&& s.get Reg.STEP_MEMBERS)
  | none => s

/-- Shards of a collection this node serves, ascending. -/
def State.servedShards (s : State) (h : Nat) : List Nat :=
  (s.srch.shards.filter (fun sh => decide (sh.coll = h) && s.serves sh)).map (·.num)

/-- Work not yet begun on a shard. -/
def ShardWork.fresh (n : Nat) (rerun : Bool) : ShardWork :=
  { shard := n, routed := false, passes := [], pool := [], cands := none, gleaned := [], sheaf := none, rerun := rerun }

/-- The worse of two share statuses in the order of R11: 5, 2, 10, 7, and 0 for none. -/
def worse (a b : Nat) : Nat := (([5, 2, 10, 7].find? (fun x => decide (x = a ∨ x = b))).getD 0)

/-- An imposed status on a query's work here. -/
def State.spoil (s : State) (id : OpId) (status : Nat) : State := s.modWork id (fun w => { w with bad := worse w.bad status })

/-- The bytes of a merge buffer (R129). -/
def mergeBuf (shards k : Nat) : Nat := 112 + 8 * cdiv shards 64 + 24 * k

/-- A pool of 32 MiB (R128, R129). -/
def poolBytes : Nat := 32 * 2 ^ 20

/-- Queries in reservation order (R130). -/
def orderLe (a b : OpId) : Bool :=
  decide (a.step < b.step ∨ (a.step = b.step ∧ (a.admitter < b.admitter ∨ (a.admitter = b.admitter ∧ a.seq ≤ b.seq))))

/-- Bytes the merge stage of a query reserves: its inputs and its output (R129). -/
def State.mergeNeed (s : State) (w : QWork) : Nat :=
  (w.await.length + (if w.shards.isEmpty then 0 else 1) + 1) * mergeBuf (s.get (Reg.COLL_DESC_SHARDS w.q.handle)) w.q.k

/-- Grant merge reservations in order while the pool has room (R129, R130). -/
def State.grantMerge (s : State) : Nat → State
  | 0 => s
  | fuel + 1 =>
    let used := (s.srch.work.map (fun w => w.mergeRes.getD 0)).sum
    match (sortBy (fun a b => orderLe a.q.id b.q.id) (s.srch.work.filter (fun w => w.mergeRes.isNone))) with
    | [] => s
    | w :: _ =>
      if used + s.mergeNeed w ≤ poolBytes then
        (s.modWork w.q.id (fun x => { x with mergeRes := some (s.mergeNeed w) })).grantMerge fuel
      else s

/-- The stook length L of a query (R113). -/
def stookLen (q : Query) : Nat := min q.rs 64

/-- Bytes of stook buffers a routed query needs (R128). -/
def QWork.stookNeed (w : QWork) : Nat := ((w.shards.map (fun x => x.passes.length)).sum) * stookLen w.q * 16

/-- Every shard of a query is routed on this node. -/
def QWork.allRouted (w : QWork) : Bool := w.shards.all (·.routed)

/-- Grant stook reservations in order while the pool has room (R128, R130). -/
def State.grantStook (s : State) : Nat → State
  | 0 => s
  | fuel + 1 =>
    let used := (s.srch.work.map (fun w => w.stookRes.getD 0)).sum
    match (sortBy (fun a b => orderLe a.q.id b.q.id)
        (s.srch.work.filter (fun w => w.stookRes.isNone && w.allRouted && !w.shards.isEmpty))) with
    | [] => s
    | w :: _ =>
      if used + w.stookNeed ≤ poolBytes then
        (s.modWork w.q.id (fun x => { x with stookRes := some w.stookNeed })).grantStook fuel
      else s

/-- Grant what can be granted. -/
def State.grantPools (s : State) : State :=
  let n := s.srch.work.length + 1
  (s.grantMerge n).grantStook n

/-! ### Merging (R117, R120) -/

/-- A sheaf with no entries. -/
def Sheaf.empty : Sheaf :=
  { entries := [], ties := 0, invalid := 0, chaffCount := 0, grainAcc := 0, chaffAcc := 0, cover := [], rerun := none, bad := 0 }

/-- The rank of a sheaf entry as a list of numbers compared in order: R120, with the record after the score in G1. -/
def entryRank (g1 : Bool) (e : SheafEntry) : List Nat :=
  key32 e.score :: ((if g1 then [e.record] else []) ++ [e.primary, e.list, e.pos])

/-- Lexicographic order of ranks. -/
def rankLe : List Nat → List Nat → Bool
  | [], _ => true
  | _, [] => false
  | a :: x, b :: y => decide (a < b) || (decide (a = b) && rankLe x y)

/-- Remove all but the entry of least rank of each record from a sorted list; the number removed (R116, R120). -/
def dedupRecords : List SheafEntry → List Nat → List SheafEntry × Nat
  | [], _ => ([], 0)
  | e :: es, seen =>
    if seen.contains e.record then let r := dedupRecords es seen; (r.1, r.2 + 1)
    else let r := dedupRecords es (e.record :: seen); (e :: r.1, r.2)

/-- The weight of a rank key for a query (R97). -/
def State.weight (s : State) (q : Query) (score : Nat) : Nat :=
  if q.map = 0xFFFFFFFF then 2 ^ 32
  else match s.mapEntry q.part q.map with
    | none => 2 ^ 32
    | some i => (tget [] s.srch.maps i).getD (mapIndex (s.get (Reg.COLL_SMAP_X0 i)) (s.get (Reg.COLL_SMAP_INV_STEP i)) score) 0

/-- Merge sheaves and cut at K (R120, R121, R124): the output and the record duplicates removed. -/
def State.mergeSheaves (s : State) (q : Query) (ins : List Sheaf) : Sheaf × Nat :=
  let sorted := sortBy (fun a b => rankLe (entryRank q.g1 a) (entryRank q.g1 b)) ((ins.map (·.entries)).flatten)
  let r := dedupRecords sorted []
  let kept := r.1.take q.k
  let dropped := r.1.drop q.k
  let ties := if kept.length = q.k then
      match kept.getLast? with
      | none => 0
      | some v => dropped.countP (fun e => decide (e.score = v.score)) +
          ((ins.filter (fun i => match i.entries.getLast? with | some x => decide (x.score = v.score) | none => false)).map (·.ties)).sum
    else 0
  ({ entries := kept, ties := ties, invalid := (ins.map (·.invalid)).sum,
     chaffCount := (ins.map (·.chaffCount)).sum + dropped.length,
     grainAcc := (kept.map (fun e => s.weight q e.score)).sum,
     chaffAcc := (ins.map (·.chaffAcc)).sum + (dropped.map (fun e => s.weight q e.score)).sum,
     cover := ((ins.map (·.cover)).flatten).dedup, rerun := none,
     bad := (ins.map (·.bad)).foldl worse 0 }, r.2)

/-- Bytes of a transit sheaf (R118). -/
def State.transitBytes (s : State) (q : Query) (sh : Sheaf) : Nat :=
  112 + 8 * cdiv (s.get (Reg.COLL_DESC_SHARDS q.handle)) 64 + 24 * sh.entries.length

/-! ### The final sheaf (R100 to R106) -/

/-- The status of a final sheaf under R11. -/
def finalStatus (total : Nat) (q : Query) (sh : Sheaf) : Nat :=
  if 128 + 16 * q.k > 64 * q.dlv.units then 5
  else if sh.bad ≠ 0 then sh.bad
  else if sh.cover.length < total then 8
  else if sh.entries.length < q.k then 1 else 0

/-- The shards not covered, ascending (R101). -/
def missingShards (total : Nat) (sh : Sheaf) : List Nat := (List.range total).filter (fun n => !sh.cover.contains n)

/-- The bytes of the final sheaf (R101, R102, R104, R132): a status without entries gives the header alone. -/
def finalBytes (total : Nat) (q : Query) (sh : Sheaf) (status : Nat) : List Byte :=
  let withEntries := decide (status = 0 ∨ status = 1 ∨ status = 7 ∨ status = 8)
  let sums := withEntries && !q.g1
  let miss := missingShards total sh
  let pb := q.dlv.phase + (if q.g1 then 2 else 0)
  let hdr := record 128 (commonFields status pb q.dlv.tag q.id.step q.id.admitter q.id.seq ++
    [(2, 2, q.handle), (16, 8, q.dlv.user), (24, 2, q.k), (26, 2, if withEntries then sh.entries.length else 0),
     (28, 4, if withEntries then sh.ties else 0),
     (32, 8, if sums then acc64 sh.grainAcc else 0), (40, 8, if sums then acc64 sh.chaffAcc else 0),
     (48, 8, if sums then sh.entries.length else 0), (56, 8, if sums then sh.chaffCount else 0),
     (64, 2, total), (66, 2, sh.cover.length), (70, 2, miss.length), (80, 8, if withEntries then sh.invalid else 0)] ++
    (List.range 8).map (fun i => (88 + 2 * i, 2, miss.getD i 0xFFFF)))
  let ent (i : Nat) : List Byte := match sh.entries[i]? with
    | some e => natLe 8 e.record ++ natLe 4 e.score ++ natLe 2 e.primary ++ natLe 2 0
    | none => natLe 8 (2 ^ 64 - 1) ++ natLe 4 (fp32.inf false) ++ natLe 2 0xFFFF ++ natLe 2 0
  sealCrc (hdr ++ (if withEntries then ((List.range q.k).map ent).flatten else [])) 104

/-- A node that is a member and that no coming STEP_COMMIT excludes, as far as this node knows. -/
def State.stays (s : State) (n : Nat) : Bool := s.isMember n && !s.stp.excludes.contains n

/-- Every shard of a query is covered, named in a re-run sheaf, or has no member holder (R122). -/
def State.allAccounted (s : State) (w : QWork) (cover : List Nat) : Bool :=
  (List.range (s.get (Reg.COLL_DESC_SHARDS w.q.handle))).all (fun n =>
    cover.contains n || w.reruns.any (fun r => decide (r.rerun = some n)) ||
    !(s.holderList w.q.handle n).any s.stays)

/-- The root writes the final sheaf through its port, to be confirmed by a flush read (R100); one that cannot be
delivered is confirmed without being written (R106). Its invalid candidates count where the query was admitted (R107). -/
def State.releaseFinal (s : State) (w : QWork) (sh : Sheaf) : State :=
  let total := s.get (Reg.COLL_DESC_SHARDS w.q.handle)
  let status := finalStatus total w.q sh
  let bytes := if 128 + 16 * w.q.k > 64 * w.q.dlv.units then
      statusSheaf 5 w.q.dlv.phase w.q.handle w.q.dlv.tag w.q.id.step w.q.dlv.user w.q.k total w.q.id.admitter w.q.id.seq
    else finalBytes total w.q sh status
  let carries := decide (status = 0 ∨ status = 1 ∨ status = 7 ∨ status = 8)
  let s := if w.q.id.admitter = s.me ∧ carries = true then s.tallyP .QRY_INVALID_SCORE w.q.part sh.invalid else s
  let s := s.modWork w.q.id (fun x => { x with emitted := true })
  (s.submitWrite { part := w.q.part, pid := w.q.dlv.pid, addr := w.q.dlv.addr, data := bytes,
                   done := .sheaf w.q.id.step w.q.id.seq w.q.id.admitter status }).finishOps

/-- The stage of a query emits when every input is present (R119, R122): to its parent, or as the final sheaf. -/
def State.tryEmit (s : State) (id : OpId) : State :=
  match s.work? id with
  | none => s
  | some w =>
    let own := w.shards.filter (fun x => !x.rerun)
    if w.emitted || w.mergeRes.isNone || !(own.isEmpty || w.kept.isSome) || !w.await.isEmpty then s
    else
      let ins := w.kept.toList ++ w.inputs.map (·.2)
      let m := s.mergeSheaves w.q ins
      let out := { m.1 with bad := worse m.1.bad w.bad }
      if w.direct.isSome then
        let s := s.modWork id (fun x => { x with emitted := true })
        match w.kept, w.direct with
        | some k, some a => (s.sendMsg w.q.part 2 0 a (s.transitBytes w.q k) (.transit id s.me { k with bad := worse k.bad w.bad } true none)).finishOps
        | _, _ => s.finishOps
      else if s.flag Reg.STEP_ROLE_IS_ROOT then
        if decide (out.bad ≠ 0) || s.allAccounted w out.cover then
          let use := w.reruns.filter (fun r => match r.rerun with | some n => !out.cover.contains n | none => false)
          let f := s.mergeSheaves w.q (out :: use)
          let s := (s.tallyP .WIN_RECORD_DUPS w.q.part (m.2 + f.2)).tallyP .WIN_RERUN_DISCARDED w.q.part (w.reruns.length - use.length)
          s.releaseFinal w f.1
        else s
      else match (s.forStep id.step).parent with
        | none => s
        | some p =>
          let s := (s.tallyP .WIN_RECORD_DUPS w.q.part m.2).modWork id (fun x => { x with emitted := true })
          (s.sendMsg w.q.part 2 0 p (s.transitBytes w.q out) (.transit id s.me out true none)).finishOps

/-! ### Admission and distribution -/

/-- The body bytes of a QUERY_DIST (R356). -/
def State.distBytes (s : State) (q : Query) : Nat :=
  let c := s.cfgOf q.handle
  40 + c.w / 8 + c.dim + c.dim * elemBytes c.elem

/-- The query has reached the node: its merge stage is formed, with its inputs, and reserves its buffers (R94, R119,
R129). -/
def State.beginQuery (s : State) (q : Query) : State :=
  let at_ := s.forStep q.id.step
  if (s.work? q.id).isSome || !at_.isMember s.me then s
  else
    let w : QWork := { q := q, shards := (at_.servedShards q.handle).map (fun n => ShardWork.fresh n false), mergeRes := none,
                       stookRes := none, kept := none, inputs := [], await := at_.childrenOf s.me, reruns := [],
                       emitted := false, bad := 0, direct := none }
    let s := (s.modSrch fun k => { k with work := k.work ++ [w] }).grantPools
    let s := s.when (decide (q.fslot ≠ 0xFF) && !s.filterLive q.handle q.fslot q.id.step) (fun t => t.spoil q.id 5)
    s.tryEmit q.id

/-- QUERY_DIST (R94): floods on, and the node takes its part. -/
def execQueryDist (q : Query) (src : Nat) (s : State) :=
  nodeEvt s (fun s => (s.flood q.part 1 (s.distBytes q) (some src) (.queryDist q s.me)).beginQuery q)

/-- Distribute a query from its admitting node, and release it behind its distribution (R94, R361, R473). -/
def State.distribute (s : State) (q : Query) : State :=
  let s := (s.flood q.part 1 (s.distBytes q) none (.queryDist q s.me)).beginQuery q
  s.releaseOp q.id 1

/-- Start a query (R31, R473): it is announced; one with a vector is distributed at once, one in raw form after its
encoding (R93). -/
def State.startQuery (s : State) (a : Admitted) : State :=
  let s := (s.modAdm a.id (fun x => { x with started := true })).announceOp a.id 1
  match a.query with
  | some q => if q.vec.isEmpty then s else s.distribute q
  | none => s

/-- The score map a query uses: the unit map, or a map of the partition (R97). -/
def State.resolveMap (s : State) (h field : Nat) : Nat :=
  let m := if field = 0 then s.get (Reg.COLL_DESC_SCORE_MAP h) else field
  if m = 0 then 0xFFFFFFFF else m

/-- The query of a taken QUERY descriptor, without its vector's forms (R89, R91, R92). -/
def State.queryOf (s : State) (t : Taken) (dlv : Delivery) : Query :=
  let d := t.data
  let h := body d 0 2 % 4096
  { id := t.id, part := t.part, handle := h, k := body d 2 2, rs := cdiv (body d 4 2) (s.get (Reg.COLL_DESC_SHARDS h)),
    probes := body d 6 2, fslot := body d 8 1,
    g1 := bit (leNat d 1 1) 0 || s.flag (Reg.PART_CFG_COMPAT t.part) || s.flag Reg.CFG_STATUS_STRAP_G1,
    map := s.resolveMap h (body d 12 4), qscale := body d 32 4, qzero := sext 8 (body d 36 1), sketch := 0, rform := [],
    vec := [], dlv := dlv }

/-- Give a query its vector: routing form and sketch, clamped elements counted (R60, R61, R94). -/
def State.formQuery (s : State) (q : Query) (scale : Nat) (zero : Int) (v : List Byte) : State × Query :=
  let c := s.cfgOf q.handle
  match c.form scale zero v with
  | none => (s, q)
  | some (rf, clamped) =>
    (s.tallyP .COLL_ROUTE_CLAMP q.part clamped,
      { q with qscale := scale, qzero := zero, rform := rf, sketch := sketchOf c.proj c.offs rf, vec := v })

/-- A query's completion at the admitting node is counted under its status (R105, R107). -/
def State.queryTally (s : State) (p status : Nat) : State :=
  match status with
  | 1 => s.tallyP .QRY_PARTIAL p
  | 2 => s.tallyP .QRY_WITHDRAWN p
  | 7 => s.tallyP .QRY_HORIZON p
  | 8 => s.tallyP .QRY_DEGRADED p
  | 10 => s.tallyP .QRY_FAILED p
  | n => s.statusTally p n

/-- A query that never runs completes at its admitting node with a status alone (R98, R104). -/
def State.endQuery (s : State) (a : Admitted) (q : Query) (status : Nat) : State :=
  let bytes := statusSheaf status (q.dlv.phase + (if q.g1 then 2 else 0)) q.handle q.dlv.tag q.id.step q.dlv.user q.k
    (s.get (Reg.COLL_DESC_SHARDS q.handle)) q.id.admitter q.id.seq
  ((s.queryTally q.part status).dropAdm a).writeSlot q.dlv bytes

/-! ### Routing -/

/-- An isolation-type fault of a lane or unit whose residue failed (R388): logged and isolated; when the rerun failed
too, the query is withheld. -/
def State.residueFault (s : State) (cls : UnitClass) (id : OpId) (f : Option (Nat × Bool)) : State :=
  match f with
  | none => s
  | some (u, ok) =>
    if ok then (s.react 4 cls u 1 0 id.seq).tallyN .SAFE_RERUNS else (s.react 4 cls u 0 1 id.seq).spoil id 2

/-! ### Threshing -/

/-- The bank of segment j of a list, as the number of its NBU (R66, R158). -/
def bankOfSeg (place : Nat × Nat × Nat × Nat) (j : Nat) : Nat := place.1 * 16 + (place.2.1 + j % max place.2.2.1 1) % 16

/-- Segments of a list that a query of step t reads (R66). -/
def LList.segments (l : LList) (w t : Nat) : Nat := cdiv (l.len t) (8192 / w)

/-- Segments of the pass that run in a fallback unit because their NBU is isolated (R165). -/
def State.fallbackSegs (s : State) (l : LList) (w t : Nat) : Nat :=
  let iso := s.get Reg.NBU_ISOLATED
  (List.range (l.segments w t)).countP (fun j => bit iso (bankOfSeg l.place j))

/-- No unit here can thresh the list: its channel has failed (R182), or the pass needs its stack's fallback thresher, which
is isolated (R394). -/
def State.noUnit (s : State) (l : LList) (w t : Nat) (failed : Bool) : Bool :=
  decide (s.get (Reg.STACK_CH_STATE l.place.1) = 1) ||
    (s.safe.noFallback.contains (l.place.1 / 64) && (failed || decide (s.fallbackSegs l w t ≠ 0)))

/-- Change the pass of a list. -/
def State.modPass (s : State) (id : OpId) (shard list : Nat) (f : ListPass → ListPass) : State :=
  s.modShardWork id shard (fun x => { x with passes := lmod (fun p => decide (p.list = list)) f x.passes })

/-- The pass of a list of a query, with the query and the shard. -/
def State.pass? (s : State) (id : OpId) (shard list : Nat) : Option (QWork × Shard × ListPass) := do
  let w ← s.work? id
  let sh ← s.shard? w.q.handle shard
  let x ← w.shards.find? (fun x => decide (x.shard = shard))
  let p ← x.passes.find? (fun p => decide (p.list = list))
  pure (w, sh, p)

/-- The stook that one pass over a list makes for a query (R37, R113, R156). -/
def State.passStook (s : State) (q : Query) (sh : Shard) (list : Nat) (floor : Option (Nat × Nat)) : List StookEntry :=
  match sh.at list q.id.step with
  | some l => l.thresh (s.cfgOf q.handle).w q.id.step q.sketch q.fslot floor (stookLen q)
  | none => []

/-- The node at the far end of a shard's pair, when it is a member (R157). -/
def State.farHolder (s : State) (h n : Nat) : Option Nat := ((s.holderList h n).filter (fun x => decide (x ≠ s.me))).find? s.isMember

/-- NBU_THRESH (R156): a pass that is asked for makes its stook. A failed check sends it to the fallback thresher
(R164); an uncorrectable chunk sends it to the shard's other holder, or fails the query (R157). -/
def execNbuThresh (id : OpId) (shard list : Nat) (fault : ThreshFault) (s : State) :=
  nodeEvt s (fun s =>
    match s.pass? id shard list with
    | none => s
    | some (w, sh, p) =>
      if !p.want || w.stookRes.isNone then s
      else
        let l := sh.at list w.q.id.step
        let c := s.cfgOf w.q.handle
        let away : Bool := match l with | some l => s.noUnit l c.w w.q.id.step (decide (fault ≠ .none)) | none => false
        let s := s.tallyN .NBU_FALLBACK_SEGMENTS (match l with | some l => (if away then 0 else s.fallbackSegs l c.w w.q.id.step) | none => 0)
        let done := s.modPass id shard list (fun p => { p with stook := some (s.passStook w.q sh list p.last), want := false })
        let far (s : State) : State :=
          match s.farHolder w.q.handle shard with
          | none => (s.modPass id shard list (fun p => { p with stook := some [], want := false })).spoil id 10
          | some n =>
            ((s.modPass id shard list (fun p => { p with want := false, far := some n })).tallyN .NBU_MIRROR_PASSES).sendMsg w.q.part 2 0 n 24
              (.stookReq id shard list p.last s.me w.q false)
        if s.srch.lostBits.contains (w.q.handle, shard, list, w.q.fslot) then
          (s.modPass id shard list (fun p => { p with stook := some [], want := false })).spoil id 10
        else match fault with
        | .none => if away then far s else done
        | .segment tail bank =>
          let t := if tail then (s.tallyN .NBU_TAIL_FAIL).setB Reg.NBU_STATUS_TAIL_FAIL_EVT true
                   else (s.tallyN .NBU_DSC_FAIL).setB Reg.NBU_STATUS_DSC_FAIL_EVT true
          let t := t.faultEvent
          if away then far (t.react 8 .nbu bank 1 0 list)
          else ((t.tallyN .NBU_FALLBACK_SEGMENTS (match l with | some l => l.segments c.w w.q.id.step | none => 0)).setB
            Reg.NBU_STATUS_FALLBACK true).modPass id shard list (fun p => { p with
            stook := some (s.passStook w.q sh list p.last), want := false, fallback := true })
        | .uncorrectable => far s)

/-- STOOK_REQ (R157): the list is threshed for the node at the other end of the pair, and the stook sent back, or the
failure of the pass here. -/
def execStookReq (id : OpId) (shard list : Nat) (floor : Option (Nat × Nat)) (src : Nat) (q : Query) (failed : Bool) (s : State) :=
  nodeEvt s (fun s =>
    match s.shard? q.handle shard with
    | none => s
    | some sh =>
      let st := s.passStook q sh list floor
      s.sendMsg q.part 2 0 src (24 + 16 * st.length)
        (.stook id shard list (if failed then none else some (st.map (fun e => (e.dist, e.slot, e.pos))))))

/-- STOOK (R157): it takes the failed pass's place; a failure there too fails the query. -/
def execStook (id : OpId) (shard list : Nat) (entries : Option (List (Nat × Nat × Nat))) (s : State) :=
  nodeEvt s (fun s =>
    match s.pass? id shard list with
    | none => s
    | some (_, _, p) =>
      if p.far.isNone then s
      else match entries with
        | some es => s.modPass id shard list (fun p => { p with
            far := none
            stook := some (es.map (fun e => { dist := e.1, slot := e.2.1, list := list, pos := e.2.2 : StookEntry })) })
        | none => (s.modPass id shard list (fun p => { p with stook := some [], far := none })).spoil id 10)

/-- FALLBACK_PASS_DONE (R164): a sound fallback pass replaces the NBU's; a failed one withdraws the query. The NBU is
isolated either way. -/
def execFallbackPassDone (id : OpId) (shard list bank : Nat) (ok : Bool) (s : State) :=
  nodeEvt s (fun s =>
    match s.pass? id shard list with
    | none => s
    | some (_, _, p) =>
      if !p.fallback then s
      else
        let s := s.modPass id shard list (fun p => { p with fallback := false })
        let s := s.showFallback
        let s := s.react 8 .nbu bank 0 (if ok then 0 else 1) list
        s.when (!ok) (fun t => t.spoil id 2))

/-! ### Winnowing -/

/-- A candidate slot is removed by the pending-delete set for a query of step t (R38). -/
def State.pendingDrop (s : State) (h n t slot : Nat) : Bool :=
  s.srch.pds.any (fun q => decide (q.coll = h ∧ q.shard = n ∧ q.slot = slot ∧ q.step < t))

/-- Collapse entries of a sorted pool that share a slot; the number removed (R114). -/
def dedupSlots : List StookEntry → List Nat → List StookEntry × Nat
  | [], _ => ([], 0)
  | e :: es, seen =>
    if seen.contains e.slot then let r := dedupSlots es seen; (r.1, r.2 + 1)
    else let r := dedupSlots es (e.slot :: seen); (e :: r.1, r.2)

/-- The pool of a shard after R114, in rank order, and the slot duplicates removed. -/
def State.poolOf (s : State) (h t : Nat) (x : ShardWork) : List StookEntry × Nat :=
  dedupSlots (sortBy stookLe (x.pool.filter (fun e => !s.pendingDrop h x.shard t e.slot))) []

/-- A list qualifies for a further stook (R115). -/
def ListPass.refill (p : ListPass) (c : Option StookEntry) : Bool :=
  p.full && (match p.last, c with
    | some (d, pos), some e => decide (d < e.dist ∨ (d = e.dist ∧ (p.list < e.list ∨ (p.list = e.list ∧ pos < e.pos))))
    | some _, none => true
    | none, _ => false)

/-- Once every stook asked for is in, lists that qualify are asked for more; with none, the candidates are the first r_s
(R114, R115; assumption 16). -/
def State.winnow (s : State) (id : OpId) (shard : Nat) : State :=
  match (s.work? id), (s.work? id).bind (fun w => w.shards.find? (fun x => decide (x.shard = shard))) with
  | some w, some x =>
    if !x.routed || x.cands.isSome || x.passes.any (fun p => p.want || p.stook.isSome || p.fallback || p.far.isSome) ||
        x.passes.any (fun p => p.last.isNone && p.full) then s
    else
      let r := s.poolOf w.q.handle w.q.id.step x
      let c := if r.1.length < w.q.rs then none else r.1[w.q.rs - 1]?
      let more := (x.passes.filter (fun p => p.refill c)).map (·.list)
      if more.isEmpty then
        (s.tallyP .WIN_SLOT_DUPS w.q.part r.2).modShardWork id shard (fun y => { y with cands := some (r.1.take w.q.rs) })
      else
        let ask (ps : List ListPass) : List ListPass := lmod (fun p => more.contains p.list) (fun p => { p with want := true }) ps
        (s.tallyP .WIN_REFILLS w.q.part more.length).modShardWork id shard (fun y => { y with passes := ask y.passes })
  | _, _ => s

/-- The two selection datapaths of a unit disagree (R131): the query is withheld and the unit isolated. -/
def State.compareFail (s : State) (id : OpId) (p : Nat) (unit : Option Nat) : State :=
  match unit with
  | none => s
  | some u => ((s.tallyP .WIN_COMPARE_FAIL p).react 5 .win u 0 1 id.seq).spoil id 2

/-- The node sheaf of a shard once every candidate has arrived (R116, R117). -/
def State.nodeSheaf (s : State) (q : Query) (sh : Shard) (x : ShardWork) : Sheaf × Nat :=
  let valid := x.gleaned.filterMap (fun g => match g.2.2 with
    | some sc => some { record := g.2.1, score := normScore sc, primary := sh.owner, list := g.1.list, pos := g.1.pos : SheafEntry }
    | none => none)
  let one : Sheaf := { Sheaf.empty with entries := valid, invalid := x.gleaned.length - valid.length, cover := [x.shard] }
  s.mergeSheaves q [one]

/-- Shares of the collection that are ready become the kept sheaf (R117), a re-run share goes to the root (R122), and
the stage emits if it can. -/
def State.shareDone (s : State) (id : OpId) : State :=
  match s.work? id with
  | none => s
  | some w =>
    let own := w.shards.filter (fun x => !x.rerun)
    if !own.isEmpty && own.all (fun x => x.sheaf.isSome) && w.kept.isNone then
      let m := s.mergeSheaves w.q (own.filterMap (·.sheaf))
      let s := s.modWork id (fun y => { y with kept := some { m.1 with bad := w.bad }, stookRes := some 0 })
      (s.tallyP .WIN_RECORD_DUPS w.q.part m.2).grantPools.tryEmit id
    else s

/-- Send a re-run share to the root, or take it there (R122). -/
def State.sendRerun (s : State) (id : OpId) (shard : Nat) : State :=
  match s.work? id with
  | none => s
  | some w =>
    match (w.shards.find? (fun x => decide (x.shard = shard) && x.rerun)).bind (·.sheaf) with
    | none => s
    | some sh =>
      let out := { sh with rerun := some shard, bad := worse sh.bad w.bad }
      let rest := w.shards.filter (fun x => decide (x.shard ≠ shard) || !x.rerun)
      let s := s.modWork id (fun y => { y with shards := rest,
                                               stookRes := if rest.all (·.sheaf.isSome) then some 0 else y.stookRes })
      if s.flag Reg.STEP_ROLE_IS_ROOT then (s.modWork id (fun y => { y with reruns := y.reruns ++ [out] })).tryEmit id
      else s.sendMsg w.q.part 2 0 (s.get Reg.STEP_ROLE_ROOT_ID) (s.transitBytes w.q out) (.transit id s.me out true none)

/-- Form the node sheaf when the shard's candidates are all gleaned. -/
def State.tryNodeSheaf (s : State) (id : OpId) (shard : Nat) : State :=
  match (s.work? id), (s.work? id).bind (fun w => w.shards.find? (fun x => decide (x.shard = shard))) with
  | some w, some x =>
    match x.cands, s.shard? w.q.handle shard with
    | some c, some sh =>
      if x.sheaf.isNone ∧ x.gleaned.length = c.length then
        let r := s.nodeSheaf w.q sh x
        let s := s.tallyP .WIN_RECORD_DUPS w.q.part r.2
        let s := s.modShardWork id shard (fun y => { y with sheaf := some r.1 })
        if x.rerun then s.sendRerun id shard else s.shareDone id
      else s
    | _, _ => s
  | _, _ => s

/-- ROUTING_COMPLETE (R72, R128): the shard's probe lists are chosen, and THRESH passes can begin once the stook buffers
are reserved. -/
def execRoutingComplete (id : OpId) (shard : Nat) (laneFault : Option (Nat × Bool)) (s : State) :=
  nodeEvt s (fun s =>
    match s.work? id, (s.work? id).bind (fun w => w.shards.find? (fun x => decide (x.shard = shard))) with
    | some w, some x =>
      match s.shard? w.q.handle shard with
      | none => s
      | some sh =>
        if x.routed || w.mergeRes.isNone then s
        else
          let c := s.cfgAt w.q.id.step w.q.handle
          let r := sh.route c w.q.id.step w.q.rform w.q.probes
          let s := s.residueFault .route id laneFault
          let s := s.when (decide (s.get Reg.SAFE_UNITS_ROUTE_ISO = 2 ^ 16 - 1)) (fun t => t.spoil id 2)
          let s := (s.tallyP .COLL_ROUTE_MAXEXP w.q.part (b2n r.2.1)).tallyP .COLL_TOMB_DEPTH w.q.part r.2.2
          let ps := r.1.map (fun i => { list := i, stook := none, full := false, last := none, want := true, fallback := false, far := none : ListPass })
          let s := (s.modShardWork id shard (fun y => { y with routed := true, passes := ps })).grantPools
          (s.winnow id shard).tryNodeSheaf id shard
    | _, _ => s)

/-- CHAIN_STOOK_DELIVERY (R115): the list's stook is merged into the pool; a disagreement of the two datapaths withholds
the query (R131). -/
def execChainStookDelivery (id : OpId) (shard list : Nat) (winFault : Option Nat) (s : State) :=
  nodeEvt s (fun s =>
    match s.pass? id shard list with
    | none => s
    | some (w, _, p) =>
      match p.stook with
      | none => s
      | some st =>
        if p.fallback then s
        else
          let s := s.modShardWork id shard (fun x => { x with pool := x.pool ++ st })
          let s := s.modPass id shard list (fun p => { p with
            stook := none
            full := decide (st.length = stookLen w.q)
            last := match st.getLast? with | some e => some (e.dist, e.pos) | none => p.last })
          let s := s.compareFail id w.q.part winFault
          (s.winnow id shard).tryNodeSheaf id shard)

/-! ### Gleaning -/

/-- The score of a stored record for a query, none when it is invalid (R95, R96, R110). -/
def State.scoreOf (s : State) (q : Query) (r : Rerank) : Option Nat :=
  let c := s.cfgOf q.handle
  match readElems c.elem q.qzero q.vec c.dim, readElems c.elem r.zero r.vec c.dim with
  | some a, some x =>
    let d := exactDistance c.metric c.elem ((fp32.read q.qscale).getD 0) ((fp32.read r.scale).getD 0) a x
    if isInf32 d || isNan32 d then none else some d
  | _, _ => none

/-- The region of a shard's record index: its entry (R195, R213). -/
def State.idxEntry (s : State) (h n : Nat) : Option Nat :=
  (List.range 256).find? (fun i => decide (s.get (Reg.GRAN_REGION_PAGES i) ≠ 0 ∧ s.get (Reg.GRAN_REGION_KIND i) = 1 ∧
    s.get (Reg.GRAN_REGION_HANDLE i) = h ∧ s.get (Reg.GRAN_REGION_SHARD i) = n))

/-- The pages of a shard's record index. -/
def State.idxRegion (s : State) (h n : Nat) : Option Nat := (s.idxEntry h n).map (fun i => s.get (Reg.GRAN_REGION_PAGES i))

/-- The bucket page of a record (R213). -/
def bucketPage (pages id : Nat) : Nat := (id * 0x9E3779B97F4A7C15 % 2 ^ 64) / 2 ^ 24 % max 1 pages

/-- The record's index entry lies in a page that no holder can read (R145). -/
def State.idxLost (s : State) (h n id : Nat) : Bool :=
  match s.idxEntry h n with
  | some i => s.srch.lostIdx.contains (s.get (Reg.GRAN_REGION_BASE i) + bucketPage (s.get (Reg.GRAN_REGION_PAGES i)) id)
  | none => false

/-- The bytes of a rerank record of a collection (R210). -/
def State.recordBytes (s : State) (h : Nat) : Nat :=
  64 + s.get (Reg.COLL_DESC_DIM h) * (if s.get (Reg.COLL_DESC_ELEM h) = 0 then 1 else 2)

/-- Bytes of the rerank cache, 96 GiB (the DRAM budget of the node). -/
def cacheBytes : Nat := 96 * 2 ^ 30

/-- The most recently read records that fit in `cap` bytes, of records ordered by when they were last read, and their bytes. -/
def keepRecent {α : Type} (cap : Nat) (size : α → Nat) : List α → List α × Nat
  | [] => ([], 0)
  | x :: xs =>
    let r := keepRecent cap size xs
    if r.1.length = xs.length ∧ r.2 + size x ≤ cap then (x :: r.1, r.2 + size x) else r

/-- Put a slot at the recent end of the rerank cache; the least recently read records leave when it is full (R99). -/
def State.touchCache (s : State) (h n slot : Nat) : State :=
  let l := s.srch.cache.filter (fun c => decide (c ≠ (h, n, slot))) ++ [(h, n, slot)]
  s.modSrch fun k => { k with cache := (keepRecent cacheBytes (fun c => s.recordBytes c.1) l).1 }

/-- GLEAN_RECORD_ARRIVAL (R99): the record is scored and kept with its candidate; one that no source could give fails the
query. A cache hit needs the record in the cache; a mirror read, the far node's answer; a lost record, its failure. -/
def execGleanRecordArrival (id : OpId) (shard slot : Nat) (gsrc : GleanSrc) (unitFault : Option (Nat × Bool)) (s : State) :=
  nodeEvt s (fun s =>
    match s.work? id, (s.work? id).bind (fun w => w.shards.find? (fun x => decide (x.shard = shard))) with
    | some w, some x =>
      match x.cands.bind (fun c => c.find? (fun e => decide (e.slot = slot))), s.shard? w.q.handle shard with
      | some e, some sh =>
        let got (ok : Bool) : Bool := s.srch.fetched.contains (w.q.handle, shard, slot, ok)
        let bad : Bool := match gsrc with
          | .cache => !s.srch.cache.contains (w.q.handle, shard, slot)
          | .mirror => !got true
          | .lost => !got false && (s.farHolder w.q.handle shard).isSome
          | _ => false
        if bad || x.gleaned.any (fun g => decide (g.1 = e)) then s
        else
          let s := s.modSrch fun k => { k with
            fetched := k.fetched.filter (fun f => decide ((f.1, f.2.1, f.2.2.1) ≠ (w.q.handle, shard, slot))) }
          let s := s.residueFault .gln id unitFault
          let s := s.when (decide (s.get Reg.SAFE_UNITS_GLN_ISO = 2 ^ 32 - 1)) (fun t => t.spoil id 2)
          let s := match gsrc with
            | .cache => s.tallyP .GLN_CACHE_HITS w.q.part
            | .flash => s.tallyP .GLN_FLASH_READS w.q.part
            | .mirror => s.tallyP .GLN_MIRROR_READS w.q.part
            | .staging => s
            | .lost => (s.safeLog 2 .lun 0 5 1 (slot % 2 ^ 32)).spoil id 10
          let rec_ := if gsrc = .lost then none else tfind sh.store slot
          let g := match rec_ with
            | some r => (e, r.record, s.scoreOf w.q r)
            | none => (e, 2 ^ 64 - 1, none)
          let s := s.when (decide (gsrc ≠ .lost)) (fun t => t.touchCache w.q.handle shard slot)
          (s.modShardWork id shard (fun y => { y with gleaned := y.gleaned ++ [g] })).tryNodeSheaf id shard
      | _, _ => s
    | _, _ => s)

/-! ### The merge tree -/

/-- TRANSIT (R119, R122): a child's sheaf becomes the awaited input; a re-run sheaf is collected at the root and passed
on elsewhere; a failed CRC or a disagreement of the datapaths withholds the query. -/
def execTransit (id : OpId) (src : Nat) (sh : Sheaf) (crcOk : Bool) (winFault : Option Nat) (s : State) :=
  nodeEvt s (fun s =>
    match s.work? id with
    | none => s
    | some w =>
      let s := s.when (!crcOk) (fun t => (t.react 3 .node src 5 1 id.seq).spoil id 2)
      let s := s.compareFail id w.q.part winFault
      match sh.rerun with
      | some _ =>
        if s.flag Reg.STEP_ROLE_IS_ROOT then
          if w.emitted then s.tallyP .WIN_RERUN_DISCARDED w.q.part
          else (s.modWork id (fun y => { y with reruns := y.reruns ++ [sh] })).tryEmit id
        else s.sendMsg w.q.part 2 0 (s.get Reg.STEP_ROLE_ROOT_ID) (s.transitBytes w.q sh) (.transit id src sh true none)
      | none =>
        if w.await.contains src then
          (s.modWork id (fun y => { y with await := y.await.erase src, inputs := y.inputs ++ [(src, sh)] })).tryEmit id
        else s)

/-- Grant reservations that have become possible, and emit what only waited for one (R130). -/
def State.regrant (s : State) : State :=
  (s.srch.work.map (·.q.id)).foldl State.tryEmit s.grantPools

/-- The merge buffers of a query whose output the parent has acknowledged are released (R129). -/
def State.releaseMerge (s : State) (id : OpId) : State :=
  (s.modWork id (fun w => if w.emitted then { w with mergeRes := some 0 } else w)).regrant

/-- Let a query's work on this node go, with its reservations (R100, R129). -/
def State.dropWork (s : State) (id : OpId) : State :=
  ((s.modSrch fun k => { k with work := k.work.filter (fun w => decide (w.q.id ≠ id)) }).regrant).finishOps

/-- The root's notice at the admitting node (R100, R334): the completion is counted, and its slot's vector falls due. -/
def State.noticed (s : State) (id : OpId) (status : Nat) : State :=
  match s.adm? id with
  | none => s
  | some a =>
    let s := (s.queryTally a.dlv.part status).dropAdm a
    if s.writable a.dlv.pid then s.slotDone a.dlv.part a.dlv.ring a.dlv.idx else s.tallyP .QRY_UNDELIVERED a.dlv.part

/-- NOTICE (R100). -/
def execNotice (id : OpId) (status _src : Nat) (s : State) := nodeEvt s (fun s => s.noticed id status)

/-- CONFIRM (R100): the kept node sheaf is freed. -/
def execConfirm (id : OpId) (_status _src : Nat) (s : State) := nodeEvt s (fun s => s.dropWork id)

/-- SHEAF_FLUSH_READ_DONE (R100): the write is confirmed: notice to the admitting node, confirmation to every member. -/
def execSheafFlushReadDone (id : OpId) (s : State) :=
  nodeEvt s (fun s =>
    match s.host.flushReads.find? (fun f => decide (f.1 = id.step ∧ f.2.1 = id.seq ∧ f.2.2.1 = id.admitter)) with
    | none => s
    | some f =>
      let s := s.modHost fun k => { k with flushReads := k.flushReads.erase f }
      let s := if id.admitter = s.me then s.noticed id f.2.2.2 else s.sendMsg 0 1 0 id.admitter 24 (.notice id f.2.2.2 s.me)
      (s.sendEach 0 1 0 24 (.confirm id f.2.2.2 s.me) s.otherMembers).dropWork id)

end Sys2Proof.Machine
end

