-- ==== Sys2Proof/Machine/Mutation.lean ====
section
/-! DEFINITION. Mutations up to their commit (R134 to R145), filter operations (R75 to R80), and the ends of background
work on a shard (R74, R76, R147). What the commit of a step does with them is in Commit. -/

namespace Sys2Proof.Machine

open Sys2Proof

/-- Body bytes of a STAGE message. -/
def mutBytes (m : Mutation) : Nat := 48 + m.vec.length

/-- The mutation of a taken descriptor (R135). -/
def State.mutationOf (s : State) (t : Taken) : Mutation :=
  let d := t.data
  let h := body d 0 2 % 4096
  let op := opcodeOf d
  { id := t.id, op := op, part := t.part, handle := h, record := body d 8 8,
    xscale := if op = 0x10 ∨ op = 0x12 then body d 16 4 else 0,
    xzero := if op = 0x10 ∨ op = 0x12 then sext 8 (body d 20 1) else 0,
    vec := if op = 0x10 ∨ op = 0x12 then (d.drop 48).take (s.vecBytes h) else [] }

/-! ### Completion -/

/-- The tally of a mutation's completion (R145). -/
def State.mutTally (s : State) (p op status : Nat) : State :=
  match status with
  | 0 => if op = 0x13 then s.tallyP .MUT_READS p else s.tallyP .MUT_COMMITTED p
  | 2 => s.tallyP .MUT_WITHDRAWN p
  | 3 => s.tallyP .MUT_NO_CAPACITY p
  | 8 => s.tallyP .MUT_DEGRADED p
  | 10 => s.tallyP .MUT_FAILED p
  | n => s.statusTally p n

/-- Write a mutation's completion (R144). -/
def State.completeMut (s : State) (a : Admitted) (o : MutOutcome) : State :=
  let h := s.holdersOf a.handle (s.shardOfRecord a.handle a.record)
  ((s.mutTally a.dlv.part a.opcode o.status).dropAdm a).writeSlot a.dlv
    (mutRecord o.status a.dlv.phase a.handle a.dlv.tag a.id.step a.record a.opcode a.id.admitter a.id.seq h.1 h.2 o)

/-- The notice that decides a mutation's completion: the owner's, or the mirror's while the owner is no member (R144). -/
def State.decidingNotice (s : State) (a : Admitted) : Option MutOutcome :=
  let h := s.holdersOf a.handle (s.shardOfRecord a.handle a.record)
  let n := if s.isMember h.1 then h.1 else h.2
  (a.notices.find? (fun x => decide (x.1 = n))).map (·.2)

/-- Complete a mutation once its step is committed here and the notice is in (R144); a RECORD_READ waits for no commit
(R142). -/
def State.tryMut (s : State) (id : OpId) : State :=
  match s.adm? id with
  | none => s
  | some a =>
    if 0x10 ≤ a.opcode ∧ a.opcode ≤ 0x13 then
      match s.decidingNotice a with
      | some o => if a.opcode = 0x13 ∨ id.step ≤ s.get Reg.STEP_COMMITTED then s.completeMut a o else s
      | none => s
    else s

/-- An outcome notice at the admitting node (R144). -/
def State.gotOutcome (s : State) (id : OpId) (o : MutOutcome) (src : Nat) : State :=
  (s.modAdm id (fun a => { a with notices := a.notices ++ [(src, o)] })).tryMut id

/-- Send an outcome notice to the admitting node. -/
def State.sendOutcome (s : State) (id : OpId) (part : Nat) (o : MutOutcome) : State :=
  if id.admitter = s.me then s.gotOutcome id o s.me else s.sendMsg part 3 0 id.admitter 40 (.outcome id o s.me)

/-! ### Staging -/

/-- A staging acknowledgement at the admitting node (R137, R138); the one of a directory entry carries no sequence number
(R292, assumption 32). -/
def State.gotAck (s : State) (id : OpId) (src : Nat) : State :=
  if id.seq = 0 then s.modEmb fun e => { e with dirAcks := e.dirAcks.erase (src, id.step) }
  else s.modAdm id (fun a => { a with acks := a.acks.erase src })

/-- Acknowledge staging to the admitting node. -/
def State.sendAckTo (s : State) (id : OpId) (part : Nat) : State :=
  if id.admitter = s.me then s.gotAck id s.me else s.sendMsg part 3 0 id.admitter 24 (.stageAck id 0 s.me)

/-- The staging digest (R138): SM3 of record, opcode, sketch, lists and payload. -/
def stagingDigest (w : Nat) (m : Mutation) (sketch : Nat) (lists : List Nat) : Digest :=
  Config.sm3 (natLe 8 m.record ++ natLe 1 m.op ++ natLe (w / 8) sketch ++ (lists.map (natLe 3)).flatten ++ m.vec)

/-- A mutation staged here. -/
def State.staged? (s : State) (id : OpId) : Option Staged := s.srch.staged.find? (fun g => decide (g.m.id = id))

/-- Compare the two digests once both are known (R139): on agreement the holder acknowledges; on a mismatch it withholds
the mutation, reports it, forms the result again on another lane, and acknowledges so that the step can commit
(assumption 17). `again` is the first lane and whether the second result agrees with the first. -/
def State.compareDigests (s : State) (id : OpId) (again : Option (Nat × Bool)) : State :=
  match s.staged? id with
  | none => s
  | some g =>
    match g.peer with
    | none => s
    | some d =>
      if g.acked then s
      else
        let set (w : Bool) (s : State) : State := s.modSrch fun k => { k with
          staged := lmod (fun x => decide (x.m.id = id)) (fun x => { x with withheld := w, acked := true }) k.staged }
        if d = g.digest then (set false s).sendAckTo id g.m.part
        else
          let s := (set true s).tallyP .MUT_DIGEST_MISMATCH g.m.part
          let s := match again with
            | some (lane, false) => s.react 9 .route lane 0 1 id.seq
            | _ => s.react 9 .node s.me 5 1 id.seq
          s.sendAckTo id g.m.part

/-- The staging units of a mutation (R137). -/
def mutUnits (m : Mutation) : Nat := stagingUnits (unitsOf (32 + m.vec.length))

/-- A holder stages a mutation (R138): routing form, sketch and lists from the centroids live at its step, then the digest
to the other holder; alone, it acknowledges at once (R469). -/
def State.stageMut (s : State) (m : Mutation) (again : Option (Nat × Bool)) : State :=
  let n := s.shardOfRecord m.handle m.record
  match s.shard? m.handle n with
  | none => s
  | some sh =>
    let c := s.cfgAt m.id.step m.handle
    let f := if m.vec.isEmpty then none else c.form m.xscale m.xzero m.vec
    let rf := (f.map (·.1)).getD []
    let r := if m.vec.isEmpty then ([], false, 0) else sh.assign c m.id.step rf
    let sketch := if m.vec.isEmpty then 0 else sketchOf c.proj c.offs rf
    let peer := s.farHolder m.handle n
    let early := (s.srch.digests.find? (fun e => decide (e.1 = m.id))).map (·.2)
    let dig := stagingDigest c.w m sketch r.1
    let g : Staged := { m := m, rform := rf, sketch := sketch, lists := r.1, digest := dig,
                        peer := if peer.isNone then some dig else early, withheld := false, acked := false }
    let s := ((s.tallyP .COLL_ROUTE_CLAMP m.part ((f.map (·.2)).getD 0)).tallyP .COLL_ROUTE_MAXEXP m.part (b2n r.2.1)).tallyP
      .COLL_TOMB_DEPTH m.part r.2.2
    let s := s.modSrch fun k => { k with staged := k.staged ++ [g], digests := k.digests.filter (fun e => decide (e.1 ≠ m.id)) }
    let s := match peer with
      | some p => s.sendMsg m.part 3 0 p 32 (.digest m.id dig s.me none)
      | none => s
    s.compareDigests m.id again

/-- The record index entry a RECORD_READ of step t reports (R142); FAILED where no holder can read its page (R145). -/
def State.readRecord (s : State) (m : Mutation) : MutOutcome :=
  match s.shard? m.handle (s.shardOfRecord m.handle m.record) with
  | none => MutOutcome.notApplied 8
  | some sh =>
    if s.idxLost m.handle (s.shardOfRecord m.handle m.record) m.record then MutOutcome.notApplied 10
    else match sh.indexBelow m.record m.id.step with
    | some e => outcomeOf 0 5 (some e.slot) none (e.at_.map (·.1))
    | none => outcomeOf 0 6 none none []

/-- A RECORD_READ at a holder: answered once the step before its own has committed there (R142). -/
def State.serveRead (s : State) (m : Mutation) : State :=
  if m.id.step ≤ s.get Reg.STEP_COMMITTED + 1 then s.sendOutcome m.id m.part (s.readRecord m)
  else s.modSrch fun k => { k with reads := k.reads ++ [m] }

/-- A filter operation reaches a member (assumption 9): it waits for the commit of its step. -/
def State.stageFilter (s : State) (f : FilterOp) : State :=
  (s.modSrch fun k => { k with filterOps := k.filterOps ++ [f] }).sendAckTo f.id f.part

/-- STAGE (R138, R142). A mutation whose step has already committed here is no longer accepted (R29). -/
def execStage (g : Staging) (src : Nat) (again : Option (Nat × Bool)) (s : State) :=
  nodeEvt s (fun s =>
    match g with
    | .mutation m =>
      if m.op = 0x13 then s.serveRead m
      else if m.id.step ≤ s.get Reg.STEP_COMMITTED ∨ (s.staged? m.id).isSome ∨ src ≠ m.id.admitter then s
      else s.stageMut m again
    | .filter f => if f.id.step ≤ s.get Reg.STEP_COMMITTED then s else s.stageFilter f)

/-- DIGEST (R139). -/
def execDigest (id : OpId) (digest : Digest) (_src : Nat) (again : Option (Nat × Bool)) (s : State) :=
  nodeEvt s (fun s =>
    if (s.staged? id).isSome then
      (s.modSrch fun k => { k with
        staged := lmod (fun g => decide (g.m.id = id)) (fun g => { g with peer := some digest }) k.staged }).compareDigests id again
    else s.modSrch fun k => { k with digests := k.digests ++ [(id, digest)] })

/-- A record of an EMB_UPDATE was forwarded: its completion counts it (R292). -/
def State.countFwd (s : State) (id : OpId) (fwd : Nat) : State :=
  s.modEmb fun e => { e with updates := lmod (fun u => decide (u.id = id)) (fun u => { u with fwd := u.fwd + fwd }) e.updates }

/-- A new holder has staged a record that this node forwarded; once every one has, this node acknowledges it (R29, R292). -/
def State.relayAck (s : State) (id : OpId) (src : Nat) : State :=
  match s.emb.relays.find? (fun r => decide (r.1 = id) && r.2.2.contains src) with
  | none => s
  | some r =>
    let left := r.2.2.erase src
    let s := s.modEmb fun e => { e with relays := e.relays.erase r ++ (if left.isEmpty then [] else [(id, r.2.1, left)]) }
    if left.isEmpty then s.sendMsg r.2.1 3 0 id.admitter 24 (.stageAck id 1 s.me) else s

/-- STAGE_ACK (R137, R292). -/
def execStageAck (id : OpId) (fwd src : Nat) (s : State) :=
  nodeEvt s (fun s => if id.admitter = s.me then (s.gotAck id src).countFwd id fwd else s.relayAck id src)

/-- OUTCOME (R144): a mutation's, a filter load's or a record read's notice. -/
def State.takeOutcome (s : State) (id : OpId) (o : MutOutcome) (src : Nat) : State := s.gotOutcome id o src

/-- Staging credit granted by a node, or taken back (R137). -/
def State.takeCredit (s : State) (src : Nat) (units : Int) : State :=
  s.modSrch fun k => { k with credit := tset 0 k.credit src (((tget 0 k.credit src : Nat) : Int) + units).toNat }

/-- Return the staging units of a mutation to its admitting node: its record is in flash, or it was discarded (R137). -/
def State.returnCredit (s : State) (admitter units : Nat) : State :=
  if admitter = s.me then s.modSrch fun k => { k with credit := tset 0 k.credit s.me (tget 0 k.credit s.me + units) }
  else s.sendMsg 0 3 0 admitter 8 (.credit s.me units)

/-! ### Admission of mutations, record reads and filter operations -/

/-- Admit an INSERT, DELETE or REPLACE (R137, R138): credit is spent and the mutation goes to each member holder. -/
def State.runMutation (s : State) (t : Taken) (dlv : Delivery) : State :=
  let m := s.mutationOf t
  let hs := s.mutHolders t.data
  let a := { t.admitted dlv m.handle m.record false with started := true, acks := hs, holders := hs }
  let s := s.admitOp a
  let s := s.modSrch fun k => { k with
    credit := hs.foldl (fun c n => tset 0 c n (tget 0 c n - stagingUnits (lengthOf t.data))) k.credit }
  hs.foldl (fun s n => if n = s.me then s.stageMut m none else s.sendMsg m.part 3 0 n (mutBytes m) (.stage (.mutation m) s.me none)) s

/-- INSERT (R140). -/
def execInsert (s : State) := nodeEvt s (fun s => s.serve (isOp 0x10) State.runMutation)

/-- DELETE (R140). -/
def execDelete (s : State) := nodeEvt s (fun s => s.serve (isOp 0x11) State.runMutation)

/-- REPLACE (R140). -/
def execReplace (s : State) := nodeEvt s (fun s => s.serve (isOp 0x12) State.runMutation)

/-- Start a RECORD_READ (R142): the entry is asked of the owner, or of the mirror while the owner is no member; with
neither a member it completes with DEGRADED. -/
def State.startRead (s : State) (a : Admitted) : State :=
  let h := s.holdersOf a.handle (s.shardOfRecord a.handle a.record)
  let m : Mutation := { id := a.id, op := 0x13, part := a.dlv.part, handle := a.handle, record := a.record, xscale := 0,
                        xzero := 0, vec := [] }
  let s := s.modAdm a.id (fun x => { x with started := true })
  match [h.1, h.2].find? (fun n => decide (n ≠ 0xFFF) && s.isMember n) with
  | none => s.completeMut a (MutOutcome.notApplied 8)
  | some n => if n = s.me then s.serveRead m else s.sendMsg m.part 3 0 n 32 (.stage (.mutation m) s.me none)

/-- RECORD_READ (R142): it starts after the commit of the step before its own. -/
def execRecordRead (s : State) :=
  nodeEvt s (fun s => s.serve (isOp 0x13) (fun s t dlv =>
    let a := t.admitted dlv (body t.data 0 2 % 4096) (body t.data 8 8) false
    let s := s.admitOp a
    if t.id.step ≤ s.get Reg.STEP_COMMITTED + 1 then s.startRead a else s))

/-- The filter operation of a taken descriptor (R75, R79). -/
def filterOpOf (t : Taken) : FilterOp :=
  let d := t.data
  let load := decide (opcodeOf d = 2)
  { id := t.id, part := t.part, handle := body d 0 2 % 4096, fslot := body d 2 1,
    shard := if load then some (body d 4 2) else none, dflt := load && bit (body d 3 1) 0,
    slotCount := if load then body d 8 8 else 0, src := if load then body d 16 8 else 0 }

/-- Admit a filter operation (R76, R79): every member is told, and it acts at the commit of its step. The record field of
the admitted operation holds filter slot and shard. -/
def State.runFilter (s : State) (t : Taken) (dlv : Delivery) : State :=
  let f := filterOpOf t
  let others := s.otherMembers
  let a := { t.admitted dlv f.handle (f.fslot + 256 * f.shard.getD 0xFFFF) false with
    started := true, acks := s.me :: others, holders := (match f.shard with
      | some n => (s.holderList f.handle n).filter s.isMember
      | none => []) }
  ((s.admitOp a).sendEach f.part 3 0 64 (.stage (.filter f) s.me none) others).stageFilter f

/-- FILTER_LOAD (R76). -/
def execFilterLoad (s : State) := nodeEvt s (fun s => s.serve (isOp 2) State.runFilter)

/-- FILTER_RETIRE (R79). -/
def execFilterRetire (s : State) := nodeEvt s (fun s => s.serve (isOp 3) State.runFilter)

/-! ### Background work on a shard -/

/-- FILTER_PLACEMENT_DONE (R76): the holder has read the bitmap and placed it; a status other than 0 says the placement was
withheld or a line of the bitmap lost (R80). Bits that a rebuild could not copy are there again (R182). -/
def execFilterPlacementDone (coll shard fslot : Nat) (bitmap : List Byte) (status : Nat) (s : State) :=
  nodeEvt s (fun s => (s.modSrch fun k => { k with
    lostBits := k.lostBits.filter (fun b => decide (¬ (b.1 = coll ∧ b.2.1 = shard ∧ b.2.2.2 = fslot))) }).modShard coll shard (fun sh => { sh with
    filters := tmod sh.filters fslot (fun o =>
      if o.placed then o else { o with placed := true, status := status, bitmap := leNat bitmap 0 bitmap.length }) }))

/-- UPKEEP_BUILD_DONE (R147, R148). -/
def execUpkeepBuildDone (coll shard list : Nat) (s : State) :=
  nodeEvt s (fun s => s.modShard coll shard (fun sh => { sh with
    upkeep := lmod (fun u => decide (u.list = list)) (fun u => { u with built := true }) sh.upkeep }))

/-- GRAPH_REBUILD_DONE (R74): the new graph, with the splits that took effect meanwhile applied to it in order. The manual
gives no algorithm for the rebuild, so its edges and entry centroids come with the event (assumption 18). -/
def execGraphRebuildDone (coll shard : Nat) (edges : List (Nat × List Nat)) (entry : List Nat) (s : State) :=
  nodeEvt s (fun s => s.modShard coll shard (fun sh =>
    match sh.rebuild with
    | some b =>
      if b.done.isSome then sh
      else
        let t := edges.foldl (fun (t : Tab (List Nat)) e => tput t e.1 e.2) []
        let g := b.splits.foldl (fun g x => sh.repair (s.cfgOf coll) (s.get Reg.STEP_COMMITTED + 1) g x.1 x.2) (t, entry.take 16)
        { sh with rebuild := some { b with done := some g } }
    | none => sh))

end Sys2Proof.Machine
end

