-- ==== Sys2Proof/Machine/Power.lean ====
section
/-! DEFINITION. The power limiter, the thermal thresholds and the power-fail flush (R216, R439 to R446), the age and
temperature pins, and the commands on them that need no reset. -/

namespace Sys2Proof.Machine

/-- Change the pins' and the limiter's state. -/
def State.modPwr (s : State) (f : PwrSt → PwrSt) : State := { s with pwr := f s.pwr }
/-- Change the granary's state. -/
def State.modGran (s : State) (f : GranSt → GranSt) : State := { s with gran := f s.gran }

/-- The eight stacks (R168). -/
def allStacks : List Nat := List.range 8

/-- A reading stands at or above a trip threshold (R442). -/
def State.tripping (s : State) : Bool :=
  decide (125 ≤ s.get Reg.NODE_PWR_STATUS_DIE_C) || allStacks.any (fun k => decide (115 ≤ s.get (Reg.STACK_TEMP_MAX_C k)))

/-- A stack reads CRIT (R187). -/
def State.anyCrit (s : State) : Bool := allStacks.any (fun k => s.flag (Reg.STACK_TEMP_CRIT k))

/-- A RESET_N release that was held takes effect once the rails are good, no flush is to end first and no reading stands at
a trip threshold (R442, R443, R446): the node leaves reset with its straps sampled (R410, R424). -/
def State.tryRelease (s : State) : State :=
  match s.pwr.releaseHeld with
  | some (g1, sel) =>
    if !s.awake && s.pwr.rails && !s.pwr.resetLatched && !s.tripping then
      let s := { s with awake := true, pwr := { s.pwr with releaseHeld := none } }
      (s.setB Reg.CFG_STATUS_STRAP_G1 g1).setB Reg.CFG_STATUS_STRAP_CFG_SEL sel
    else s
  | none => s

/-- The power-fail flush begins (R216): admission stops, reads and collection are abandoned, and FLUSHING is set. One
flush runs, however many causes there are (R442). -/
def State.beginFlush (s : State) : State :=
  let s := s.setB Reg.STEP_STATUS_SELF_ISOLATED true
  if s.flag Reg.GRAN_STATUS_FLUSHING || s.gran.flushed then s
  else (s.modGran fun g => { g with collecting := [], rewrite := [] }).setB Reg.GRAN_STATUS_FLUSHING true

/-- What a falling PWR_FAIL_N does (R216, R444): a freeze ends (R405) and the flush begins. -/
def State.powerFail (s : State) : State :=
  let s := s.setFreeze (fun k => { k with pinLow := false, latch := false, freezeWait := false })
  (s.setB Reg.NODE_PWR_STATUS_PWR_FAIL_SEEN true).beginFlush

/-- A thermal trip (R442). -/
def State.thermalTrip (s : State) : State :=
  if s.flag Reg.NODE_PWR_STATUS_THERMAL_TRIP then s
  else
    let s := (s.setB Reg.NODE_PWR_STATUS_THERMAL_TRIP true).beginFlush
    s.setB Reg.SAFE_STATUS_FAULT_N_LOW true

/-- THERM_N after a reading (R442): asserted at 115 °C of the die or with a stack at CRIT, released below 105 °C with no
stack at CRIT. -/
def State.thermPin (s : State) : State :=
  let die := s.get Reg.NODE_PWR_STATUS_DIE_C
  if 115 ≤ die ∨ s.anyCrit = true then s.setB Reg.NODE_PWR_STATUS_THERM_ASSERTED true
  else if die < 105 then s.setB Reg.NODE_PWR_STATUS_THERM_ASSERTED false
  else s

/-- What follows any temperature reading: THERM_N, and a trip at a trip threshold. -/
def State.thermal (s : State) : State :=
  let s := s.thermPin
  if s.tripping then s.thermalTrip else s

/-- The lowest scan percentage that leaves 512 rows per microsecond (R439). -/
def State.scanFloor (s : State) (pct : Nat) : Bool := decide ((pct - 5) * s.get Reg.NBU_GOV / 100 < 512 ∨ pct ≤ 5)

/-- One sample of the limiter at an average input power (R439): voltage first, then the scan rate, and CAP_UNMET at both
floors; the scan rate is restored before the voltage rises. -/
def State.limiter (s : State) (avg : Nat) : State :=
  let cap := s.get Reg.NODE_PWR_CFG_CAP_W
  let die := s.get Reg.NODE_PWR_STATUS_DIE_C
  let top := 10 * s.get Reg.NODE_PWR_CFG_VMAX_10MV
  let request := decide (105 ≤ die) || allStacks.any (fun k => s.flag (Reg.STACK_TEMP_SCAN_HALVED k))
  let v := s.pwr.vcore
  let pct := s.pwr.scanPct
  let above := decide (cap < avg)
  let nv := if above || request then max 650 (v - 5)
            else if 100 * avg < 97 * cap ∧ die < 103 ∧ pct = 100 then min top (v + 5) else min top v
  let np := if above && decide (v ≤ 650) then (if s.scanFloor pct then pct else pct - 5)
            else if !above && !request && decide (100 * avg < 97 * cap ∧ die < 103) then min 100 (pct + 5) else pct
  let unmet := above && decide (v ≤ 650) && s.scanFloor pct
  let s := s.modPwr fun p => { p with vcore := nv, scanPct := np }
  let s := s.setB Reg.NODE_PWR_STATUS_CAP_UNMET unmet
  let s := s.setB Reg.NODE_PWR_STATUS_LIMITING (decide (nv < top ∨ np < 100))
  (s.set Reg.NODE_PWR_STATUS_VCORE_10MV (nv / 10)).set Reg.NODE_PWR_STATUS_SCAN_PCT np

/-- POWER_LIMITER_SAMPLE (R439): every 100 µs, with the 1 ms average of the input power and the input voltage in 100 mV. -/
def execPowerLimiterSample (avgW vin : Nat) (s : State) :=
  nodeEvt s (fun s =>
    if s.now < s.pwr.sampleTick + 2500 then s
    else
      let s := (s.modPwr fun p => { p with sampleTick := s.now }).set Reg.NODE_PWR_STATUS_INPUT_W avgW
      (s.set Reg.NODE_PWR_STATUS_VIN_100MV vin).limiter avgW)

/-- PWR_FAIL_N_FALL (R216, R444). -/
def execPwrFailNFall (s : State) :=
  anyEvt s (fun s =>
    let t := s.modPwr fun p => { p with pwrFailN := false }
    if s.awake then t.powerFail else t)

/-- PWR_OK_FALL (R445): while the node runs it acts as if PWR_FAIL_N had fallen. -/
def execPwrOkFall (s : State) :=
  anyEvt s (fun s =>
    let t := s.modPwr fun p => { p with pwrOk := false }
    if s.awake then t.powerFail else t)

/-- UNDERVOLTAGE (R445). -/
def execUndervoltage (s : State) :=
  anyEvt s (fun s => if s.awake && s.pwr.pwrFailN then (s.setB Reg.NODE_PWR_STATUS_UNDERVOLT true).powerFail else s)

/-- PWR_OK_RISE (R443): the module ramps its rails. -/
def execPwrOkRise (s : State) := anyEvt s (fun s => s.modPwr fun p => { p with pwrOk := true })

/-- The status stream an I3C read returns (R454): NODE_PWR_STATUS, STACK_TEMP, CFG_STATUS and SAFE_STATUS. -/
def State.i3cStream (s : State) : List Byte :=
  let v (l : List Fld) (base : Nat) : Nat := (l.map (fun f => s.get f * 2 ^ (f.bit - base))).sum
  natLe 8 (v [Reg.NODE_PWR_STATUS_INPUT_W, Reg.NODE_PWR_STATUS_VIN_100MV, Reg.NODE_PWR_STATUS_VCORE_10MV,
      Reg.NODE_PWR_STATUS_DIE_C, Reg.NODE_PWR_STATUS_SCAN_PCT, Reg.NODE_PWR_STATUS_THERMAL_TRIP,
      Reg.NODE_PWR_STATUS_THERM_ASSERTED, Reg.NODE_PWR_STATUS_CAP_UNMET, Reg.NODE_PWR_STATUS_LIMITING,
      Reg.NODE_PWR_STATUS_PWR_FAIL_SEEN, Reg.NODE_PWR_STATUS_UNDERVOLT] Reg.NODE_PWR_STATUS_UNDERVOLT.bit) ++
  (allStacks.map (fun k => natLe 8 (v [Reg.STACK_TEMP_MAX_C k, Reg.STACK_TEMP_MIN_C k, Reg.STACK_TEMP_HOTTEST_DIE k,
      Reg.STACK_TEMP_CRIT k, Reg.STACK_TEMP_SCAN_HALVED k, Reg.STACK_TEMP_HOT k] ((Reg.STACK_TEMP_HOT k).bit - 1)))).flatten ++
  natLe 4 (v [Reg.CFG_STATUS_FAIL_REASON, Reg.CFG_STATUS_LOG_FAIL, Reg.CFG_STATUS_APPLY_STALL, Reg.CFG_STATUS_AMEND_EVT,
      Reg.CFG_STATUS_STRAP_G1, Reg.CFG_STATUS_STRAP_CFG_SEL, Reg.CFG_STATUS_FROM_B, Reg.CFG_STATUS_FALLBACK,
      Reg.CFG_STATUS_IMG_VALID_B, Reg.CFG_STATUS_IMG_VALID_A, Reg.CFG_STATUS_STAGE] Reg.CFG_STATUS_STAGE.bit) ++
  natLe 4 (v [Reg.SAFE_STATUS_TALLY_STUCK, Reg.SAFE_STATUS_CYCLE_LATE, Reg.SAFE_STATUS_FAULT_N_LOW,
      Reg.SAFE_STATUS_FROZEN, Reg.SAFE_STATUS_LOCKSTEP_FAIL, Reg.SAFE_STATUS_NODE_FAULT] Reg.SAFE_STATUS_NODE_FAULT.bit)

/-- I3C_ENTDAA (R454): once the rails are good the target takes a dynamic address. -/
def execI3cEntdaa (addr : Nat) (s : State) :=
  anyEvt s (fun s => if s.pwr.rails then s.modPwr fun p => { p with i3cAddr := some (addr % 128) } else s)

/-- I3C_READ (R454): answered in every stage, freeze or trip, once an address is taken. -/
def execI3cRead (s : State) :=
  anyEvt s (fun s => if s.pwr.rails && s.pwr.i3cAddr.isSome then s.emit (.i3c s.i3cStream) else s)

end Sys2Proof.Machine
end

