-- ==== Sys2Proof/Machine/Rs.lean ====
section
/-! DEFINITION. The burst code of the stacked memory (R169, R170): the Reed–Solomon code over GF(2^8), its check
symbols and its decoder. -/

namespace Sys2Proof.Machine

/-- Multiplication by α, a root of x^8 + x^4 + x^3 + x^2 + 1. -/
def gfDouble (a : Nat) : Nat := if 128 ≤ a then (2 * a) ^^^ 0x11D else 2 * a

/-- Product of two field elements, over the low n bits of the first. -/
def gfMulN : Nat → Nat → Nat → Nat
  | 0, _, _ => 0
  | n + 1, a, b => (if a % 2 = 1 then b else 0) ^^^ gfMulN n (a / 2) (gfDouble b)

/-- Product of two field elements. -/
def gfMul (a b : Nat) : Nat := gfMulN 8 a b

/-- α^k. -/
def gfExp : Nat → Nat
  | 0 => 1
  | k + 1 => gfDouble (gfExp k)

/-- a^(2^(n+1) − 2), the inverse for n = 7. -/
def gfInvN : Nat → Nat → Nat
  | 0, _ => 1
  | n + 1, a => let b := gfMul a a; gfMul b (gfInvN n b)

/-- The inverse of a nonzero element. -/
def gfInv (a : Nat) : Nat := gfInvN 7 a

/-- The value of a polynomial, coefficients from the lowest, at x. -/
def gfEval (p : List Nat) (x : Nat) : Nat := p.foldr (fun c r => c ^^^ gfMul x r) 0

/-- Sum of two polynomials. -/
def gfAdd : List Nat → List Nat → List Nat
  | [], q => q
  | p, [] => p
  | a :: p, b :: q => (a ^^^ b) :: gfAdd p q

/-- A polynomial times a constant. -/
def gfScale (k : Nat) (p : List Nat) : List Nat := p.map (gfMul k)

/-- Product of two polynomials. -/
def gfProd (p q : List Nat) : List Nat := p.foldr (fun a r => gfAdd (gfScale a q) (0 :: r)) []

/-- The generator (x − 1)(x − α)…(x − α^7). -/
def rsGen : List Nat := (List.range 8).foldl (fun g i => gfProd g [gfExp i, 1]) [1]

/-- One step of division by the generator: the remainder, coefficients from the lowest, after the next coefficient. -/
def rsShift (r : List Nat) (c : Nat) : List Nat :=
  let top := r.getLast?.getD 0 ^^^ c
  gfAdd (0 :: r.dropLast) (gfScale top (rsGen.take 8))

/-- The address symbols of a chunk (R169): bytes of (row << 9) | (bank << 5) | column. -/
def rsAddr (a : Nat) : List Nat := (List.range 4).map (fun m => a / 256 ^ m % 256)

/-- The check symbols of 64 data bytes at a chunk address. -/
def rsCheck (d : List Byte) (addr : Nat) : List Nat :=
  ((d.map (·.toNat)) ++ rsAddr addr).reverse.foldl rsShift (List.replicate 8 0)

/-- The eight syndromes of a received word, coefficients from the lowest. -/
def rsSyndromes (w : List Nat) : List Nat := (List.range 8).map (fun i => gfEval w (gfExp i))

/-- Berlekamp–Massey over the syndromes: the locator, its length, the previous locator and discrepancy, and the shift. -/
def rsMassey : List Nat → List Nat → List Nat × Nat × List Nat × Nat → List Nat × Nat
  | [], _, (c, l, _, _) => (c, l)
  | s :: rest, seen, (c, l, b, bd) =>
    let d := (List.range (l + 1)).foldl (fun x i => x ^^^ gfMul (c.getD i 0) ((s :: seen).getD i 0)) 0
    let b := 0 :: b
    if d = 0 then rsMassey rest (s :: seen) (c, l, b, bd)
    else
      let c' := gfAdd c (gfScale (gfMul d (gfInv bd)) b)
      if 2 * l ≤ seen.length then rsMassey rest (s :: seen) (c', seen.length + 1 - l, c, d)
      else rsMassey rest (s :: seen) (c', l, b, bd)

/-- The formal derivative of a polynomial. -/
def gfDeriv (p : List Nat) : List Nat := ((List.range p.length).map (fun i => if i % 2 = 1 then p.getD i 0 else 0)).drop 1

/-- What the decoder finds in a burst of 64 data and 8 check bytes with erasures at via positions: the corrected bytes
and the positions corrected, or none when the chunk is uncorrectable (R170). Via i below 64 is data byte i, via 64 + j
check symbol j. -/
def rsDecode (burst : List Byte) (addr : Nat) (erased : List Nat) : Option (List Byte × List Nat) :=
  let sym := burst.map (·.toNat)
  let w := sym.drop 64 ++ sym.take 64 ++ rsAddr addr
  let place (via : Nat) : Nat := if via < 64 then via + 8 else via - 64
  let era := (erased.filter (fun v => decide (v < 72))).map place
  let syn := rsSyndromes w
  if burst.length ≠ 72 ∨ 8 < era.length then none
  else if syn.all (fun x => decide (x = 0)) then some (burst, [])
  else
    let gam := era.foldl (fun g i => gfProd g [1, gfExp i]) [1]
    let xi := (gfProd gam syn).take 8
    let r := rsMassey (xi.drop era.length) [] ([1], 0, [1], 1)
    let psi := gfProd gam r.1
    let omega := (gfProd syn psi).take 8
    let roots := (List.range 76).filter (fun i => decide (gfEval psi (gfExp ((255 - i) % 255)) = 0))
    let dp := gfDeriv psi
    let fix := roots.map (fun i =>
      let xinv := gfExp ((255 - i) % 255)
      (i, gfMul (gfMul (gfExp i) (gfEval omega xinv)) (gfInv (gfEval dp xinv))))
    let w' := fix.foldl (fun w e => lset w e.1 (w.getD e.1 0 ^^^ e.2)) w
    let bad := fix.filter (fun e => decide (e.2 ≠ 0))
    if 8 < 2 * r.2 + era.length ∨ roots.length ≠ r.2 + era.length ∨ bad.any (fun e => decide (72 ≤ e.1)) ∨
       ¬ (rsSyndromes w').all (fun x => decide (x = 0)) then none
    else some (((w'.drop 8).take 64 ++ w'.take 8).map (BitVec.ofNat 8),
               bad.map (fun e => if e.1 < 8 then 64 + e.1 else e.1 - 8))

end Sys2Proof.Machine
end

