-- ==== Sys2Proof/Machine/Stack.lean ====
section
/-! DEFINITION. Stacked memory (R168 to R189): refresh, scrub, chunk recovery, via and row repair, failed channels and
their rebuild, and the stacks' thermal behaviour; the scan governor (R162) and the NBU's rolling test. -/

namespace Sys2Proof.Machine

/-- Change the stacked memory's state. -/
def State.modStk (s : State) (f : StackSt → StackSt) : State := { s with stk := f s.stk }

/-- The stack of a channel (R168). -/
def stackOf (ch : Nat) : Nat := ch / 64

/-- The bank number of a channel and bank (R167). -/
def bankNo (ch bank : Nat) : Nat := 16 * ch + bank

/-! ### Refresh and scan governor -/

/-- Stack-timer periods between two refreshes of a bank (R173). -/
def State.refreshPeriod (s : State) (k : Nat) : Nat := if s.flag (Reg.STACK_TEMP_HOT k) then 194 else 388

/-- REFRESH_DUE (R159, R173): at stack-timer period `time` the bank's refresh is due and is granted first; an NBU in the
middle of an operation yields to it. It continues in a freeze (R402). -/
def execRefreshDue (bank time : Nat) (busy : Bool) (s : State) :=
  anyEvt s (fun s =>
    if s.pwr.rails ∧ bank < 8192 ∧ tget 0 s.stk.refreshAt bank + s.refreshPeriod (bank / 1024) ≤ time then
      (s.modStk fun k => { k with refreshAt := tset 0 k.refreshAt bank time }).tallyN .NBU_REFRESH_YIELDS (b2n busy)
    else s)

/-- Scan row activations a stack's governor allows in a microsecond (R162, R187, R439). -/
def State.scanAllow (s : State) (k : Nat) : Nat :=
  let r := s.get Reg.NBU_GOV * s.pwr.scanPct / 100
  if s.flag (Reg.STACK_TEMP_SCAN_HALVED k) then r / 2 else r

/-- SCAN_GOVERNOR_TICK (R162): the allowance of the next microsecond against the activations that passes ask for; each one
held is counted. -/
def execScanGovernorTick (stack demand : Nat) (s : State) :=
  nodeEvt s (fun s =>
    if 8 ≤ stack then s
    else
      let above := demand - s.scanAllow stack
      let s := (s.tallyN .NBU_GOV_HOLDS above).setB (Reg.NBU_STACK_GOV_HOLD stack) (decide (0 < above))
      s.setB Reg.NBU_STATUS_GOV_HOLD (allStacks.any (fun k => s.flag (Reg.NBU_STACK_GOV_HOLD k))))

/-- STACK_TIMER_CROSSCHECK (R173): the periods a stack timer counted in an interval of ticks; a deviation beyond 3 % is an
active-path fault of the stack's controller (mechanism 12). -/
def execStackTimerCrosscheck (stack periods ticks : Nat) (s : State) :=
  nodeEvt s (fun s =>
    let e := 4 * ticks
    if 3 * e < 100 * (periods - e + (e - periods)) then s.react 12 .other stack 5 0 periods else s)

/-! ### Thermal behaviour -/

/-- HOT shows in the NBU block and in STACK_STATUS (R167, R189). -/
def State.showHot (s : State) (k : Nat) (hot : Bool) : State :=
  let s := (s.setB (Reg.STACK_TEMP_HOT k) hot).setB (Reg.NBU_STACK_HOT k) hot
  s.setB Reg.STACK_STATUS_HOT (allStacks.any (fun k => s.flag (Reg.STACK_TEMP_HOT k)))

/-- The index of the first greatest reading. -/
def hottest (l : List Nat) : Nat := (List.range l.length).find? (fun i => decide (l.getD i 0 = l.foldl max 0)) |>.getD 0

/-- STACK_THERMAL_READING (R173, R187, R442): the readings of a stack's dies. The sensors work in a freeze (R402). -/
def execStackThermalReading (stack : Nat) (dies : List Nat) (s : State) :=
  resetEvt s (fun s =>
    if 8 ≤ stack ∨ dies = [] then s
    else if !s.awake then
      ((s.set (Reg.STACK_TEMP_MAX_C stack) (dies.foldl max 0)).set (Reg.STACK_TEMP_HOTTEST_DIE stack) (hottest dies)).tryRelease
    else
      let mx := dies.foldl max 0
      let s := ((s.set (Reg.STACK_TEMP_MAX_C stack) mx).set (Reg.STACK_TEMP_MIN_C stack) (dies.foldl min mx)).set
        (Reg.STACK_TEMP_HOTTEST_DIE stack) (hottest dies)
      let s := if 83 ≤ mx then s.showHot stack true else s
      let from_ := if mx ≤ 80 then (if tget 0 s.stk.coolFrom stack = 0 then s.now + 1 else tget 0 s.stk.coolFrom stack) else 0
      let s := s.modStk fun k => { k with coolFrom := tset 0 k.coolFrom stack from_ }
      let s := if 105 < mx ∧ s.flag (Reg.STACK_TEMP_SCAN_HALVED stack) = false then
          (s.setB Reg.STACK_STATUS_THERM_EVT true).faultEvent else s
      let s := s.setB (Reg.STACK_TEMP_SCAN_HALVED stack) (decide (105 < mx))
      (s.setB (Reg.STACK_TEMP_CRIT stack) (decide (110 ≤ mx))).thermal)

/-- HOT_BAND_EXIT (R173): every die has read 80 °C or below for 10 ms. -/
def execHotBandExit (stack : Nat) (s : State) :=
  anyEvt s (fun s =>
    let f := tget 0 s.stk.coolFrom stack
    if stack < 8 ∧ s.flag (Reg.STACK_TEMP_HOT stack) = true ∧ f ≠ 0 ∧ f + 250000 ≤ s.now + 1 then s.showHot stack false else s)

/-! ### Chunks -/

/-- Log an uncorrectable chunk (R178, R189): OUTCOME 0 recovered, 1 WITHDRAWN, 2 FAILED. -/
def State.errLog (s : State) (a : ChunkAddr) (cls outcome : Nat) : State :=
  let n := s.get Reg.STACK_ERRLOG_COUNT % 1024
  let s := (s.set (Reg.STACK_ERRLOG_STEP n) s.openStep).set (Reg.STACK_ERRLOG_CHANNEL n) a.chan
  let s := (s.set (Reg.STACK_ERRLOG_BANK n) a.bank).set (Reg.STACK_ERRLOG_CLASS n) cls
  let s := (s.set (Reg.STACK_ERRLOG_ROW n) a.row).set (Reg.STACK_ERRLOG_COLUMN n) a.col
  let s := (s.set (Reg.STACK_ERRLOG_OUTCOME n) outcome).stick Reg.STACK_ERRLOG_COUNT 1
  (s.setB Reg.STACK_STATUS_UC_EVT true).faultEvent

/-- The tally of the source a class is recovered from (R178). -/
def recoveredTally : Nat → NTally
  | 1 => .STK_RECOVERED_PARITY
  | 2 => .STK_RECOVERED_MIRROR
  | _ => .STK_RECOVERED_FLASH

/-- An uncorrectable chunk is recovered by its class and written back (R178): none, no source yields it; some false, the
recovered chunk fails to decode again. Either way it is remembered for R179. -/
def State.recoverChunk (s : State) (a : ChunkAddr) (cls : Nat) (redo : Option Bool) : State :=
  let s := (s.tallyN .STK_UNCORRECTABLE).modStk fun k => { k with
    uc := (k.uc.filter (fun u => decide (s.now < u.2.2 + second))) ++ [(a.chan, a.bank, s.now)] }
  match redo with
  | some true => (s.tallyN (recoveredTally cls)).errLog a cls 0
  | some false => ((s.errLog a cls 1).tallyN .STK_WITHDRAWN).react 1 .channel a.chan 5 0 (bankNo a.chan a.bank * 65536 + a.row)
  | none => ((s.errLog a cls 2).tallyN .STK_FAILED).react 1 .channel a.chan 5 0 (bankNo a.chan a.bank * 65536 + a.row)

/-- The vias of a channel's erasure mask (R170). -/
def State.erasures (s : State) (ch : Nat) : List Nat :=
  (List.range 72).filter (fun v => bit (s.get (Reg.STACK_CH_ERASURES ch)) v)

/-- SCRUB_DUE (R169 to R172, R178): the scrub reads a chunk's 72 symbols and writes back any correction; class and recovery
of an uncorrectable one come with the event. -/
def execScrubDue (a : ChunkAddr) (burst : List Byte) (cls : Nat) (redo : Option Bool) (s : State) :=
  nodeEvt s (fun s =>
    let era := s.erasures a.chan
    match rsDecode burst (a.row * 512 + a.bank * 32 + a.col) era with
    | some (_, fixed) =>
      (s.tallyN .STK_CORRECTED (b2n (!fixed.isEmpty))).tallyN .STK_ERASURE_DECODES (b2n (!era.isEmpty))
    | none => s.recoverChunk a cls redo)

/-! ### Vias and rows -/

/-- A bad data or check via enters the erasure mask; a free spare of the channel takes the via's place, and then the mask no
longer needs it (R171). -/
def State.remapVia (s : State) (chan via : Nat) : State :=
  let n := s.get (Reg.STACK_CH_SPARE_VIAS_USED chan)
  let m := s.get (Reg.STACK_CH_ERASURES chan)
  if 512 ≤ chan ∨ 232 ≤ via then s
  else if n < 8 then
    let s := (s.set (Reg.STACK_CH_SPARE_VIAS_USED chan) (n + 1)).modStk fun k => { k with viaMap := tput k.viaMap (256 * chan + via) n }
    let s := if via < 72 ∧ bit m via = true then s.set (Reg.STACK_CH_ERASURES chan) (m ^^^ 2 ^ via) else s
    ((s.tallyN .STK_VIA_REPAIRS).setB Reg.STACK_STATUS_VIA_REPAIR_EVT true).faultEvent
  else if via < 72 then s.set (Reg.STACK_CH_ERASURES chan) (m ||| 2 ^ via)
  else s.modStk fun k => { k with viaMap := tput k.viaMap (256 * chan + via) 255 }

/-- VIA_REMAP (R171). -/
def execViaRemap (chan via : Nat) (s : State) := nodeEvt s (fun s => s.remapVia chan via)

/-- The row's chunks are copied into a spare row of its bank and the row map switched; without a free spare row it stays in
service (R185). -/
def State.repairRow (s : State) (chan bank row : Nat) : State :=
  let b := bankNo chan bank
  let n := tget 0 s.stk.spareRows b
  if 512 ≤ chan ∨ 16 ≤ bank ∨ 64 ≤ n then s
  else
    let s := s.modStk fun k => { k with spareRows := tset 0 k.spareRows b (n + 1), rowMap := tput k.rowMap (65536 * b + row) n }
    let s := s.set (Reg.STACK_CH_ROW_SPARES_MAX chan) (max (s.get (Reg.STACK_CH_ROW_SPARES_MAX chan)) (n + 1))
    ((s.tallyN .STK_ROW_REPAIRS).setB Reg.STACK_STATUS_ROW_REPAIR_EVT true).faultEvent

/-- ROW_REPAIR (R185). -/
def execRowRepair (chan bank row : Nat) (s : State) := nodeEvt s (fun s => s.repairRow chan bank row)

/-! ### Failed channels -/

/-- Free reserve of a stack in MiB (R180). -/
def State.reserveOf (s : State) (k : Nat) : Nat := tget 3072 s.stk.reserve k

/-- STACK_RESERVE shows what is left: the free reserve less the reserve rows that failed a test (R189, R394). -/
def State.showReserve (s : State) : State :=
  s.set Reg.STACK_RESERVE_FREE_MIB ((1024 * (allStacks.map s.reserveOf).sum - 2 * s.stk.badRows) / 1024)

/-- Take up to `want` MiB from a stack's reserve for a channel's contents; what remains to place. -/
def State.takeReserve (s : State) (ch k want : Nat) : Nat × State :=
  let n := min want (s.reserveOf k)
  (want - n, if n = 0 then s else s.modStk fun t => { t with
    reserve := tset 3072 t.reserve k (s.reserveOf k - n), reloc := t.reloc ++ [(ch, k, n)] })

/-- The stack with the most free reserve among the candidates, the lowest on a tie. -/
def State.freest (s : State) (l : List Nat) : Option Nat :=
  l.find? (fun k => decide (s.reserveOf k = (l.map s.reserveOf).foldl max 0) && decide (0 < s.reserveOf k))

/-- Place a channel's contents in the freest allStacks, then in unallocated DRAM (R180, R184); what finds no place. -/
def State.relocate (s : State) (ch : Nat) (l : List Nat) : Nat → Nat → Nat × State
  | 0, want => (want, s)
  | fuel + 1, want =>
    if want = 0 then (0, s)
    else match s.freest l with
      | some k => let r := s.takeReserve ch k want; r.2.relocate ch l fuel r.1
      | none =>
        let n := min want s.stk.freeMib
        (want - n, if n = 0 then s else s.modStk fun t => { t with freeMib := t.freeMib - n, reloc := t.reloc ++ [(ch, 8, n)] })

/-- RESERVE_EXHAUSTED (R184, R392): the node asserts FAULT_N, isolates itself and waits to be replaced. -/
def State.exhausted (s : State) : State := (s.setB Reg.STACK_STATUS_RESERVE_EXHAUSTED true).nodeFault

/-- Set the isolation bit of an NBU and its counts (R167). -/
def State.isolateNbu (s : State) (bank : Nat) : State :=
  let v := s.get Reg.NBU_ISOLATED
  if bit v bank then s
  else
    let k := bank / 1024
    let s := (s.set Reg.NBU_ISOLATED (v ||| 2 ^ bank)).stick Reg.NBU_ISO_COUNT 1
    let s := (s.stick (Reg.NBU_STACK_ISOLATED k) 1).tallyN .NBU_ISOLATIONS
    (s.setB Reg.NBU_STATUS_ISOLATE_EVT true).setB Reg.NBU_STATUS_FALLBACK true

/-- The cause that an event names holds (R179). -/
def State.chanFails (s : State) (ch : Nat) : ChanCause → Bool
  | .training => decide (s.get Reg.CFG_STATUS_STAGE ≤ 2)
  | .via => (List.range 232).any (fun v => decide (72 ≤ v ∧ tfind s.stk.viaMap (256 * ch + v) = some 255))
  | .erasures => decide (s.get Reg.STACK_CFG_ERASE_MAX < (s.erasures ch).length)
  | .banks => decide (s.get Reg.STACK_CFG_UC_BANKS ≤
      (((s.stk.uc.filter (fun u => decide (u.1 = ch ∧ s.now < u.2.2 + second))).map (fun u => u.2.1)).dedup).length)

/-- A channel fails (R179 to R184): it takes no traffic, its NBUs are isolated, its contents are relocated and their
rebuild begins. The rerank cache is discarded whole, since the manual does not place its records in channels
(assumption 19). -/
def State.failChannel (s : State) (ch : Nat) : State :=
  let k := stackOf ch
  let al := tget (0, 0, 0) s.stk.alloc ch
  let want := al.1 + al.2.1 + al.2.2
  let s := s.set (Reg.STACK_CH_STATE ch) 1
  let s := (s.stick Reg.STACK_RESERVE_FAILED_CH 1).tallyN .STK_CHANNEL_FAILS
  let s := (s.setB Reg.STACK_STATUS_CH_FAIL_EVT true).faultEvent
  let s := (List.range 16).foldl (fun s b => s.isolateNbu (bankNo ch b)) s
  let s := s.modStk fun t => { t with reserve := tset 3072 t.reserve k (s.reserveOf k - 48) }
  let r := if want ≤ s.reserveOf k then s.takeReserve ch k want
    else s.relocate ch (allStacks.filter (fun j => decide (al.1 = 0 ∨ j ≠ (k + 4) % 8))) 9 want
  let s := r.2.showReserve
  let s := s.modStk fun t => { t with rebuilds := t.rebuilds ++ [{ ch := ch, from_ := s.openStep + 1, left := al, done := false }] }
  let s := (s.setB Reg.STACK_STATUS_REBUILDING true).modSrch fun x => { x with cache := [] }
  let s := s.react 1 .channel ch 2 0 want
  if r.1 = 0 then s else s.exhausted

/-- CHANNEL_FAIL (R179). -/
def execChannelFail (chan : Nat) (cause : ChanCause) (s : State) :=
  nodeEvt s (fun s => if chan < 512 ∧ s.get (Reg.STACK_CH_STATE chan) = 0 ∧ s.chanFails chan cause then s.failChannel chan else s)

/-- CHANNEL_REBUILD_DONE (R182): the rebuild takes effect at the next commit. -/
def execChannelRebuildDone (chan : Nat) (s : State) :=
  nodeEvt s (fun s => s.modStk fun t => { t with
    rebuilds := lmod (fun r => decide (r.ch = chan)) (fun r => { r with left := (0, 0, 0), done := true }) t.rebuilds })

/-- Rebuilds that have completed take effect at a commit (R182): the channel reads as failed and relocated. -/
def State.applyRebuilds (s : State) : State :=
  let done := s.stk.rebuilds.filter (·.done)
  let s := done.foldl (fun s r => if s.get (Reg.STACK_CH_STATE r.ch) = 1 then s.set (Reg.STACK_CH_STATE r.ch) 2 else s) s
  let s := s.modStk fun t => { t with rebuilds := t.rebuilds.filter (fun r => !r.done) }
  s.setB Reg.STACK_STATUS_REBUILDING (!s.stk.rebuilds.isEmpty)

/-- CHUNKS (R181): chunks of a failed channel arrive from another node: MiB of each class. -/
def execChunks (chan priv coded reb : Nat) (s : State) :=
  nodeEvt s (fun s => s.modStk fun t => { t with
    rebuilds := lmod (fun r => decide (r.ch = chan))
      (fun r => { r with left := (r.left.1 - priv, r.left.2.1 - coded, r.left.2.2 - reb) }) t.rebuilds })

/-- A write to STACK_TEST (R186): the channel is failed and relocated and enters test; at the end it returns as reserve. -/
def State.stackTest (s : State) (ch : Nat) (req : Bool) : State :=
  if 512 ≤ ch then s
  else if req then
    let s := if s.get (Reg.STACK_CH_STATE ch) = 0 then s.failChannel ch else s
    s.set (Reg.STACK_CH_STATE ch) 3
  else if s.get (Reg.STACK_CH_STATE ch) = 3 then
    let k := stackOf ch
    ((s.set (Reg.STACK_CH_STATE ch) 4).modStk fun t => { t with reserve := tset 3072 t.reserve k (s.reserveOf k + 1536) }).showReserve
  else s

end Sys2Proof.Machine
end

