-- ==== Sys2Proof/Machine/Gran.lean ====
section
/-! DEFINITION. The granary (R190 to R217): the flash map and block table, programs through superblocks, verification,
garbage collection, reads and their recovery, checkpoints, the age counter and the step lease. -/

namespace Sys2Proof.Machine

/-- A block never programmed (R197). -/
def Block.blank : Block := { st := 0, erases := 0, valid := 0, pages := 0, ageW := 0, tempW := 0 }

/-- The key of a block. -/
def blockKey (a : FlashPage) : Nat := ((8 * a.chan + a.lun) * 4 + a.plane) * 65536 + a.block

/-- The LUN of a block key, as 8 channel + LUN. -/
def lunOf (b : Nat) : Nat := b / 262144

/-- The channel of a block key. -/
def chanOf (b : Nat) : Nat := b / 2097152

/-- A block. -/
def State.blk (s : State) (b : Nat) : Block := tget Block.blank s.gran.blocks b

/-- Change a block. -/
def State.setBlk (s : State) (b : Nat) (f : Block → Block) : State :=
  s.modGran fun g => { g with blocks := tset Block.blank g.blocks b (f (s.blk b)) }

/-- The flash map entry of a unit of a page (R196). -/
def mapWord (a : FlashPage) (u : Nat) : Nat :=
  2 ^ 63 + a.chan * 2 ^ 58 + a.lun * 2 ^ 55 + a.plane * 2 ^ 53 + a.block * 2 ^ 37 + a.page * 2 ^ 25 + u * 2 ^ 23

/-- The block that a map entry names. -/
def mapBlock (w : Nat) : Nat := ((8 * bits w 58 4 + bits w 55 3) * 4 + bits w 53 2) * 65536 + bits w 37 16

/-- The logical page of a unit; lease marks and trim records lie in pages of their own stream. -/
def unitPage : FlashUnit → Option Nat
  | .rerank l _ _ _ => some l
  | .index l _ _ _ => some l
  | .weights l => some l
  | .moved l => some l
  | .shared l _ => some l
  | .lease _ => none
  | .trim _ => none

/-- Unmap a logical page: its old unit is no longer valid (R197). -/
def State.unmap (s : State) (l : Nat) : State :=
  match tfind s.gran.map l with
  | none => s
  | some w => (s.setBlk (mapBlock w) (fun b => { b with valid := b.valid - 1 })).modGran fun g => { g with map := tdel g.map l }

/-- Map a logical page to a unit of a page. -/
def State.remap (s : State) (l : Nat) (a : FlashPage) (u : Nat) : State :=
  let s := s.unmap l
  (s.setBlk (blockKey a) (fun b => { b with valid := b.valid + 1 })).modGran fun g => { g with map := tput g.map l (mapWord a u) }

/-- Superblocks that may hold parity at once (R200). -/
def State.superMax (s : State) : Nat :=
  let n := s.gran.profile.page * s.gran.profile.pages
  if n = 0 then 24 else min 24 (2 ^ 32 / n)

/-- A failure of a LUN, remembered for an hour; with failures in 16 or more of its blocks the LUN is marked failed
(R209). -/
def State.lunFail (s : State) (b : Nat) : State :=
  let l := lunOf b
  let s := s.modGran fun g => { g with
    lunFails := (g.lunFails.filter (fun f => decide (s.now < f.2.2 + 3600 * second))) ++ [(l, b, s.now)] }
  let n := (((s.gran.lunFails.filter (fun f => decide (f.1 = l))).map (fun f => f.2.1)).dedup).length
  let v := s.get (Reg.GRAN_CH_FAILED_LUNS (l / 8))
  if n < 16 ∨ bit v (l % 8) = true then s
  else
    let s := (s.set (Reg.GRAN_CH_FAILED_LUNS (l / 8)) (v ||| 2 ^ (l % 8))).set (Reg.GRAN_CH_STATE (l / 8)) 2
    let p := s.gran.profile
    let gib := p.planes * p.blocks * p.pages * p.page / 2 ^ 30
    let user := s.get Reg.GRAN_SPACE_USER_GIB - gib
    let s := ((s.set Reg.GRAN_SPACE_USER_GIB user).setB Reg.GRAN_STATUS_LUN_FAIL_EVT true).faultEvent
    let s := s.react 2 .lun l 2 0 b
    if user < s.get Reg.GRAN_SPACE_ALLOC_GIB then s.exhausted else s

/-- Retire a block (R200, R201). -/
def State.retire (s : State) (b : Nat) : State :=
  let s := (s.setBlk b (fun x => { x with st := 4 })).tallyN .GRAN_BLOCKS_RETIRED
  let s := s.stick (Reg.GRAN_CH_BAD_BLOCKS (chanOf b)) 1
  (s.setB Reg.GRAN_STATUS_RETIRE_EVT true).faultEvent

/-- Committed data not yet programmed, as GRAN_UNPROG shows it (R215). -/
def State.setUnprog (s : State) (n : Nat) : State :=
  (s.modGran fun g => { g with unprog := n }).set Reg.GRAN_UNPROG (cdiv n 1024)

/-- The staged records of a unit, among those committed and not yet verified in flash. -/
def State.stagedOf (s : State) (u : FlashUnit) : List (Nat × Nat × Nat × Nat × Nat) :=
  match u with
  | .rerank _ h n slots => s.srch.unflushed.filter (fun r => decide (r.1 = h ∧ r.2.1 = n) && slots.contains r.2.2.1)
  | _ => []

/-- Bytes of committed data that a programmed unit settles. -/
def State.settledBytes (s : State) (u : FlashUnit) : Nat :=
  match u with
  | .rerank _ h _ _ => (s.stagedOf u).length * s.recordBytes h
  | .index _ h n pg => ((s.gran.idxDirty.filter (fun d => decide (d.1 = h ∧ d.2.1 = n ∧ d.2.2.1 = pg))).map (fun d => 32 * d.2.2.2.1)).sum
  | _ => 0

/-- What a programmed unit does beyond its map entry: committed bytes leave the unprogrammed count, a dirty index page is
clean, a lease mark takes effect (R205), a trim unmaps its page (R197). -/
def State.programmed (s : State) (u : FlashUnit) (again : Bool) : State :=
  let s := if again then s else s.setUnprog (s.gran.unprog - s.settledBytes u)
  match u with
  | .index _ h n pg => s.modGran fun g => { g with
      idxDirty := g.idxDirty.filter (fun d => !decide (d.1 = h ∧ d.2.1 = n ∧ d.2.2.1 = pg)) }
  | .lease m =>
    let s := s.set Reg.GRAN_LEASE (max m (s.get Reg.GRAN_LEASE))
    s.modGran fun g => { g with leaseDue := if g.leaseDue = some m then none else g.leaseDue }
  | .trim l => s.unmap l
  | _ => s

/-- The open superblock of a stream that a page joins: the member block's own, or one still short of a block on the
channel (R199). -/
def State.superFor (s : State) (stream : Nat) (a : FlashPage) : Option Super :=
  s.gran.supers.find? (fun u => decide (u.stream = stream) && !u.full &&
    (u.blocks.contains (blockKey a) || !(u.blocks.any (fun b => decide (chanOf b = a.chan)))))

/-- A block of a superblock whose parity is held fails (R200): its pages and the units of a failed program are rebuilt from
the parity and queued for the stream's next superblock, and the block is retired. -/
def State.loseBlock (s : State) (b : Nat) (units : List FlashUnit) : State :=
  match s.gran.supers.find? (fun u => u.blocks.contains b) with
  | none => s.retire b
  | some sup =>
    let lost := units ++ sup.units.filter (fun u => match unitPage u with
      | some l => decide ((tfind s.gran.map l).map mapBlock = some b)
      | none => false)
    (s.retire b).modGran fun g => { g with
      rewrite := g.rewrite ++ lost.map (fun u => (sup.stream, u))
      supers := g.supers.map (fun u => { u with blocks := u.blocks.filter (fun x => decide (x ≠ b)) }) }

/-- FLASH_PROGRAM_DONE (R199, R200, R205, R215): a page of a stream is programmed, or the program fails: then the lost pages
are rebuilt from parity, queued for the stream's next superblock, and the block retired. A page that would need one more
superblock than may hold parity waits. -/
def execFlashProgramDone (stream : Nat) (at_ : FlashPage) (units : List FlashUnit) (ok : Bool) (s : State) :=
  nodeEvt s (fun s =>
    let b := blockKey at_
    let k := s.blk b
    let p := s.gran.profile
    let sup := (s.superFor stream at_).getD { stream := stream, blocks := [], units := [], full := false }
    let fresh := (s.superFor stream at_).isNone
    if 6 ≤ stream ∨ 2 ≤ k.st ∨ (fresh = true ∧ s.superMax ≤ s.gran.supers.length) ∨ p.pages = 0 then s
    else if !ok then
      let lost := units ++ sup.units.filter (fun u => match unitPage u with
        | some l => decide ((tfind s.gran.map l).map mapBlock = some b)
        | none => false)
      let s := ((s.tallyN .GRAN_PROG_FAILS).tallyN .GRAN_PARITY_RECOVERED (k.pages + 1)).retire b
      let s := s.modGran fun g => { g with rewrite := g.rewrite ++ lost.map (fun u => (stream, u)),
                                           supers := g.supers.map (fun u => { u with blocks := u.blocks.filter (fun x => decide (x ≠ b)) }) }
      s.lunFail b
    else
      let s := s.setBlk b (fun x => { x with
        st := if x.pages + 1 < p.pages then 1 else 2
        pages := x.pages + 1
        ageW := if x.pages = 0 then s.get Reg.GRAN_AGE_AGE else x.ageW
        tempW := if x.pages = 0 then tget 0 s.gran.lunTemp (lunOf b) else x.tempW })
      let s := units.foldl (fun s u =>
        let again := s.gran.rewrite.any (fun r => decide (r.2 = u))
        let s := (s.programmed u again).modGran fun g => { g with rewrite := g.rewrite.filter (fun r => decide (r.2 ≠ u)) }
        s) s
      let s := (List.range units.length).foldl (fun s i => match units[i]? with
        | some u => (match unitPage u with | some l => s.remap l at_ i | none => s)
        | none => s) s
      let sup' := { sup with blocks := if sup.blocks.contains b then sup.blocks else sup.blocks ++ [b], units := sup.units ++ units }
      let sup' := { sup' with full := sup'.blocks.all (fun x => decide ((s.blk x).pages = p.pages)) }
      s.modGran fun g => { g with
        seq := g.seq + 1
        supers := if fresh then g.supers ++ [sup'] else g.supers.map (fun u => if u = sup then sup' else u) })

/-- What SUPERBLOCK_VERIFY does (R146, R200): a full superblock is read back. Frames that fail are rebuilt from parity and
rewritten first; with none it is closed, its parity dropped and its staged records released, their credit returned (R137).
The units of a superblock that has been verified are answered. -/
def State.verifySuper (s : State) (stream bad : Nat) : State × List FlashUnit :=
  match s.gran.supers.find? (fun u => decide (u.stream = stream) && u.full) with
  | none => (s, [])
  | some u =>
    if 0 < bad then
      ((s.tallyN .GRAN_PARITY_RECOVERED bad).modGran fun g => { g with
        rewrite := g.rewrite ++ (u.units.take bad).map (fun x => (stream, x)) }, [])
    else
      let recs := (u.units.map s.stagedOf).flatten.dedup
      let s := u.blocks.foldl (fun s b => s.setBlk b (fun x => { x with st := if x.st = 2 then 3 else x.st })) s
      let s := s.modGran fun g => { g with supers := g.supers.filter (fun x => decide (x ≠ u)) }
      let s := s.modSrch fun k => { k with unflushed := k.unflushed.filter (fun r => !recs.contains r) }
      (recs.foldl (fun s r => s.returnCredit r.2.2.2.1 r.2.2.2.2) s, u.units)

/-! ### Garbage collection -/

/-- Blocks of a LUN. -/
def State.lunBlocks (s : State) : Nat := s.gran.profile.planes * s.gran.profile.blocks

/-- Free blocks of a LUN (R201). -/
def State.freeBlocks (s : State) (lun : Nat) : Nat :=
  s.lunBlocks - (s.gran.blocks.filter (fun e => decide (lunOf e.1 = lun ∧ e.2.st ≠ 0))).length

/-- Logical page and frame of a slot's record in a shard's rerank region (R211). -/
def State.slotPage (s : State) (h n slot : Nat) : Option (Nat × Nat) :=
  let z := s.recordBytes h
  let c := if z ≤ 4096 then slot / (4096 / z) else slot * cdiv z 4096
  ((List.range 256).find? (fun i => decide (s.get (Reg.GRAN_REGION_PAGES i) ≠ 0 ∧ s.get (Reg.GRAN_REGION_KIND i) = 0 ∧
    s.get (Reg.GRAN_REGION_HANDLE i) = h ∧ s.get (Reg.GRAN_REGION_SHARD i) = n))).map
    (fun i => (s.get (Reg.GRAN_REGION_BASE i) + c / 4 % s.get (Reg.GRAN_REGION_PAGES i), c % 4))

/-- Blocks that hold a frame a gleaning read is waiting for (R201). -/
def State.awaited (s : State) : List Nat :=
  (s.srch.work.map (fun w => (w.shards.map (fun x => ((x.cands.getD []).filter
    (fun e => !(x.gleaned.any (fun g => decide (g.1.slot = e.slot))))).filterMap (fun e =>
      (s.slotPage w.q.handle x.shard e.slot).bind (fun p => (tfind s.gran.map p.1).map mapBlock)))).flatten)).flatten

/-- The victim on a LUN: the closed block with the fewest valid units, then the lower erase count, then the lower address
(R201). -/
def State.victim (s : State) (lun : Nat) : Option Nat :=
  let busy := s.awaited
  let le (a b : Nat × Block) : Bool := decide (a.2.valid < b.2.valid ∨ (a.2.valid = b.2.valid ∧
    (a.2.erases < b.2.erases ∨ (a.2.erases = b.2.erases ∧ a.1 ≤ b.1))))
  ((sortBy le (s.gran.blocks.filter (fun e => decide (lunOf e.1 = lun ∧ e.2.st = 3) && !busy.contains e.1 &&
    !s.gran.collecting.contains e.1))).head?).map (·.1)

/-- Queue the valid units of a block for stream 4. -/
def State.moveUnits (s : State) (b : Nat) : State :=
  let ls := (s.gran.map.filter (fun e => decide (mapBlock e.2 = b))).map (·.1)
  s.modGran fun g => { g with rewrite := g.rewrite ++ ls.map (fun l => (4, FlashUnit.moved l)),
                              collecting := if g.collecting.contains b then g.collecting else g.collecting ++ [b] }

/-- GC_TRIGGER (R201): with fewer than 1 % of a LUN's blocks free, its victim's valid units move through stream 4. -/
def execGcTrigger (lun : Nat) (s : State) :=
  nodeEvt s (fun s =>
    if 100 * s.freeBlocks lun < s.lunBlocks then
      match s.victim lun with
      | some b => (s.tallyN .GRAN_GC_UNITS (s.blk b).valid).moveUnits b
      | none => s
    else s)

/-- FLASH_ERASE_DONE (R197, R201): a collected block without valid units is free again, or retired when the erase fails. -/
def execFlashEraseDone (block : Nat) (ok : Bool) (s : State) :=
  nodeEvt s (fun s =>
    if !s.gran.collecting.contains block ∨ (s.blk block).valid ≠ 0 then s
    else
      let s := s.modGran fun g => { g with collecting := g.collecting.filter (fun b => decide (b ≠ block)) }
      if ok then
        let n := (s.blk block).erases + 1
        let s := s.setBlk block (fun _ => { Block.blank with erases := n })
        s.set (Reg.GRAN_CH_MAX_ERASE (chanOf block)) (max n (s.get (Reg.GRAN_CH_MAX_ERASE (chanOf block))))
      else ((s.tallyN .GRAN_ERASE_FAILS).retire block).lunFail block)

/-! ### Reads -/

/-- Age band of a block (R206): minutes since its first program. -/
def ageBand (m : Nat) : Nat :=
  if m < 60 then 0 else if m < 1440 then 1 else if m < 10080 then 2 else if m < 43200 then 3
  else if m < 129600 then 4 else if m < 525600 then 5 else if m < 1576800 then 6 else 7

/-- Temperature band (R206). -/
def tempBand (t : Nat) : Nat := if t < 25 then 0 else if t < 45 then 1 else if t < 65 then 2 else 3

/-- Erase band (R206), as a share of the rated cycles. -/
def eraseBand (n rated : Nat) : Nat :=
  if 100 * n < 10 * rated then 0 else if 100 * n < 40 * rated then 1 else if 100 * n < 70 * rated then 2 else 3

/-- The threshold table index of a read of a block (R206). -/
def State.thrIndex (s : State) (b : Nat) : Nat :=
  let k := s.blk b
  ((ageBand (s.get Reg.GRAN_AGE_AGE - k.ageW) * 4 + tempBand k.tempW) * 4 + tempBand (tget 0 s.gran.lunTemp (lunOf b))) * 4 +
    eraseBand k.erases s.gran.profile.cycles

/-- A block whose reads need 4 or more retries, or whose age band reaches 6, moves through stream 4 (R207), unless it is moving already
or retired. -/
def State.retain (s : State) (b retries : Nat) : State :=
  if s.gran.collecting.contains b ∨ (s.blk b).st = 4 ∨ (retries < 4 ∧ ageBand (s.get Reg.GRAN_AGE_AGE - (s.blk b).ageW) < 6) then s
  else (s.tallyN .GRAN_RETAIN_MOVES).moveUnits b

/-- The region of a logical page (R195). -/
def State.regionOf (s : State) (l : Nat) : Option Nat :=
  (List.range 256).find? (fun i => decide (s.get (Reg.GRAN_REGION_PAGES i) ≠ 0 ∧ s.get (Reg.GRAN_REGION_BASE i) ≤ l ∧
    l < s.get (Reg.GRAN_REGION_BASE i) + s.get (Reg.GRAN_REGION_PAGES i)))

/-- A page of a record index is known to be readable at some holder, or at none (R145, R209). -/
def State.idxRead (s : State) (l : Nat) (ok : Bool) : State :=
  s.modSrch fun k => { k with lostIdx := if ok then k.lostIdx.erase l else if k.lostIdx.contains l then k.lostIdx else k.lostIdx ++ [l] }

/-- A frame that stays uncorrectable (R209): of a block whose parity is held, its pages are rebuilt and the block retired
(R200); otherwise the shard's other node is asked for its records, or nothing recovers it here. An index page of a shard with no other
holder is lost (R469). -/
def State.recoverFrame (s : State) (l b : Nat) : State :=
  let s := ((s.tallyN .GRAN_UNCORRECTABLE).setB Reg.GRAN_STATUS_UC_EVT true).faultEvent.lunFail b
  if s.gran.supers.any (fun u => u.blocks.contains b) then (s.loseBlock b []).tallyN .GRAN_PARITY_RECOVERED (s.blk b).pages
  else match s.regionOf l with
    | none => s
    | some i =>
      let h := s.get (Reg.GRAN_REGION_HANDLE i)
      let n := s.get (Reg.GRAN_REGION_SHARD i)
      if s.get (Reg.GRAN_REGION_KIND i) = 0 then
        let slots := ((s.srch.work.filter (fun w => decide (w.q.handle = h))).map (fun w => (w.shards.filter
          (fun x => decide (x.shard = n))).map (fun x => ((x.cands.getD []).filter (fun e =>
            decide ((s.slotPage h n e.slot).map (·.1) = some l) && !(x.gleaned.any (fun g => decide (g.1.slot = e.slot))))).map (·.slot)))).flatten.flatten.dedup
        match s.farHolder h n with
        | some y => slots.foldl (fun s slot => s.sendMsg 0 9 0 y 16 (.bulkRecordRead h n slot s.me)) s
        | none => s
      else if s.get (Reg.GRAN_REGION_KIND i) = 1 ∧ (s.farHolder h n).isNone = true then s.idxRead l false
      else s

/-- FLASH_READ_DONE (R206, R207, R209): a frame of a logical page decodes, after retries with shifted levels and a soft
read, or stays uncorrectable. -/
def execFlashReadDone (lpage retries : Nat) (soft ok : Bool) (s : State) :=
  nodeEvt s (fun s =>
    match tfind s.gran.map lpage with
    | none => s
    | some w =>
      let b := mapBlock w
      let r := min retries (s.get Reg.GRAN_CFG_RETRY_MAX)
      let s := ((s.tallyN .GRAN_READS).tallyN .GRAN_RETRIES r).tallyN .GRAN_SOFT_READS (b2n soft)
      let s := if ok then s else s.recoverFrame lpage b
      s.retain b r)

/-! ### Timers and the lease -/

/-- CHECKPOINT_TIMER (R203): the next map segment is written every CKPT_SECONDS/1,024 seconds. -/
def execCheckpointTimer (s : State) :=
  nodeEvt s (fun s =>
    if s.now < s.gran.ckptTick + s.get Reg.GRAN_CFG_CKPT_SECONDS * second / 1024 then s
    else (s.modGran fun g => { g with
      ckpt := tput g.ckpt g.ckptNext g.seq, ckptNext := (g.ckptNext + 1) % 1024, ckptTick := s.now }).tallyN .GRAN_CKPT_SEGMENTS)

/-- AGE_TICK (R206): the age counter advances once a minute. -/
def execAgeTick (s : State) :=
  nodeEvt s (fun s =>
    if s.now < s.gran.ageTick + 60 * second then s
    else (s.modGran fun g => { g with ageTick := g.ageTick + 60 * second }).stick Reg.GRAN_AGE_AGE 1)

/-- LUN_TEMP_SAMPLE (R206). -/
def execLunTempSample (lun temp : Nat) (s : State) :=
  nodeEvt s (fun s => if lun < 128 then s.modGran fun g => { g with lunTemp := tset 0 g.lunTemp lun temp } else s)

/-- The step may be done as far as the granary goes (R205, R215): its lease mark is programmed and the unprogrammed data
is within FLUSH_MIB. -/
def State.flashReady (s : State) (t : Nat) : Bool :=
  decide (t < s.get Reg.GRAN_LEASE ∧ s.gran.unprog ≤ s.get Reg.GRAN_CFG_FLUSH_MIB * 2 ^ 20)

/-- Queue the next lease mark once the committed step is within 2,048 of the present one (R205). -/
def State.queueLease (s : State) : State :=
  let m := s.get Reg.GRAN_LEASE
  if s.gran.leaseDue.isNone && decide (m ≤ max (s.get Reg.STEP_COMMITTED) (s.openStep - 1) + 2048) then
    s.modGran fun g => { g with leaseDue := some (max m (s.openStep - 1) + 4096) }
  else s

/-- FLUSH_DONE (R216): every committed record is programmed and a lease mark names the open step plus 4,096. A latched reset
is applied by the start-up block. -/
def State.endFlush (s : State) : State :=
  let s := (s.setUnprog 0).set Reg.GRAN_LEASE (max (s.openStep + 4096) (s.get Reg.GRAN_LEASE))
  let s := s.modSrch fun k => { k with unflushed := [] }
  (s.modGran fun g => { g with leaseDue := none, idxDirty := [], flushed := true }).setB Reg.GRAN_STATUS_FLUSHING false

end Sys2Proof.Machine
end

