-- ==== Sys2Proof/Machine/Home.lean ====
section
/-! DEFINITION. Shared memory (R296 to R323): addresses and homes, the home's directory and its queue, the lines this node
holds, the home's cache frames, lost lines and their log. Host commands and publication follow in Share. -/

namespace Sys2Proof.Machine

/-- Change the shared memory's state. -/
def State.modHome (s : State) (f : HomeSt → HomeSt) : State := { s with home := f s.home }

/-! ### Addresses (R297, R158) -/

/-- The placement offset of a block of granules. -/
def placeHash (b : Nat) : Nat := b * 0x9E3779B97F4A7C15 % 2 ^ 64 / 2 ^ 32

/-- Exporters E. -/
def State.exporters (s : State) : Nat := s.get Reg.HOME_CFG_EXPORTERS

/-- RES in bytes (R298). -/
def State.resBytes (s : State) : Nat := s.get Reg.HOME_CFG_RES_GIB * 2 ^ 30

/-- The export position of a granule's home. -/
def State.homePos (s : State) (g : Nat) : Nat := (g % s.exporters + placeHash (g / s.exporters)) % s.exporters

/-- The home of a granule. -/
def State.homeNode (s : State) (g : Nat) : Nat := s.home.exports.getD (s.homePos g) 0xFFF

/-- The home of a line. -/
def State.homeOf (s : State) (line : Nat) : Nat := s.homeNode (line / 64)

/-- The shared address of local offset x of export position p. -/
def State.sharedOf (s : State) (p x : Nat) : Nat :=
  let e := s.exporters
  let b := x / 4096
  (b * e + (p + e - placeHash b % e) % e) * 4096 + x % 4096

/-- The granule is resident at its home (R298). -/
def State.resident (s : State) (g : Nat) : Bool := decide (g / s.exporters * 4096 < s.resBytes)

/-- The interleaved offset of a bank-view offset of a region of r bytes (the inverse of R158). -/
def fromBankView (r v : Nat) : Nat :=
  let n := r / 8192
  let c := v / n / 16
  let b := v / n % 16
  let u := v % n / 256
  let q := u * 16 + (Nat.xor (Nat.xor (Nat.xor b u) (Nat.xor (u / 16) (u / 256))) (Nat.xor (u / 4096) (u / 65536))) % 16
  let p := q * 512 + (Nat.xor (Nat.xor c q) (Nat.xor (q / 512) (q / 262144))) % 512
  p * 256 + v % 256

/-- The bank-view offset of an interleaved offset (R158). -/
def toBankView (r x : Nat) : Nat :=
  let p := x / 256
  let q := p / 512
  let c := (Nat.xor (Nat.xor p q) (Nat.xor (q / 512) (q / 262144))) % 512
  let b := (Nat.xor (Nat.xor (Nat.xor q (q / 16)) (Nat.xor (q / 256) (q / 4096))) (Nat.xor (q / 65536) (q / 1048576))) % 16
  (c * 16 + b) * (r / 8192) + q / 16 * 256 + x % 256

/-- The shared address that a host physical address of host pid names through its committed decoders (R299, R332). -/
def State.sharedAddr (s : State) (pid hpa : Nat) : Option Nat :=
  let c := s.ctx pid
  let size := s.shmSize
  match c.hdmShared, c.hdmBank with
  | some b, _ =>
    if b ≤ hpa ∧ hpa < b + size then some (hpa - b)
    else (c.hdmBank.bind (fun k => if k ≤ hpa ∧ hpa < k + s.exporters * s.resBytes then
      some (s.sharedOf ((hpa - k) / s.resBytes) (fromBankView s.resBytes ((hpa - k) % s.resBytes))) else none))
  | none, some k =>
    if k ≤ hpa ∧ hpa < k + s.exporters * s.resBytes then
      some (s.sharedOf ((hpa - k) / s.resBytes) (fromBankView s.resBytes ((hpa - k) % s.resBytes)))
    else none
  | none, none => none

/-! ### Lines, frames and flash of this home -/

/-- The bytes of a line homed here. -/
def State.lineMem (s : State) (l : Nat) : Nat := tget 0 s.home.mem l

/-- Write a line homed here. -/
def State.putLine (s : State) (l v : Nat) : State := s.modHome fun h => { h with mem := tset 0 h.mem l v }

/-- The 64 lines of a granule. -/
def linesOf (g : Nat) : List Nat := (List.range 64).map (fun i => 64 * g + i)

/-- A frame without use. -/
def Frame.fresh : Frame := { hint := 3, dirtyAt := 0, used := 0, hotFor := 0 }

/-- The granule is in DRAM here: resident, or cached in a frame. -/
def State.cached (s : State) (g : Nat) : Bool := s.resident g || (tfind s.home.frames g).isSome

/-- HOME_CACHE shows the dirty and the hot granules in MiB. -/
def State.showCache (s : State) : State :=
  let n (f : Frame → Bool) : Nat := (s.home.frames.countP (fun e => f e.2)) / 256
  (s.set Reg.HOME_CACHE_DIRTY_MIB (n (fun f => decide (f.dirtyAt ≠ 0)))).set Reg.HOME_CACHE_HOT_MIB (n (fun f => decide (f.hint = 1)))

/-- Change the frame entry of a granule, resident granules having one for their dirty time. -/
def State.modFrame (s : State) (g : Nat) (f : Frame → Frame) : State :=
  (s.modHome fun h => { h with frames := tput h.frames g (f (tget Frame.fresh h.frames g)) }).showCache

/-- A use of a granule here, for the least-recently-used order. -/
def State.useFrame (s : State) (g : Nat) : State :=
  if (tfind s.home.frames g).isNone then s
  else (s.modFrame g (fun f => { f with used := s.home.turn + 1 })).modHome fun h => { h with turn := h.turn + 1 }

/-- Write a line here and mark its granule dirty from now (R300). -/
def State.writeLine (s : State) (l v : Nat) : State :=
  (s.putLine l v).modFrame (l / 64) (fun f => { f with dirtyAt := if f.dirtyAt = 0 then s.now + 1 else f.dirtyAt })

/-- Program a granule's own copy to flash (R300): the flash then holds it (assumption 25). -/
def State.writeBack (s : State) (g : Nat) : State :=
  let s := s.modHome fun h => { h with flash := (linesOf g).foldl (fun t l => tset 0 t l (tget 0 h.mem l)) h.flash }
  (s.modFrame g (fun f => { f with dirtyAt := 0 })).tallyN .SHM_WRITEBACKS

/-- Put v's bytes into w where the mask has a bit. -/
def mergeMask (w v mask : Nat) : Nat :=
  ((List.range 64).map (fun i => (if bit mask i then v / 256 ^ i % 256 else w / 256 ^ i % 256) * 256 ^ i)).sum

/-- The whole line. -/
def fullMask : Nat := 2 ^ 64 - 1

/-! ### Lost lines and the log (R313, R315, R316) -/

/-- The partition of the range that holds an address, 0 for none. -/
def State.rangePart (s : State) (a : Nat) : Nat :=
  match s.rangeOf a with | some i => s.get (Reg.HOME_RANGE_PARTITION i) | none => 0

/-- A loss event on a range: LOSSES, LAST_LOSS_STEP, and INCOMPLETE on a staging range (R315, R317). -/
def State.rangeLoss (s : State) (i step : Nat) : State :=
  let s := (s.stick (Reg.HOME_RANGE_LOSSES i) 1).set (Reg.HOME_RANGE_LAST_LOSS_STEP i) step
  if s.get (Reg.HOME_RANGE_KIND i) = 1 then s.setB (Reg.HOME_RANGE_INCOMPLETE i) true else s

/-- Keep a log entry until the commit that appends it, in order of node and address (R316); a loss with its holder counts
on its range at once. -/
def State.keepEntry (s : State) (e : LostEntry) : State :=
  let le (a b : LostEntry) : Bool := decide (a.step < b.step ∨ (a.step = b.step ∧ (a.node < b.node ∨ (a.node = b.node ∧ a.addr ≤ b.addr))))
  let s := s.modHome fun h => { h with logPend := insSorted le e h.logPend }
  if e.cause = 0 ∨ e.cause = 3 then s.rangeLoss e.range e.step else s

/-- Entries that this node detects: kept here and sent to every member (R316). -/
def State.logLost (s : State) (es : List LostEntry) : State :=
  if es.isEmpty then s
  else (es.foldl State.keepEntry s).sendEach 0 10 0 (32 * es.length) (.lostLog es s.me) s.otherMembers

/-- A log entry for a line. -/
def State.lostEntry (s : State) (a pid cause : Nat) : LostEntry :=
  { step := s.openStep, node := s.me, part := s.rangePart a, addr := a, pid := pid, cause := cause, range := (s.rangeOf a).getD 0xFFFF }

/-- LOST_LOG (R316). -/
def execLostLog (entries : List LostEntry) (_src : Nat) (s : State) :=
  nodeEvt s (fun s => entries.foldl State.keepEntry s)

/-- Append an entry to its partition's log page (R316). -/
def State.appendLog (s : State) (e : LostEntry) : State :=
  let p := e.part
  if p = 0 ∨ 64 < p then s
  else
    let n := s.get (Reg.HOME_LOST_COUNT p) % 127
    let s := ((s.set (Reg.HOME_LOST_STEP p n) e.step).set (Reg.HOME_LOST_ADDRESS p n) e.addr).set (Reg.HOME_LOST_HOST p n) e.pid
    let s := ((s.set (Reg.HOME_LOST_CAUSE p n) e.cause).set (Reg.HOME_LOST_RANGE p n) e.range).stick (Reg.HOME_LOST_COUNT p) 1
    (s.setB (Reg.HOME_STATUS_LOG_EVT p) true).event p 4

/-- Append the entries of steps before the committed one (R316). -/
def State.appendLogs (s : State) (t : Nat) : State :=
  let due := s.home.logPend.filter (fun e => decide (e.step + 1 ≤ t))
  due.foldl State.appendLog (s.modHome fun h => { h with logPend := h.logPend.filter (fun e => decide (t < e.step + 1)) })

/-- A line becomes lost (R313): counted, and logged with cause 2. -/
def State.loseLine (s : State) (l : Nat) : State :=
  if s.home.lost.contains l then s
  else
    let e := s.lostEntry (64 * l) 0xFFFF 2
    let s := (s.modHome fun h => { h with lost := h.lost ++ [l] }).tallyP .SHM_UC_LINES e.part
    ((s.setB Reg.HOME_STATUS_UC_EVT true).event e.part 4).logLost [e]

/-! ### Messages -/

/-- The command that a coherence message becomes at its destination (R356). -/
def cohCmd (m : CohMsg) (src : Nat) : Instr :=
  match m with
  | .rds l => .rds l src
  | .rdo l => .rdo l src
  | .upg l => .upg l src
  | .wbm l d => .wbm l d src
  | .evs l => .evs l src
  | .inv l d k t => .invWrite l d k t src
  | .cas id r e b p => .cas id r e b p src
  | .snpData l f => .snpdata l f src
  | .snpInv l f => .snpinv l f src
  | .data l st d => .cohRspData l st d src
  | .grant l => .grant l src
  | .snpRsp l d b => .snpRsp l d b src
  | .casRsp id ok v t => .casRsp id ok v t src
  | .done l t => .cohDone l t src

/-- The class of a coherence message (R356). -/
def cohCls : CohMsg → Nat
  | .rds _ | .rdo _ | .upg _ | .wbm .. | .evs _ | .inv .. | .cas .. => 5
  | .snpData .. | .snpInv .. => 6
  | _ => 7

/-- Body bytes: address and fields, and the line where it travels. -/
def cohBytes : CohMsg → Nat
  | .wbm .. | .data .. => 80
  | .inv .. => 88
  | .snpRsp _ (some _) _ => 80
  | .cas .. | .casRsp .. => 32
  | _ => 16

/-- Send a coherence message; one to this node waits in its inbox. -/
def State.coh (s : State) (dst : Nat) (m : CohMsg) : State :=
  if dst = s.me then s.modHome fun h => { h with inbox := h.inbox ++ [m] }
  else s.sendMsg 0 (cohCls m) 0 dst (cohBytes m) (cohCmd m s.me)

/-! ### The home (R306, R307, R309, R311) -/

/-- The directory entry of a line: I. -/
def DirLine.none : DirLine := { sharers := [], fwd := Option.none, owner := Option.none }

/-- The directory entry of a line. -/
def State.dirOf (s : State) (l : Nat) : DirLine := tget DirLine.none s.home.dir l

/-- Set the directory entry of a line. -/
def State.setDir (s : State) (l : Nat) (d : DirLine) : State := s.modHome fun h => { h with dir := tset DirLine.none h.dir l d }

/-- One owner. -/
def DirLine.own (x : Nat) : DirLine := { DirLine.none with owner := some x }

/-- Every holder of a line. -/
def DirLine.holders (d : DirLine) : List Nat := d.owner.toList ++ d.sharers

/-- The entry without a holder. -/
def DirLine.drop (d : DirLine) (x : Nat) : DirLine :=
  { sharers := d.sharers.filter (fun y => decide (y ≠ x)), fwd := if d.fwd = some x then Option.none else d.fwd,
    owner := if d.owner = some x then Option.none else d.owner }

/-- The snoops a request needs (R311): holder, invalidating, and the node the holder forwards to. -/
def State.snoopsFor (s : State) (q : HomeReq) : List (Nat × Bool × Option Nat) :=
  let d := s.dirOf q.line
  let x := q.src
  let other (l : List Nat) : List Nat := l.filter (fun y => decide (y ≠ x))
  match q.kind with
  | .rds => match d.owner, d.fwd with
    | some y, _ => if y = x then [] else [(y, false, none)]
    | none, some f => if f = x then [] else [(f, false, some x)]
    | none, none => []
  | .rdo | .upg => match d.owner with
    | some y => if y = x then [] else [(y, true, some x)]
    | none => (other d.sharers).map (fun y => (y, true, none))
  | .inv .. | .cas .. => d.holders.map (fun y => (y, true, none))
  | .recall i => if i then d.holders.map (fun y => (y, true, none)) else d.owner.toList.map (fun y => (y, false, none))

/-- Take a line's bytes to the requester: the state it gets, or that the line is lost (R313). -/
def State.sendLine (s : State) (x l : Nat) (st : LineSt) : State :=
  s.coh x (.data l st (if s.home.lost.contains l then none else some (s.lineMem l)))

/-- A published range and the one it replaces change their kind (R320): on the home and on the publishing node. -/
def State.publishRange (s : State) (r base release : Nat) : State :=
  let ofKind (k i : Nat) : Bool := decide (s.get (Reg.HOME_RANGE_LENGTH i) ≠ 0 ∧ s.get (Reg.HOME_RANGE_REGION i) = r ∧
    s.get (Reg.HOME_RANGE_KIND i) = k)
  let new := firstIdx 4096 (fun i => ofKind 1 i && decide (s.get (Reg.HOME_RANGE_BASE i) = base))
  let old := firstIdx 4096 (fun i => ofKind 2 i && decide (s.get (Reg.HOME_RANGE_BASE i) ≠ base))
  match new with
  | none => s
  | some n =>
    let s := (s.set (Reg.HOME_RANGE_KIND n) 2).setB (Reg.HOME_RANGE_SEALING n) false
    let s := match old with
      | some o => (s.set (Reg.HOME_RANGE_KIND o) 3).modHome fun h => { h with retained := h.retained ++ [(o, release)] }
      | none => s
    let p := s.get (Reg.HOME_REGION_PARTITION r)
    (s.setB (Reg.HOME_STATUS_PUBLISH_EVT p) true).event p 4

/-- A descriptor line's bytes as a number (R318). -/
def descLine (version content length step prev release pid : Nat) : Nat :=
  let b := sealCrc (natLe 8 version ++ natLe 8 content ++ natLe 8 length ++ natLe 8 step ++ natLe 8 prev ++ natLe 8 release ++
    natLe 2 pid ++ natLe 14 0) 60
  leNat b 0 64

/-- The 64-bit word at byte o of a line. -/
def lineWord (v o : Nat) : Nat := v / 256 ^ o % 2 ^ 64

/-- The compare-and-swap at the descriptor's home (R318, R320). -/
def State.applyCas (s : State) (l : Nat) (id : OpId) (r expect base pid src : Nat) : State :=
  let v := lineWord (s.lineMem l) 0
  if v = expect then
    let t := s.openStep
    let rel := t + s.get (Reg.HOME_REGION_RETAIN r)
    let old := lineWord (s.lineMem l) 8
    let none_ := decide (old = 2 ^ 64 - 1)
    let s := s.writeLine l (descLine (v + 1) base (s.get (Reg.HOME_REGION_LENGTH r)) t old (if none_ then 0 else rel) pid)
    (s.publishRange r base rel).coh src (.casRsp id true (v + 1) t)
  else s.coh src (.casRsp id false v 0)

/-- A request whose snoops are answered takes effect (R309, R311): the line was forwarded to the requester already when
`sent`, and `back` is modified data that came back. -/
def State.finishReq (s : State) (q : HomeReq) (back : Option Nat) (sent : Bool) : State :=
  let l := q.line
  let x := q.src
  let d := s.dirOf l
  let s := match q.kind, back with
    | .inv _ m _, some _ => if m = fullMask then s else match back with | some v => s.writeLine l v | none => s
    | _, some v => s.writeLine l v
    | _, none => s
  match q.kind with
  | .rds =>
    if d.holders.filter (fun y => decide (y ≠ x)) = [] then (s.setDir l (DirLine.own x)).sendLine x l .exclusive
    else
      let sh := (d.holders ++ [x]).dedup
      let s := s.setDir l { sharers := sh, fwd := some x, owner := none }
      if sent then s else s.sendLine x l .forward
  | .rdo => let s := s.setDir l (DirLine.own x); if sent then s else s.sendLine x l .exclusive
  | .upg =>
    let s' := s.setDir l (DirLine.own x)
    if sent then s' else if d.sharers.contains x then s'.coh x (.grant l) else s'.sendLine x l .exclusive
  | .inv v m tag =>
    let s := s.writeLine l (mergeMask (s.lineMem l) v m)
    let s := if m = fullMask then s.modHome fun h => { h with lost := h.lost.filter (fun y => decide (y ≠ l)) } else s
    (s.setDir l DirLine.none).coh x (.done l tag)
  | .recall i =>
    if i then s.setDir l DirLine.none
    else s.setDir l { sharers := d.holders, fwd := d.fwd, owner := none }
  | .cas id r e b p => (s.setDir l DirLine.none).applyCas l id r e b p x

/-- A miss (R300): the granule is to be filled from flash, and counted unless a hint asked. -/
def State.startFill (s : State) (g hint p : Nat) : State :=
  if s.home.filling.any (fun f => decide (f.1 = g)) || s.cached g then s
  else (s.modHome fun h => { h with filling := h.filling ++ [(g, hint, p)] }).tallyN .SHM_MISSES (if hint = 0 then 1 else 0)

/-- Serve the requests of a line in order of arrival while none waits for a snoop or a fill (R307). -/
def State.serveLine (s : State) (l : Nat) : Nat → State
  | 0 => s
  | fuel + 1 =>
    if (tfind s.home.txns l).isSome then s
    else match s.home.queue.find? (fun q => decide (q.line = l)) with
      | none => s
      | some q =>
        if !s.cached (l / 64) then s.startFill (l / 64) 0 0
        else
          let s := (s.modHome fun h => { h with queue := h.queue.erase q }).useFrame (l / 64)
          let sn := s.snoopsFor q
          if sn.isEmpty then (s.finishReq q none false).serveLine l fuel
          else
            let s := s.modHome fun h => { h with txns := tput h.txns l { req := q, await := sn.map (·.1), data := none } }
            sn.foldl (fun s x => s.coh x.1 (if x.2.1 then .snpInv l x.2.2 else .snpData l x.2.2)) s

/-- Queue a request at this home and serve its line (R307). -/
def State.homeQueue (s : State) (q : HomeReq) : State :=
  (s.modHome fun h => { h with queue := h.queue ++ [q] }).serveLine q.line (s.home.queue.length + 1)

/-- A holder's answer, its modified data if any, and whether it forwarded the line (R311). An answer no request waits for
corrects the directory. -/
def State.snoopAnswer (s : State) (l y : Nat) (data : Option Nat) (sent : Bool) : State :=
  match tfind s.home.txns l with
  | some t =>
    if t.await.contains y then
      let t := { t with await := t.await.erase y, data := data.orElse (fun _ => t.data) }
      if t.await.isEmpty then
        ((s.modHome fun h => { h with txns := tdel h.txns l }).finishReq t.req t.data sent).serveLine l (s.home.queue.length + 1)
      else s.modHome fun h => { h with txns := tput h.txns l t }
    else s
  | none =>
    let s := match data with
      | some v => if (s.dirOf l).owner = some y then s.writeLine l v else s
      | none => s
    s.setDir l ((s.dirOf l).drop y)

/-- A holder gives a line up (R311): as the answer to a snoop it crossed, or as it stands. -/
def State.giveUp (s : State) (l y : Nat) (data : Option Nat) : State :=
  match tfind s.home.txns l with
  | some t => if t.await.contains y then s.snoopAnswer l y data false else s
  | none =>
    let d := s.dirOf l
    let s := match data with
      | some v => if d.owner = some y then s.writeLine l v else s
      | none => s
    s.setDir l (d.drop y)

/-! ### Lines this node holds (R308, R312) -/

/-- tHOLD in ticks (R308): 0.2 µs. -/
def tHOLD : Nat := 5

/-- A line this node holds. -/
def State.nodeLine (s : State) (l : Nat) : Option NodeLine := tfind s.home.held l

/-- Change a held line. -/
def State.modLine (s : State) (l : Nat) (f : NodeLine → NodeLine) : State := s.modHome fun h => { h with held := tmod h.held l f }

/-- The hold of a line runs: its first access has not completed, or tHOLD has not passed (R308). -/
def State.holdOn (s : State) (k : NodeLine) : Bool := !k.used || decide (s.now < k.since + tHOLD)

/-- Hosts of a line other than one. -/
def NodeLine.others (k : NodeLine) (pid : Nat) (anyOnly : Bool) : List Nat :=
  (k.hosts.filter (fun x => decide (x.1 ≠ pid) && (x.2 || !anyOnly))).map (·.1)

/-- Send a back-invalidation to each of these hosts that has none outstanding (R312). -/
def State.backInv (s : State) (l : Nat) (inv : Bool) (pids : List Nat) : State :=
  pids.foldl (fun s p =>
    if s.home.bisnp.any (fun b => decide (b.1 = l ∧ b.2.1 = p)) then s
    else (s.modHome fun h => { h with bisnp := h.bisnp ++ [(l, p, inv, s.now)] }).emit (.bisnp p l inv)) s

/-- Record how a host holds a line. -/
def NodeLine.setHost (k : NodeLine) (pid : Nat) (any : Bool) : NodeLine :=
  { k with hosts := k.hosts.filter (fun x => decide (x.1 ≠ pid)) ++ [(pid, any)] }

/-- Ask the home for a line, once (R312). -/
def State.askHome (s : State) (l : Nat) (k : HomeKind) (m : CohMsg) : State :=
  if s.home.asked.any (fun a => decide (a.1 = l) && (match a.2 with | .inv .. => false | _ => true)) then s
  else (s.modHome fun h => { h with asked := h.asked ++ [(l, k)] }).coh (s.homeOf l) m

/-- A snoop's answer (R312): hosts have given up what they must; data goes to the new holder or to the home. -/
def State.answerSnoop (s : State) (w : SnoopWait) (k : NodeLine) : State :=
  let l := w.line
  let modified := decide (k.st = .modified)
  let s := if w.inv then s.modHome fun h => { h with held := tdel h.held l }
    else s.modLine l (fun k => { k with st := .shared, hosts := k.hosts.map (fun x => (x.1, false)) })
  match w.fwd with
  | some x =>
    let s := s.coh x (.data l (if !w.inv then .forward else if modified then .modified else .exclusive) (some k.data))
    s.coh w.home (.snpRsp l (if modified && !w.inv then some k.data else none) true)
  | none => s.coh w.home (.snpRsp l (if modified then some k.data else none) false)

/-- A waiting snoop goes on as far as it can (R308, R312): true when it has been answered. -/
def State.trySnoop (s : State) (w : SnoopWait) : State × Bool :=
  match s.nodeLine w.line with
  | none =>
    if s.home.asked.any (fun a => decide (a.1 = w.line) && (match a.2 with | .inv .. => false | _ => true)) then (s, false)
    else (s.coh w.home (.snpRsp w.line none false), true)
  | some k =>
    if s.holdOn k then (s, false)
    else
      let hs := k.others 0xFFFF (!w.inv)
      if hs.isEmpty then (s.answerSnoop w k, true) else (s.backInv w.line w.inv hs, false)

/-- Serve a host's request from a held line (R312), or begin what it needs: true when it is answered. -/
def State.tryWait (s : State) (w : HostWait) : State × Bool :=
  let l := w.line
  if 3 ≤ w.kind then (s, false)
  else match s.nodeLine l with
    | none => (if w.kind = 1 then s.askHome l .rdo (.rdo l) else s.askHome l .rds (.rds l), false)
    | some k =>
      let hs := k.others w.pid (decide (w.kind ≠ 1))
      if !hs.isEmpty then (s.backInv l (decide (w.kind = 1)) hs, false)
      else if w.kind = 1 ∧ (k.st = .shared ∨ k.st = .forward) then (s.askHome l .upg (.upg l), false)
      else
        let s := s.modLine l (fun k => { k with used := true })
        let mine := k.hosts.any (fun x => decide (x = (w.pid, true)))
        let s := if w.kind = 2 then s else s.modLine l (fun k => k.setHost w.pid (decide (w.kind = 1) || mine))
        (s.emit (.memData w.pid l k.data (decide (w.kind = 1))), true)

/-- Serve the waiting host requests of a line, in order, until one must wait. -/
def State.runWaits (s : State) (l : Nat) : Nat → State
  | 0 => s
  | fuel + 1 =>
    match s.home.waits.find? (fun w => decide (w.line = l ∧ w.kind < 3)) with
    | none => s
    | some w =>
      let r := s.tryWait w
      if r.2 then (r.1.modHome fun h => { h with waits := h.waits.erase w }).runWaits l fuel else r.1

/-- A line that only an uncached read brought here goes back at once (R312, assumption 26). -/
def State.dropUnused (s : State) (l : Nat) : State :=
  match s.nodeLine l with
  | some k =>
    if k.hosts.isEmpty && !s.home.waits.any (fun w => decide (w.line = l ∧ w.kind < 3)) &&
        !s.home.snoops.any (fun w => decide (w.line = l)) then
      (s.modHome fun h => { h with held := tdel h.held l }).coh (s.homeOf l)
        (if k.st = .modified then .wbm l k.data else .evs l)
    else s
  | none => s

/-- Snoops of a line go on, then its host requests unless a snoop still waits. -/
def State.progress (s : State) (l : Nat) : State :=
  match s.home.snoops.find? (fun w => decide (w.line = l)) with
  | none => (s.runWaits l (s.home.waits.length + 1)).dropUnused l
  | some w =>
    let r := s.trySnoop w
    if r.2 then
      let s := r.1.modHome fun h => { h with snoops := h.snoops.erase w }
      (s.runWaits l (s.home.waits.length + 1)).dropUnused l
    else r.1

/-- A grant reaches this node (R308, R311): the line is won, the host requests that asked for it are served first, and the
hold begins. A lost line's readers are refused (R313). -/
def State.won (s : State) (l : Nat) (st : LineSt) (data : Option Nat) : State :=
  let s := s.modHome fun h => { h with
    asked := h.asked.filter (fun a => decide (a.1 ≠ l) || (match a.2 with | .inv .. => true | _ => false)) }
  match data with
  | none =>
    let gone := s.home.waits.filter (fun w => decide (w.line = l ∧ w.kind < 3))
    let s := s.modHome fun h => { h with waits := h.waits.filter (fun w => decide (¬ (w.line = l ∧ w.kind < 3))) }
    let s := gone.foldl (fun s w => s.tallyP .SHM_REFUSED (s.hostPart w.pid)) s
    s.coh (s.homeOf l) (.evs l)
  | some v =>
    let hosts := (match s.nodeLine l with | some k => k.hosts | none => [])
    let k : NodeLine := { st := st, data := v, since := s.now, used := false, hosts := hosts }
    let s := (s.modHome fun h => { h with held := tput h.held l k }).runWaits l (s.home.waits.length + 1)
    (s.modLine l (fun k => { k with used := true })).dropUnused l

/-! ### Invalidating writes of this node (R309, R310) -/

/-- The range of a line is being sealed (R320). -/
def State.sealed (s : State) (l : Nat) : Bool :=
  match s.rangeOf (64 * l) with | some i => s.flag (Reg.HOME_RANGE_SEALING i) | none => false

/-- An invalidating write of one line to its home; `tag` names who waits for it to be visible. A write to a range being
sealed waits (R320). -/
def State.invWrite (s : State) (l v mask tag : Nat) : State :=
  let s := s.modHome fun h => { h with asked := h.asked ++ [(l, .inv v mask tag)] }
  if s.sealed l then s.modHome fun h => { h with sealedWrites := h.sealedWrites ++ [(l, v, mask, tag)] }
  else s.coh (s.homeOf l) (.inv l v mask tag)

/-- The lines of a byte string at an address, with their masks. -/
def lineWrites (a : Nat) (b : List Byte) : List (Nat × Nat × Nat) :=
  let first := a / 64
  let n := (a + b.length + 63) / 64 - first
  (List.range n).map (fun i =>
    let l := first + i
    let lo := max a (64 * l)
    let hi := min (a + b.length) (64 * l + 64)
    (l, leNat b (lo - a) (hi - lo) * 256 ^ (lo - 64 * l), (2 ^ (hi - lo) - 1) * 2 ^ (lo - 64 * l)))

/-- Write a byte string to the shared space with invalidating writes. -/
def State.writeSpan (s : State) (a : Nat) (b : List Byte) (tag : Nat) : State :=
  (lineWrites a b).foldl (fun s w => s.invWrite w.1 w.2.1 w.2.2 tag) s

/-- Writes of a tag are still to become visible. -/
def State.writing (s : State) (tag : Nat) : Bool :=
  s.home.asked.any (fun a => match a.2 with | .inv _ _ t => decide (t = tag) | _ => false)

/-- The tags of an operation, of a host and of a swap slot. -/
def opTag (seq : Nat) : Nat := 4 * seq + 1
def hostTag (pid : Nat) : Nat := 4 * pid + 2
def swapTag (p slot : Nat) : Nat := 4 * (16 * p + slot) + 3

/-- Complete an operation once its writes are visible (R310). -/
def State.completeAfter (s : State) (id : OpId) (status : Nat) (bytes : List Byte) : State :=
  s.modHome fun h => { h with ends := h.ends ++ [(id, status, bytes)] }

/-- A swap slot completes (R303). -/
def State.swapDone (s : State) (p slot status : Nat) : State :=
  let s := (s.set (Reg.HOME_SWAP_OP p slot) 0).set (Reg.HOME_SWAP_STATUS p slot) status
  let s := (s.set (Reg.HOME_SWAP_DONE p slot) 1).modHome fun h => { h with
    swaps := h.swaps.filter (fun w => decide (¬ (w.part = p ∧ w.slot = slot))) }
  s.event p 7

/-- What waited for writes that are now visible: operations complete, page-ins complete. -/
def State.finishWrites (s : State) : State :=
  let fin := s.home.ends.filter (fun e => !s.writing (opTag e.1.seq))
  let s := s.modHome fun h => { h with ends := h.ends.filter (fun e => s.writing (opTag e.1.seq)) }
  let s := fin.foldl (fun s e => match s.adm? e.1 with | some a => s.completeAdm a e.2.1 e.2.2 | none => s) s
  let sw := s.home.swaps.filter (fun w => w.writing && !s.writing (swapTag w.part w.slot))
  sw.foldl (fun s w => (s.tallyP .SHM_SWAP_PAGES w.part).swapDone w.part w.slot 0) s

/-- A write of this node is visible (R310): a host's is completed to it. -/
def State.writeDone (s : State) (l tag : Nat) : State :=
  match s.home.asked.find? (fun a => decide (a.1 = l) && (match a.2 with | .inv _ _ t => decide (t = tag) | _ => false)) with
  | none => s
  | some a =>
    let s := s.modHome fun h => { h with asked := h.asked.erase a }
    match s.home.waits.find? (fun w => decide (w.line = l ∧ w.kind = 3 ∧ hostTag w.pid = tag)) with
    | some w => (s.modHome fun h => { h with waits := h.waits.erase w }).emit (.memDone w.pid l)
    | none => s

/-! ### Publication's answers (R320, R322) -/

/-- The tally of a publication's outcome (R320). -/
def State.pubTally (s : State) (p status : Nat) : State :=
  if status = 0 then s.tallyP .SHM_PUBLISHED p
  else if status = 9 then s.tallyP .SHM_CONFLICTS p
  else s.tallyP .SHM_PUB_FAILED p

/-- Writes that waited for a seal go to their homes (R320). -/
def State.sendHeld (s : State) (i : Nat) : State :=
  let hit (w : HostWait) : Bool := decide (w.kind = 4) && decide (s.rangeOf (64 * w.line) = some i)
  let ws := s.home.waits.filter hit
  let s := s.modHome fun h => { h with waits := h.waits.map (fun w => if hit w then { w with kind := 3 } else w) }
  let s := ws.foldl (fun s w => s.invWrite w.line w.data w.mask (hostTag w.pid)) s
  let ours (x : Nat × Nat × Nat × Nat) : Bool := decide (s.rangeOf (64 * x.1) = some i)
  let xs := s.home.sealedWrites.filter ours
  let s := s.modHome fun h => { h with sealedWrites := h.sealedWrites.filter (fun x => !xs.contains x) }
  xs.foldl (fun s x => s.coh (s.homeOf x.1) (.inv x.1 x.2.1 x.2.2.1 x.2.2.2)) s

/-- Writes that waited for a seal end with the range's publication: a published range is never written (R304, R320). A host's
is refused, and a node operation goes on without its own. -/
def State.refuseHeld (s : State) (i : Nat) : State :=
  let hit (w : HostWait) : Bool := decide (w.kind = 4) && decide (s.rangeOf (64 * w.line) = some i)
  let ws := s.home.waits.filter hit
  let xs := s.home.sealedWrites.filter (fun x => decide (s.rangeOf (64 * x.1) = some i))
  let s := s.modHome fun h => { h with waits := h.waits.filter (fun w => !ws.contains w)
                                       sealedWrites := h.sealedWrites.filter (fun x => !xs.contains x) }
  let s := ws.foldl (fun s w => s.tallyP .SHM_REFUSED (s.hostPart w.pid)) s
  xs.foldl (fun s x => s.writeDone x.1 x.2.2.2) s

/-- Unseal a range (R320). -/
def State.unseal (s : State) (i : Nat) : State := (s.setB (Reg.HOME_RANGE_SEALING i) false).sendHeld i

/-- Complete a shared-space operation (R322). -/
def State.completeShm (s : State) (a : Admitted) (status version pubStep : Nat) : State :=
  s.completeAdm a status (shmRecord status a.dlv.phase a.handle a.dlv.tag a.id.step a.dlv.user a.opcode version pubStep s.me a.id.seq)

/-- End a publication. -/
def State.endPublish (s : State) (p : Publish) (status version pubStep : Nat) : State :=
  let s := s.modHome fun h => { h with pubs := h.pubs.filter (fun x => decide (x.id ≠ p.id)),
                                       flushes := h.flushes.filter (fun x => decide (x.id ≠ p.id)) }
  let s := if p.lostRace ∨ status = 0 then s else s.unseal p.stage
  match s.adm? p.id with
  | some a => (s.pubTally a.dlv.part status).completeShm a status version pubStep
  | none => s

/-- The compare-and-swap's answer at the publishing node (R320). -/
def State.casAnswer (s : State) (id : OpId) (ok : Bool) (version pubStep : Nat) : State :=
  match s.home.pubs.find? (fun p => decide (p.id = id)) with
  | none => s
  | some p =>
    if ok then
      let s := s.publishRange p.region (s.get (Reg.HOME_RANGE_BASE p.stage)) (pubStep + s.get (Reg.HOME_REGION_RETAIN p.region))
      (s.refuseHeld p.stage).endPublish p 0 version pubStep
    else s.endPublish p 9 version 0

/-- A descriptor line has been read for publications that lost their race to a seal: they report its version (R320). -/
def State.raceRead (s : State) (l : Nat) (data : Option Nat) : State :=
  let ps := s.home.pubs.filter (fun p => p.lostRace && decide (s.get (Reg.HOME_REGION_DESC_ADDR p.region) / 64 = l))
  ps.foldl (fun s p => s.endPublish p 9 (lineWord (data.getD 0) 0) 0) s

/-! ### Delivery -/

/-- Take a coherence message from a node. -/
def State.cohTake (s : State) (src : Nat) (m : CohMsg) : State :=
  match m with
  | .rds l => s.homeQueue { line := l, src := src, kind := .rds }
  | .rdo l => s.homeQueue { line := l, src := src, kind := .rdo }
  | .upg l => s.homeQueue { line := l, src := src, kind := .upg }
  | .wbm l d => s.giveUp l src (some d)
  | .evs l => s.giveUp l src none
  | .inv l d k t => s.homeQueue { line := l, src := src, kind := .inv d k t }
  | .cas id r e b p => s.homeQueue { line := s.get (Reg.HOME_REGION_DESC_ADDR r) / 64, src := src, kind := .cas id r e b p }
  | .snpData l f => (s.modHome fun h => { h with snoops := h.snoops ++ [{ line := l, home := src, inv := false, fwd := f }] }).progress l
  | .snpInv l f => (s.modHome fun h => { h with snoops := h.snoops ++ [{ line := l, home := src, inv := true, fwd := f }] }).progress l
  | .data l st d => ((s.raceRead l d).won l st d)
  | .grant l => s.won l .exclusive ((s.nodeLine l).map (·.data))
  | .snpRsp l d b => s.snoopAnswer l src d b
  | .casRsp id ok v t => s.casAnswer id ok v t
  | .done l t => s.writeDone l t

/-- Take the node's messages to itself until none is left. -/
def State.settle (s : State) : Nat → State
  | 0 => s
  | fuel + 1 =>
    match s.home.inbox with
    | [] => s
    | m :: r => ((s.modHome fun h => { h with inbox := r }).cohTake s.me m).settle fuel

/-- The bound on a settling: it is far above what one command can set off. -/
def settleFuel : Nat := 100000

/-- Settle the node's own messages, then complete what waited for writes. -/
def State.settled (s : State) : State := (s.settle settleFuel).finishWrites

/-- A coherence message from another node. -/
def State.cohMsg (s : State) (src : Nat) (m : CohMsg) : State := (s.cohTake src m).settled

/-- RDS (R311). -/
def execRds (line src : Nat) (s : State) := nodeEvt s (fun s => s.cohMsg src (.rds line))

/-- RDO (R311). -/
def execRdo (line src : Nat) (s : State) := nodeEvt s (fun s => s.cohMsg src (.rdo line))

/-- UPG (R311). -/
def execUpg (line src : Nat) (s : State) := nodeEvt s (fun s => s.cohMsg src (.upg line))

/-- WBM (R311). -/
def execWbm (line data src : Nat) (s : State) := nodeEvt s (fun s => s.cohMsg src (.wbm line data))

/-- EVS (R311). -/
def execEvs (line src : Nat) (s : State) := nodeEvt s (fun s => s.cohMsg src (.evs line))

/-- INV_WRITE (R309, R311). -/
def execInvWrite (line data mask tag src : Nat) (s : State) := nodeEvt s (fun s => s.cohMsg src (.inv line data mask tag))

/-- CAS (R320). -/
def execCas (id : OpId) (region expect base pid src : Nat) (s : State) :=
  nodeEvt s (fun s => s.cohMsg src (.cas id region expect base pid))

/-- SNPDATA (R312). -/
def execSnpdata (line : Nat) (fwd : Option Nat) (src : Nat) (s : State) := nodeEvt s (fun s => s.cohMsg src (.snpData line fwd))

/-- SNPINV (R312). -/
def execSnpinv (line : Nat) (fwd : Option Nat) (src : Nat) (s : State) := nodeEvt s (fun s => s.cohMsg src (.snpInv line fwd))

/-- COH_RSP_DATA (R311). -/
def execCohRspData (line : Nat) (st : LineSt) (data : Option Nat) (src : Nat) (s : State) :=
  nodeEvt s (fun s => s.cohMsg src (.data line st data))

/-- GRANT (R308, R311). -/
def execGrant (line src : Nat) (s : State) := nodeEvt s (fun s => s.cohMsg src (.grant line))

/-- SNP_RSP (R311). -/
def execSnpRsp (line : Nat) (data : Option Nat) (sent : Bool) (src : Nat) (s : State) :=
  nodeEvt s (fun s => s.cohMsg src (.snpRsp line data sent))

/-- CAS_RSP (R320). -/
def execCasRsp (id : OpId) (ok : Bool) (version pubStep src : Nat) (s : State) :=
  nodeEvt s (fun s => s.cohMsg src (.casRsp id ok version pubStep))

/-- COH_DONE (R310). -/
def execCohDone (line tag src : Nat) (s : State) := nodeEvt s (fun s => s.cohMsg src (.done line tag))

/-- HOLD_EXPIRY (R308): the hold of a line has ended: what waited goes on. -/
def execHoldExpiry (line : Nat) (s : State) := nodeEvt s (fun s => (s.progress line).settled)

/-! ### The home's cache (R300) -/

/-- Replacement order (R300): cold first, then the others by last use, then hot; ties to the lower address. -/
def frameOrder (a b : Nat × Frame) : Bool :=
  let rank (f : Frame) : Nat := if f.hint = 2 then 0 else if f.hint = 1 then 2 else 1
  let age (f : Frame) : Nat := if f.hint = 1 ∨ f.hint = 2 then 0 else f.used
  decide (rank a.2 < rank b.2 ∨ (rank a.2 = rank b.2 ∧ (age a.2 < age b.2 ∨ (age a.2 = age b.2 ∧ a.1 ≤ b.1))))

/-- Frames of the cache in use, without the resident granules. -/
def State.cacheFrames (s : State) : List (Nat × Frame) := s.home.frames.filter (fun e => !s.resident e.1)

/-- The granule whose frame is reused next. -/
def State.frameVictim (s : State) : Option Nat := ((sortBy frameOrder s.cacheFrames).head?).map (·.1)

/-- No copy of the granule's lines is held anywhere, and no request for one is being served. -/
def State.granuleIdle (s : State) (g : Nat) : Bool :=
  (linesOf g).all (fun l => decide (s.dirOf l = DirLine.none) && (tfind s.home.txns l).isNone &&
    !s.home.queue.any (fun q => decide (q.line = l)))

/-- Take back every copy of a granule's lines (R300, R302): with invalidation, or leaving them shared. -/
def State.recallGranule (s : State) (g : Nat) (inv : Bool) : State :=
  (linesOf g).foldl (fun s l =>
    if (tfind s.home.txns l).isNone && !s.home.queue.any (fun q => decide (q.line = l)) &&
        decide (if inv then s.dirOf l ≠ DirLine.none else (s.dirOf l).owner ≠ none) then
      s.homeQueue { line := l, src := s.me, kind := .recall inv }
    else s) s

/-- Reuse a frame: its granule is programmed if dirty and leaves DRAM. -/
def State.evictFrame (s : State) (g : Nat) : State :=
  let s := if (tget Frame.fresh s.home.frames g).dirtyAt ≠ 0 then s.writeBack g else s
  (s.modHome fun h => { h with frames := tdel h.frames g, mem := (linesOf g).foldl (fun t l => tset 0 t l 0) h.mem }).showCache

/-- Fill a granule from flash into a free frame, and serve what waited for it. -/
def State.fillGranule (s : State) (g hint p : Nat) (lost : List Nat) : State :=
  let s := s.modHome fun h => { h with
    filling := h.filling.filter (fun f => decide (f.1 ≠ g))
    mem := (linesOf g).foldl (fun t l => tset 0 t l (tget 0 h.flash l)) h.mem
    turn := h.turn + 1 }
  let s := s.modFrame g (fun _ => { hint := if hint = 0 then 3 else hint, dirtyAt := 0, used := s.home.turn, hotFor := p })
  let s := (lost.filter (fun l => decide (l / 64 = g))).foldl State.loseLine s
  (linesOf g).foldl (fun s l => s.serveLine l (s.home.queue.length + 1)) s

/-- GRANULE_FILL_DONE (R300, R313): the flash has read the granule. It takes a free frame, or the frame of the victim once
every copy of the victim's lines has come back. `lost` names lines the flash could not recover. -/
def execGranuleFillDone (granule : Nat) (lost : List Nat) (s : State) :=
  nodeEvt s (fun s =>
    match s.home.filling.find? (fun f => decide (f.1 = granule)) with
    | none => s
    | some f =>
      let s := if s.cacheFrames.length < s.home.frameCap then s.fillGranule granule f.2.1 f.2.2 lost
        else match s.frameVictim with
          | none => s
          | some v =>
            let s := s.recallGranule v true
            if s.granuleIdle v then (s.evictFrame v).fillGranule granule f.2.1 f.2.2 lost else s
      s.settled)

/-- WRITEBACK_TIMER (R300): WB_SECONDS after its first modification a dirty granule is programmed. -/
def execWritebackTimer (granule : Nat) (s : State) :=
  nodeEvt s (fun s =>
    match tfind s.home.frames granule with
    | none => s
    | some f =>
      if f.dirtyAt ≠ 0 ∧ f.dirtyAt + s.get Reg.HOME_CFG_WB_SECONDS * second ≤ s.now + 1 then s.writeBack granule else s)

end Sys2Proof.Machine
end

