-- ==== Sys2Proof/Machine/Share.lean ====
section
/-! DEFINITION. The hosts' use of the shared memory (R301 to R305, R312), page swaps, publication, flush and stage reset
(R302, R318 to R322), changes of ranges (R305) and the loss of an exporter or of a host's lines (R315, R317). -/

namespace Sys2Proof.Machine

/-! ### CXL.mem requests (R304, R312) -/

/-- Refuse a CXL.mem request: no response, counted for the requester's partition (R304). -/
def State.refuseMem (s : State) (p : Nat) : State := s.tallyP .SHM_REFUSED p

/-- The home of a line is a member (R317). -/
def State.homeUp (s : State) (l : Nat) : Bool := s.isMember (s.homeOf l)

/-- A CXL.mem request of a host at its host physical address, after the checks of R304, R317, R332 and R339: run it with
the line, or refuse it. -/
def State.memRequest (s : State) (h : HostReq) (hpa : Nat) (write : Bool) (run : State → Nat → State) : State :=
  let p := s.hostPart h.pid
  match s.bindOf h.pid with
  | none => s.refuseMem 0
  | some i =>
    if s.flag Reg.CXP_CFG_REQUIRE_IDE && !h.ide then s.tallyP .CXP_NO_IDE p
    else if s.get (Reg.CXP_BIND_ENTRY_NODE i) ≠ s.me ∨ s.flag (Reg.CXP_BIND_MEM_OK i) = false ∨ (s.ctx h.pid).fenced = true ∨
        s.flag (Reg.PART_CFG_ENABLE p) = false ∨ s.flag Reg.HOME_MODE_SERVING = false ∨ s.flag Reg.HOME_MODE_SWAP_ONLY = true then
      s.refuseMem p
    else match s.sharedAddr h.pid hpa with
      | none => s.refuseMem p
      | some a =>
        let l := a / 64
        if !(if write then s.canWrite p (some h.pid) (64 * l) 64 else s.canRead p (some h.pid) (64 * l) 64) then s.refuseMem p
        else if !s.homeUp l then s.tallyP .SHM_HOME_LOST p
        else run s l

/-- A host's read of a line: kind 0 MetaValue S, 1 A, 2 I (R312). -/
def State.hostRead (s : State) (h : HostReq) (hpa kind : Nat) : State :=
  s.memRequest h hpa false (fun s l =>
    ((s.modHome fun k => { k with waits := k.waits ++ [{ line := l, pid := h.pid, kind := kind, data := 0, mask := 0 }] }).progress l).settled)

/-- HOST_MEMRD_SHARED (R312). -/
def execHostMemrdShared (h : HostReq) (hpa : Nat) (s : State) := hostCmd s (.hostMemrdShared h hpa) (fun s => s.hostRead h hpa 0)

/-- HOST_MEMRD_ANY (R312). -/
def execHostMemrdAny (h : HostReq) (hpa : Nat) (s : State) := hostCmd s (.hostMemrdAny h hpa) (fun s => s.hostRead h hpa 1)

/-- HOST_MEMRD_UNCACHED (R312). -/
def execHostMemrdUncached (h : HostReq) (hpa : Nat) (s : State) := hostCmd s (.hostMemrdUncached h hpa) (fun s => s.hostRead h hpa 2)

/-- A host's write of a line: in place when the host holds it A, else an invalidating write (R309, R312). A write to a
range being sealed waits (R320). -/
def State.hostWrite (s : State) (h : HostReq) (hpa data mask : Nat) : State :=
  s.memRequest h hpa true (fun s l =>
    let w : HostWait := { line := l, pid := h.pid, kind := 3, data := data, mask := mask % 2 ^ 64 }
    if s.sealed l then s.modHome fun k => { k with waits := k.waits ++ [{ w with kind := 4 }] }
    else match s.nodeLine l with
      | some k =>
        if k.hosts.contains (h.pid, true) then
          let s := s.modLine l (fun k => { k with st := .modified, data := mergeMask k.data data (mask % 2 ^ 64), used := true })
          ((s.emit (.memDone h.pid l)).progress l).settled
        else ((s.modHome fun k => { k with waits := k.waits ++ [w] }).invWrite l data w.mask (hostTag h.pid)).settled
      | none => ((s.modHome fun k => { k with waits := k.waits ++ [w] }).invWrite l data w.mask (hostTag h.pid)).settled)

/-- HOST_MEMWR_HELD (R312). -/
def execHostMemwrHeld (h : HostReq) (hpa data mask : Nat) (s : State) :=
  hostCmd s (.hostMemwrHeld h hpa data mask) (fun s => s.hostWrite h hpa data mask)

/-- HOST_MEMWR_INVALIDATING (R309). -/
def execHostMemwrInvalidating (h : HostReq) (hpa data mask : Nat) (s : State) :=
  hostCmd s (.hostMemwrInvalidating h hpa data mask) (fun s => s.hostWrite h hpa data mask)

/-- BISNP_RESPONSE (R312, R314): the host has given the line up, with its modified data if it had any; what waited for it
goes on. One from a host declared lost is discarded and counted. -/
def execBisnpResponse (pid line : Nat) (data : Option Nat) (s : State) :=
  nodeEvt s (fun s =>
    if (s.ctx pid).fenced then s.tallyP .SHM_BI_LATE (s.hostPart pid)
    else match s.home.bisnp.find? (fun b => decide (b.1 = line ∧ b.2.1 = pid)) with
      | none => s
      | some b =>
        let s := s.modHome fun h => { h with bisnp := h.bisnp.erase b }
        let s := s.modLine line (fun k =>
          let k := match data with | some v => { k with data := v, st := .modified } | none => k
          if b.2.2.1 then { k with hosts := k.hosts.filter (fun x => decide (x.1 ≠ pid)) }
          else { k with hosts := k.hosts.map (fun x => if x.1 = pid then (pid, false) else x) })
        (s.progress line).settled)

/-- What a lost host's lines become (R315): a line it held S loses nothing; one it held A is counted, logged with the
cause, and goes back to its home with the data last written back. -/
def State.loseHostLines (s : State) (pid cause : Nat) : State :=
  let mine := s.home.held.filter (fun e => e.2.hosts.any (fun x => decide (x.1 = pid)))
  let any := (mine.filter (fun e => e.2.hosts.contains (pid, true))).map (·.1)
  let s := (s.logLost (any.map (fun l => s.lostEntry (64 * l) pid cause))).tallyP .SHM_LINES_LOST (s.hostPart pid) any.length
  let s := s.modHome fun h => { h with
    bisnp := h.bisnp.filter (fun b => decide (b.2.1 ≠ pid))
    waits := h.waits.filter (fun w => decide (w.pid ≠ pid))
    held := h.held.map (fun e => (e.1, { e.2 with hosts := e.2.hosts.filter (fun x => decide (x.1 ≠ pid)), used := true })) }
  ((mine.map (·.1)).foldl (fun s l => s.progress l) s).settled

/-! ### Hints (R301) -/

/-- Hot frames of one partition, with those being filled for a hint. -/
def State.hotFrames (s : State) (p : Nat) : Nat :=
  s.home.frames.countP (fun e => decide (e.2.hint = 1 ∧ e.2.hotFor = p)) + s.home.filling.countP (fun f => decide (f.2 = (1, p)))

/-- The granule is hot for the partition already. -/
def State.hotNow (s : State) (p g : Nat) : Bool :=
  (match tfind s.home.frames g with | some f => decide (f.hint = 1 ∧ f.hotFor = p) | none => false) || s.home.filling.contains (g, 1, p)

/-- One granule of a hint: outside the host's ranges, or beyond HOT_PCT, it is ignored and counted; a granule homed
elsewhere is left alone, since no message carries a hint (assumption 27). -/
def State.hintGranule (s : State) (pid p kind g : Nat) : State :=
  if !s.canRead p (some pid) (4096 * g) 64 && !s.canWrite p (some pid) (4096 * g) 64 then s.tallyP .SHM_HINT_IGNORED p
  else if s.homeNode g ≠ s.me ∨ s.resident g = true then s
  else if kind = 1 ∧ s.hotNow p g = false ∧ s.home.frameCap * s.get Reg.HOME_CFG_HOT_PCT < 100 * (s.hotFrames p + 1) then s.tallyP .SHM_HINT_IGNORED p
  else if (tfind s.home.frames g).isSome then s.modFrame g (fun f => { f with hint := kind, hotFor := if kind = 1 then p else 0 })
  else if kind = 1 then s.startFill g 1 p
  else s

/-- A hint (R301): COUNT consecutive granules from GRANULE. -/
def State.writeHint (s : State) (pid p value : Nat) : State :=
  if value % 4 = 0 then s
  else (List.range (value / 4 % 1024 + 1)).foldl (fun s i => s.hintGranule pid p (value % 4) (value % 2 ^ 64 / 4096 + i)) s

/-- HOME_HINT_WRITE (R301). -/
def execHomeHintWrite (h : HostReq) (value : Nat) (s : State) :=
  hostCmd s (.homeHintWrite h value) (fun s =>
    match s.admitHost h with
    | .inr t => t
    | .inl p => s.writeHint h.pid p value)

/-! ### Page swapping (R303, R472) -/

/-- The home of every granule of a page is a member. -/
def State.pageHomesUp (s : State) (a : Nat) : Bool := (List.range 16).all (fun i => s.isMember (s.homeNode (a / 4096 + i)))

/-- A swap command begins when the host writes OP to its slot (R303). -/
def State.startSwap (s : State) (h : HostReq) (p slot op : Nat) : State :=
  s.ownPage h p (fun s =>
    if 16 ≤ slot ∨ s.get (Reg.HOME_SWAP_OP p slot) ≠ 0 then s
    else
      let s := (s.set (Reg.HOME_SWAP_OP p slot) op).set (Reg.HOME_SWAP_DONE p slot) 0
      let a := s.get (Reg.HOME_SWAP_SHM_ADDR p slot)
      let b := s.get (Reg.HOME_SWAP_HOST_ADDR p slot)
      let granted := if op = 1 then s.canWrite p (some h.pid) a 65536 else s.canRead p (some h.pid) a 65536
      if a % 65536 ≠ 0 ∨ b % 4096 ≠ 0 ∨ granted = false then s.swapDone p slot 5
      else if !s.pageHomesUp a then s.swapDone p slot 8
      else
        let s := s.modHome fun k => { k with
          swaps := k.swaps ++ [{ part := p, slot := slot, pid := h.pid, op := op, addr := a, host := b, writing := false }] }
        if op = 1 then s.emit (.hostRead h.pid b 65536)
        else
          let mine := (List.range 16).filter (fun i => decide (s.homeNode (a / 4096 + i) = s.me))
          (mine.foldl (fun s i => s.recallGranule (a / 4096 + i) false) s).settled)

/-- PAGE_IN (R303). -/
def execPageIn (h : HostReq) (p slot : Nat) (s : State) := hostCmd s (.pageIn h p slot) (fun s => s.startSwap h p slot 1)

/-- PAGE_OUT (R303). -/
def execPageOut (h : HostReq) (p slot : Nat) (s : State) := hostCmd s (.pageOut h p slot) (fun s => s.startSwap h p slot 2)

/-- A line of a page-out: this home's own bytes where the line is homed here, else what its home delivered. -/
def State.outLine (s : State) (l delivered : Nat) : Nat := if s.homeOf l = s.me ∧ s.cached (l / 64) = true then s.lineMem l else delivered

/-- SWAP_DMA_DONE (R303, R313): the DMA has read a page-in's 1,024 lines, which now go out as invalidating writes; or a
page-out's lines have been delivered by their homes, and go to the host. `lost` says that a line of the page is lost. -/
def execSwapDmaDone (p slot : Nat) (lines : List Nat) (lost : Bool) (s : State) :=
  nodeEvt s (fun s =>
    match s.home.swaps.find? (fun w => decide (w.part = p ∧ w.slot = slot) && !w.writing) with
    | none => s
    | some w =>
      let first := w.addr / 64
      if w.op = 1 then
        let s := s.modHome fun k => { k with swaps := k.swaps.map (fun x => if x = w then { x with writing := true } else x) }
        ((List.range 1024).foldl (fun s i => s.invWrite (first + i) (lines.getD i 0) fullMask (swapTag p slot)) s).settled
      else
        let bytes := ((List.range 1024).map (fun i => natLe 64 (s.outLine (first + i) (lines.getD i 0)))).flatten
        let bad := lost || (List.range 1024).any (fun i => s.home.lost.contains (first + i))
        let s := s.submitWrite { part := p, pid := w.pid, addr := w.host, data := bytes, done := .nothing }
        (s.tallyP .SHM_SWAP_PAGES p).swapDone p slot (if bad then 10 else 0))

/-! ### Flush (R302) -/

/-- Granules homed here within a span that are dirty or hold an owned line. -/
def State.dirtyIn (s : State) (a n : Nat) : List Nat :=
  let inside (g : Nat) : Bool := decide (a < 4096 * g + 4096 ∧ 4096 * g < a + n)
  let dirty : List Nat := (s.home.frames.filter (fun e => inside e.1 && decide (e.2.dirtyAt ≠ 0))).map (fun e => e.1)
  let owned : List Nat := (s.home.dir.filter (fun e => inside (e.1 / 64) && e.2.owner.isSome)).map (fun e => e.1 / 64)
  (dirty ++ owned).dedup

/-- No line of a granule is owned elsewhere or being served. -/
def State.granuleRecalled (s : State) (g : Nat) : Bool :=
  (linesOf g).all (fun l => (s.dirOf l).owner.isNone && (tfind s.home.txns l).isNone)

/-- A flush goes on: each granule whose lines have come back is programmed if dirty. -/
def State.flushStep (s : State) (id : OpId) : State :=
  match s.home.flushes.find? (fun f => decide (f.id = id)) with
  | none => s
  | some f =>
    let s := (f.todo.foldl (fun s g => s.recallGranule g false) s).settled
    f.todo.foldl (fun s g =>
      if s.granuleRecalled g then
        let dirty := decide ((tget Frame.fresh s.home.frames g).dirtyAt ≠ 0)
        let s := if dirty then s.writeBack g else s
        s.modHome fun h => { h with flushes := lmod (fun x => decide (x.id = id)) (fun x =>
          { x with todo := x.todo.filter (fun y => decide (y ≠ g)), pend := if dirty then x.pend ++ [g] else x.pend }) h.flushes }
      else s) s

/-- Begin a flush of a span. -/
def State.beginFlushOf (s : State) (id : OpId) (range a n : Nat) : State :=
  (s.modHome fun h => { h with flushes := h.flushes ++ [{ id := id, range := range, todo := s.dirtyIn a n, pend := [] }] }).flushStep id

/-- A flush has nothing left to do here. -/
def State.flushed (s : State) (id : OpId) : Bool :=
  s.home.flushes.any (fun f => decide (f.id = id) && f.todo.isEmpty && f.pend.isEmpty)

/-- Complete the flush operations that are done (R302): a seal's flush stays for its publication. -/
def State.endFlushes (s : State) : State :=
  let fin := s.home.flushes.filter (fun f => f.todo.isEmpty && f.pend.isEmpty && !s.home.pubs.any (fun p => decide (p.id = f.id)))
  fin.foldl (fun s f =>
    let s := s.modHome fun h => { h with flushes := h.flushes.filter (fun x => decide (x.id ≠ f.id)) }
    match s.adm? f.id with | some a => s.completeShm a 0 0 0 | none => s) s

/-- Every flush goes on. -/
def State.runFlushes (s : State) : State := ((s.home.flushes.map (·.id)).foldl State.flushStep s).endFlushes

/-- The granules of a flash unit of shared data. -/
def sharedGranules : FlashUnit → List Nat
  | .shared _ gs => gs
  | _ => []

/-- SUPERBLOCK_VERIFY (R146, R200, R302): programs of shared granules in a verified superblock end the flushes that await
them. -/
def execSuperblockVerify (stream bad : Nat) (s : State) :=
  nodeEvt s (fun s =>
    let r := s.verifySuper stream bad
    let gs := (r.2.map sharedGranules).flatten
    (r.1.modHome fun h => { h with flushes := h.flushes.map (fun f => { f with pend := f.pend.filter (fun g => !gs.contains g) }) }).runFlushes)

/-! ### Publication, flush and stage reset (R319, R320) -/

/-- Start a publication (R320 step 1): the range is sealed and flushed; one that names a range already being sealed only
reads the current version. -/
def State.startPublish (s : State) (a : Admitted) : State :=
  let stage := a.record % 65536
  let pub : Publish := { id := a.id, region := a.handle, stage := stage, expect := a.record / 2 ^ 32, sent := false,
                         lostRace := s.flag (Reg.HOME_RANGE_SEALING stage) }
  let s := s.modHome fun h => { h with pubs := h.pubs ++ [pub] }
  let d := s.get (Reg.HOME_REGION_DESC_ADDR a.handle) / 64
  if pub.lostRace then
    if s.homeOf d = s.me ∧ s.cached (d / 64) = true then s.endPublish pub 9 (lineWord (s.lineMem d) 0) 0
    else match s.nodeLine d with
      | some k => s.endPublish pub 9 (lineWord k.data 0) 0
      | none => (s.askHome d .rds (.rds d)).settled
  else
    (s.setB (Reg.HOME_RANGE_SEALING stage) true).beginFlushOf a.id stage (s.get (Reg.HOME_RANGE_BASE stage)) (s.get (Reg.HOME_RANGE_LENGTH stage))

/-- Start a shared-space operation once the step before its own is committed (R319). -/
def State.startShm (s : State) (a : Admitted) : State :=
  let s := s.modAdm a.id (fun x => { x with started := true })
  match a.opcode with
  | 0x30 => s.startPublish a
  | 0x31 =>
    let base := s.get (Reg.HOME_RANGE_BASE a.handle) + a.record % 2 ^ 64
    (s.beginFlushOf a.id a.handle base (a.record / 2 ^ 64)).endFlushes
  | _ => (s.setB (Reg.HOME_RANGE_INCOMPLETE a.handle) false).completeShm a 0 0 0

/-- Admit a shared-space operation: its record field keeps what its body names beyond the object. -/
def State.runShm (rec : List Byte → Nat) (s : State) (t : Taken) (dlv : Delivery) : State :=
  let pid := s.iringOwner t.part t.ring
  let r := rec t.data
  let a := t.admitted dlv (body t.data 0 2) (if opcodeOf t.data = 0x30 then r + 65536 * pid else r) false
  let s := s.admitOp a
  if t.id.step ≤ s.get Reg.STEP_COMMITTED + 1 then s.startShm a else s

/-- SHM_PUBLISH (R320). -/
def execShmPublish (s : State) :=
  nodeEvt s (fun s => s.serve (isOp 0x30) (State.runShm (fun d => body d 2 2 + 2 ^ 32 * body d 8 8)))

/-- SHM_FLUSH (R302). -/
def execShmFlush (s : State) :=
  nodeEvt s (fun s => s.serve (isOp 0x31) (State.runShm (fun d => body d 8 8 + 2 ^ 64 * body d 16 8)))

/-- SHM_STAGE_RESET (R315). -/
def execShmStageReset (s : State) := nodeEvt s (fun s => s.serve (isOp 0x32) (State.runShm (fun _ => 0)))

/-- PUBLISH_SEAL_DONE (R320 steps 1 to 3): the range is sealed everywhere; a lost line or a retained range that may not yet
be written again ends it, else the compare-and-swap goes to the descriptor's home. PREV_RELEASE comes with the event where
the descriptor is homed elsewhere. -/
def execPublishSealDone (id : OpId) (prevRelease : Nat) (s : State) :=
  nodeEvt s (fun s =>
    match s.home.pubs.find? (fun p => decide (p.id = id) && !p.sent && !p.lostRace), s.adm? id with
    | some p, some a =>
      let d := s.get (Reg.HOME_REGION_DESC_ADDR p.region) / 64
      let prev := if s.homeOf d = s.me ∧ s.cached (d / 64) = true then lineWord (s.lineMem d) 40 else prevRelease
      if !s.flushed id then s
      else if s.flag (Reg.HOME_RANGE_INCOMPLETE p.stage) then (s.endPublish p 10 0 0).settled
      else if s.openStep < prev then (s.endPublish p 3 0 0).settled
      else
        let s := s.modHome fun h => { h with pubs := h.pubs.map (fun x => if x = p then { x with sent := true } else x) }
        (s.coh (s.homeOf d) (.cas id p.region p.expect (s.get (Reg.HOME_RANGE_BASE p.stage)) (a.record / 65536 % 65536))).settled
    | _, _ => s)

/-- What a commit does here: operations whose step has come start, and retained ranges whose release step has come become
staging ranges (R319, R320). -/
def State.shmCommit (s : State) : State :=
  let due := s.srch.adm.filter (fun a => decide (0x30 ≤ a.opcode ∧ a.opcode ≤ 0x32) && !a.started && decide (a.id.step ≤ s.get Reg.STEP_COMMITTED + 1))
  let s := due.foldl State.startShm s
  let out := s.home.retained.filter (fun r => decide (r.2 ≤ s.openStep))
  let s := out.foldl (fun s r => if s.get (Reg.HOME_RANGE_KIND r.1) = 3 then s.set (Reg.HOME_RANGE_KIND r.1) 1 else s) s
  (s.modHome fun h => { h with retained := h.retained.filter (fun r => decide (s.openStep < r.2)) }).runFlushes

/-! ### Ranges that change, and exporters that come and go (R305, R317) -/

/-- The partition that last had a line: its range's, else the newest former span's. -/
def State.lastOwner (s : State) (a : Nat) : Nat :=
  match s.rangeOf a with
  | some i => s.get (Reg.HOME_RANGE_PARTITION i)
  | none => ((s.home.former.find? (fun f => decide (f.1 ≤ a ∧ a < f.1 + f.2.1))).map (·.2.2)).getD 0

/-- A range entry changes (R305): lines of the old and the new span that anyone holds are recalled, and lines that pass to
another partition read as zeros from now on. -/
def State.changeRange (s : State) (i base len part : Nat) (write : State → State) : State :=
  let ob := s.get (Reg.HOME_RANGE_BASE i)
  let ol := s.get (Reg.HOME_RANGE_LENGTH i)
  let op := s.get (Reg.HOME_RANGE_PARTITION i)
  let inSpan (b n l : Nat) : Bool := decide (b ≤ 64 * l ∧ 64 * l < b + n)
  let touched := ((s.home.dir.map (·.1)).filter (fun l => inSpan ob ol l || inSpan base len l))
  let pass (l : Nat) : Bool := inSpan base len l && decide (s.lastOwner (64 * l) ≠ 0 ∧ s.lastOwner (64 * l) ≠ part)
  let zero := ((s.home.mem ++ s.home.flash).map (·.1)).any pass || touched.any pass
  let mem := s.home.mem.filter (fun e => !pass e.1)
  let flash := s.home.flash.filter (fun e => !pass e.1)
  let s := if ol = 0 then s else s.modHome fun h => { h with former := (ob, ol, op) :: h.former }
  let s := write s
  let s := (touched.foldl (fun s l => s.homeQueue { line := l, src := s.me, kind := .recall true }) s).settled
  let s := s.modHome fun h => { h with mem := if zero then mem else h.mem, flash := if zero then flash else h.flash }
  if zero then
    ((s.setB (Reg.HOME_RANGE_ZEROING i) true).setB Reg.HOME_STATUS_ZEROING true).modHome fun h => { h with zeroing := h.zeroing ++ [i] }
  else s

/-- SPAN_ZEROING_DONE (R305): a home has zeroed a span in the background. -/
def execSpanZeroingDone (range : Nat) (s : State) :=
  nodeEvt s (fun s =>
    if s.home.zeroing.contains range then
      let s := s.modHome fun h => { h with zeroing := h.zeroing.filter (fun i => decide (i ≠ range)) }
      (s.setB (Reg.HOME_RANGE_ZEROING range) false).setB Reg.HOME_STATUS_ZEROING (!s.home.zeroing.isEmpty)
    else s)

/-- A granule of a range is homed at a node. -/
def State.rangeAt (s : State) (i n : Nat) : Bool :=
  let a := s.get (Reg.HOME_RANGE_BASE i)
  let g0 := a / 4096
  let g1 := (a + s.get (Reg.HOME_RANGE_LENGTH i) + 4095) / 4096
  (List.range (min (g1 - g0) (2 * s.exporters))).any (fun k => decide (s.homeNode (g0 + k) = n))

/-- An excluded node's part in the coherence of this node's lines ends, and an excluded exporter's granules become
unreachable (R317). -/
def State.exporterLost (s : State) (n : Nat) : State :=
  let gone (l : Nat) : Bool := decide (s.homeOf l = n)
  let s := (s.home.held.filter (fun e => gone e.1)).foldl (fun s e => s.backInv e.1 true (e.2.hosts.map (·.1))) s
  let s := (s.home.waits.filter (fun w => gone w.line)).foldl (fun s w => s.tallyP .SHM_HOME_LOST (s.hostPart w.pid)) s
  let s := s.modHome fun h => { h with
    held := h.held.filter (fun e => !gone e.1)
    waits := h.waits.filter (fun w => !gone w.line)
    asked := h.asked.filter (fun a => !gone a.1)
    sealedWrites := h.sealedWrites.filter (fun x => !gone x.1)
    snoops := h.snoops.filter (fun w => decide (w.home ≠ n))
    queue := h.queue.filter (fun q => decide (q.src ≠ n)) }
  let s := (s.home.txns.map (·.1)).foldl (fun s l => s.snoopAnswer l n none false) s
  let s := s.modHome fun h => { h with
    dir := (h.dir.map (fun e => (e.1, e.2.drop n))).filter (fun e => decide (e.2 ≠ DirLine.none)) }
  if !s.home.exports.contains n then s.settled
  else
    let hit := (List.range 4096).filter (fun i => decide (s.get (Reg.HOME_RANGE_LENGTH i) ≠ 0 ∧ s.get (Reg.HOME_RANGE_KIND i) < 2) && s.rangeAt i n)
    let s := hit.foldl (fun s i =>
      let e : LostEntry := { step := s.openStep, node := n, part := s.get (Reg.HOME_RANGE_PARTITION i),
                             addr := s.get (Reg.HOME_RANGE_BASE i), pid := 0xFFFF, cause := 1, range := i }
      (s.rangeLoss i s.openStep).keepEntry e) s
    ((s.setB Reg.HOME_STATUS_HOME_LOST_EVT true).eventAll 4).settled

/-- A home that has been out of the structure discards its cache and its copies and serves from flash (R317). -/
def State.homeDiscard (s : State) : State :=
  (s.modHome fun h => { h with mem := h.flash.filter (fun e => s.resident (e.1 / 64)), frames := [], filling := [], dir := [],
                               queue := [], txns := [], held := [], asked := [], waits := [], sealedWrites := [], snoops := [], bisnp := [] }).showCache

end Sys2Proof.Machine
end

