-- ==== Sys2Proof/Machine/Cxp.lean ====
section
/-! DEFINITION. The CXL ports and host contexts: decoder commits (R332), function-level resets (R341, R343), link and port
events (R314, R329, R450), IDE (R339) and the SPDM responder (R340, R426). -/

namespace Sys2Proof.Machine

/-! ### Host contexts -/

/-- A configuration-space or mailbox request of a host of this entry node (R327, R328): any other is answered Unsupported
Request. While a reset of the host is in progress it receives Configuration Request Retry Status (R341). -/
def State.configReq (s : State) (h : HostReq) (f : State → State) : State :=
  match s.bindOf h.pid with
  | some i =>
    if s.get (Reg.CXP_BIND_ENTRY_NODE i) = s.me then (if (s.ctx h.pid).resetStep.isSome then s else f s)
    else (s.tallyN .CXP_UNBOUND).emit (.unsupported h.pid)
  | none => (s.tallyN .CXP_UNBOUND).emit (.unsupported h.pid)

/-- With REQUIRE_IDE a request to configuration space comes inside a stream (R339); the mailbox, over which the streams are
keyed, is open before one exists. -/
def State.ideReq (s : State) (h : HostReq) (f : State → State) : State :=
  if s.flag Reg.CXP_CFG_REQUIRE_IDE && !h.ide then (s.tallyP .CXP_NO_IDE (s.hostPart h.pid)).emit (.unsupported h.pid)
  else f s

/-- HDM_DECODER_COMMIT (R332): the commit of the interleaved or the bank window; another interleave than 1-way or another
size than the fixed one sets the decoder's error bit. -/
def execHdmDecoderCommit (h : HostReq) (bank : Bool) (ways size base : Nat) (s : State) :=
  hostCmd s (.hdmDecoderCommit h bank ways size base) (fun s => s.configReq h (fun s => s.ideReq h (fun s =>
    let c := s.ctx h.pid
    let fixed := if bank then s.exporters * s.resBytes else s.shmSize
    let e := b2n bank
    if ways ≠ 1 ∨ size ≠ fixed then s.setCtx h.pid { c with hdmErr := c.hdmErr ||| 2 ^ e }
    else
      let err := if bit c.hdmErr e then c.hdmErr ^^^ 2 ^ e else c.hdmErr
      if bank then s.setCtx h.pid { c with hdmBank := some base, hdmErr := err }
      else s.setCtx h.pid { c with hdmShared := some base, hdmErr := err })))

/-! ### Function-level reset (R341, R342, R343) -/

/-- Rings of partition p that a host owns. -/
def State.ownedIrings (s : State) (pid p : Nat) : List Nat := (List.range 16).filter (fun n => decide (s.iringOwner p n = pid))

/-- Sheaf rings of partition p that a host owns. -/
def State.ownedSrings (s : State) (pid p : Nat) : List Nat := (List.range 16).filter (fun n => decide (s.sringOwner p n = pid))

/-- Descriptors of an intake ring that are not admitted are discarded and counted (R341): the fetched head, and what lies
unfetched in the ring, whose number of descriptors its units bound and the node does not tell (assumption 28). -/
def State.discardRing (s : State) (p n : Nat) : State :=
  let units := ringDist (s.get (Reg.IRING_TAIL p n)) (s.get (Reg.IRING_HEAD p n)) (2 * s.iringSize p n)
  let had := b2n (s.head? p n).isSome
  let r := if units = 0 then (0, s) else let d := s.draw units; (1 + d.1, d.2)
  let s := (r.2.tallyP .INT_DISCARDED p (had + r.1)).modHost fun k => { k with heads := tdel k.heads (16 * p + n) }
  s.set (Reg.IRING_HEAD p n) (s.get (Reg.IRING_TAIL p n))

/-- The queued synchronisation operations that a test picks leave their queues, each with a completion of status st when
one is due (R341, R342). -/
def State.dropWaiters (s : State) (p : Nat) (pick : SyncWaiter → Bool) (st : Option Nat) : State :=
  (s.host.waiters.map (·.1)).foldl (fun s o =>
    if s.syncOwner o ≠ p then s
    else
      let gone := (s.waitersOf o).filter pick
      let s := s.setWaiters o ((s.waitersOf o).filter (fun w => !pick w))
      let s := match st with
        | none => s.tallyP .SYNC_CANCELLED p gone.length
        | some v => gone.foldl (fun s w => match s.replyWrite o w.pid w.reply w.tag v (if w.take then 2 else 5) with
            | some x => s.submitPlain x
            | none => s) s
      if gone.isEmpty then s else s.serveSync o) s

/-- Writes to a host that the port shapers hold are issued at once: the node issues every write it started before it
confirms a reset (R341). -/
def State.flushHost (s : State) (pid : Nat) : State :=
  s.host.portHeld.foldl (fun s e =>
    let p := e.1 / 2
    let port := e.1 % 2
    let mine := e.2.filter (fun w => decide (w.pid = pid))
    mine.foldl (fun s w => s.issueWrite port w) (s.setPortQueue p port (e.2.filter (fun w => decide (w.pid ≠ pid))))) s

/-- No host: deliveries to it are dropped and counted (R341 step 3). -/
def noHost : Nat := 0xFFFF

/-- A delivery to a host that has been reset goes nowhere. -/
def cutDelivery (d : Delivery) (pid : Nat) : Delivery := if d.pid = pid then { d with pid := noHost } else d

/-- This node has finished with the reset: the entry node counts every member's confirmation (R341 step 4). -/
def State.confirmReset (s : State) (pid step node : Nat) : State :=
  let c := s.ctx pid
  if c.resetStep ≠ some step then s
  else
    let got := if c.confirmed.contains node then c.confirmed else c.confirmed ++ [node]
    let s := s.setCtx pid { c with confirmed := got }
    if (s.me :: s.otherMembers).all (fun n => got.contains n) then
      let p := s.hostPart pid
      let s := (s.ownedIrings pid p).foldl (fun s n => (s.set (Reg.IRING_HEAD p n) 0).set (Reg.IRING_TAIL p n) 0) s
      let s := (s.ownedSrings pid p).foldl (fun s n => ((s.set (Reg.SRING_HEAD p n) 0).set (Reg.SRING_TAIL p n) 0).setWritten p n []) s
      let s := s.setCtx pid { s.ctx pid with resetStep := none, confirmed := [], cut := false, lossReset := false,
                                             fenced := c.fenced && c.lossReset }
      ((s.tallyP .CXP_RESETS p).setB (Reg.CXP_STATUS_RESET_EVT p) true).event p 5
    else s

/-- A reset takes effect on this node at the commit of its step (R341 steps 2 and 3). -/
def State.applyReset (s : State) (pid step entry : Nat) : State :=
  let s := s.flushHost pid
  let s := s.setCtx pid { s.ctx pid with cutStep := step, cut := decide (entry = s.me) }
  if entry ≠ s.me then s.sendMsg 0 10 0 entry 16 (.resetConfirm pid step s.me)
  else
    let p := s.hostPart pid
    let s := s.modSrch fun k => { k with adm := k.adm.map (fun a => { a with dlv := cutDelivery a.dlv pid }) }
    let s := (s.ownedIrings pid p).foldl (fun s n => s.discardRing p n) s
    (s.dropWaiters p (fun w => decide (w.pid = pid)) none).confirmReset pid step s.me

/-- Resets whose step has committed take effect (R341). -/
def State.runResets (s : State) : State :=
  let due := s.host.resets.filter (fun r => decide (r.2.1 ≤ s.get Reg.STEP_COMMITTED))
  due.foldl (fun s r => s.applyReset r.1 r.2.1 r.2.2)
    (s.modHost fun k => { k with resets := k.resets.filter (fun r => decide (s.get Reg.STEP_COMMITTED < r.2.1)) })

/-- A function-level reset arrives at its host's entry node (R341 step 1); `loss` for a host declared lost (R343). -/
def State.beginReset (s : State) (pid : Nat) (loss : Bool) : State :=
  let c := s.ctx pid
  let s0 := s.openStep
  let s := s.setCtx pid { c with resetStep := some s0, confirmed := [], lossReset := loss, hdmShared := none, hdmBank := none,
                                 hdmErr := 0, spdm := HostCtx.fresh.spdm }
  let s := (List.range 2048).foldl (fun s v =>
    if s.get (Reg.CXP_VEC_PARTITION v) ≠ 0 ∧ s.get (Reg.CXP_VEC_PID v) = pid then s.set (Reg.CXP_MSIX_MASK v) 1 else s) s
  let s := s.modHost fun k => { k with resets := k.resets ++ [(pid, s0, s.me)] }
  (s.sendEach 0 10 0 16 (.reset pid s0 s.me) s.otherMembers).runResets

/-- FUNCTION_LEVEL_RESET (R341). -/
def execFunctionLevelReset (h : HostReq) (s : State) :=
  hostCmd s (.functionLevelReset h) (fun s => s.configReq h (fun s => s.ideReq h (fun s => s.beginReset h.pid false)))

/-- RESET (R341): a member applies another entry node's reset at the commit of its step. -/
def execReset (pid step src : Nat) (s : State) :=
  nodeEvt s (fun s => (s.modHost fun k => { k with resets := k.resets ++ [(pid, step, src)] }).runResets)

/-- RESET_CONFIRM (R341 step 4). -/
def execResetConfirm (pid step src : Nat) (s : State) := nodeEvt s (fun s => s.confirmReset pid step src)

/-- An amendment that disables a partition acts on its queued entries (R342): fetched and unfetched descriptors are
discarded, and queued synchronisation operations complete with REFUSED_DISABLED. -/
def State.disablePartition (s : State) (p : Nat) : State :=
  let s := (List.range 16).foldl (fun s n => if s.iringOn p n then s.discardRing p n else s) s
  s.dropWaiters p (fun _ => true) (some 4)

/-! ### Lost hosts and links (R314, R329) -/

/-- The entry node declares a host lost (R314, R315, R343): it is fenced, its lines are reclaimed, and a reset begins that
leaves the fence. -/
def State.declareLost (s : State) (pid cause : Nat) : State :=
  match s.bindOf pid with
  | none => s
  | some i =>
    if s.get (Reg.CXP_BIND_ENTRY_NODE i) ≠ s.me ∨ (s.ctx pid).fenced = true then s
    else
      let p := s.hostPart pid
      let s := (s.setCtx pid { s.ctx pid with fenced := true }).tallyP .SHM_HOST_LOST p
      let s := ((s.setB Reg.HOME_STATUS_HOST_LOST_EVT true).event p 4).setB (Reg.CXP_STATUS_FENCE_EVT p) true
      let s := (s.event p 5).loseHostLines pid cause
      -- a reset under way then does not clear the fence either
      if (s.ctx pid).resetStep.isSome then s.setCtx pid { s.ctx pid with lossReset := true } else s.beginReset pid true

/-- Hosts whose entry node this is. -/
def State.ownHosts (s : State) : List Nat :=
  ((List.range 512).filter (fun i => decide (s.get (Reg.CXP_BIND_PARTITION i) ≠ 0 ∧ s.get (Reg.CXP_BIND_ENTRY_NODE i) = s.me ∧
    s.get (Reg.CXP_BIND_STEP_EFFECTIVE i) ≤ s.openStep))).map (fun i => s.get (Reg.CXP_BIND_PID i))

/-- BI_TIMEOUT (R314): a BISnp has been unanswered for tBI, 100 µs. -/
def execBiTimeout (pid line : Nat) (s : State) :=
  nodeEvt s (fun s =>
    if s.home.bisnp.any (fun b => decide (b.1 = line ∧ b.2.1 = pid ∧ b.2.2.2 + 2500 ≤ s.now)) then s.declareLost pid 0 else s)

/-- SWITCH_PORT_DOWN (R314). -/
def execSwitchPortDown (pid : Nat) (s : State) := nodeEvt s (fun s => s.declareLost pid 0)

/-- Show whether a port's link is up. -/
def State.showPort (s : State) (port : Nat) (up : Bool) : State :=
  s.setB (if port = 0 then Reg.CXP_STATUS_PORT0_UP else Reg.CXP_STATUS_PORT1_UP) up

/-- A port's link goes down (R314, R329): writes it held go through the other port, and with no port up every host of this
entry node is lost. -/
def State.portDown (s : State) (port st : Nat) : State :=
  if 2 ≤ port then s
  else
    let s := (s.set (Reg.CXP_PORT_STATE port) st).showPort port false
    let held := s.host.portHeld.filter (fun e => decide (e.1 % 2 = port))
    let s := s.modHost fun k => { k with portHeld := k.portHeld.filter (fun e => decide (e.1 % 2 ≠ port)) }
    let s := held.foldl (fun s e => e.2.foldl State.submitWrite s) s
    if s.portUp 0 || s.portUp 1 then s else s.ownHosts.foldl (fun s pid => s.declareLost pid 3) s

/-- CXL_LINK_DOWN (R329). -/
def execCxlLinkDown (port : Nat) (s : State) :=
  nodeEvt s (fun s => if s.get (Reg.CXP_PORT_STATE port) = 0 then s else s.portDown port 0)

/-- CXL_LINK_UP (R329): the trained width and rate, and the PID assigned to the port. A port held by CXL_PERST_N stays in
reset (R450). -/
def execCxlLinkUp (port width rate pid : Nat) (s : State) :=
  nodeEvt s (fun s =>
    if 2 ≤ port ∨ s.pwr.perst.contains port = true then s
    else
      let s := (s.set (Reg.CXP_PORT_STATE port) 2).set (Reg.CXP_PORT_WIDTH port) width
      ((s.set (Reg.CXP_PORT_RATE_GTS port) rate).set (Reg.CXP_PORT_PORT_PID port) pid).showPort port true)

/-- CXL_PERST (R450): while the pin is low the port's link is in reset, and when it rises the link trains. Pins act in a
freeze. -/
def execCxlPerst (port : Nat) (low : Bool) (s : State) :=
  anyEvt s (fun s =>
    if 2 ≤ port then s
    else if low then
      let s := s.modPwr fun p => { p with perst := if p.perst.contains port then p.perst else p.perst ++ [port] }
      if s.get (Reg.CXP_PORT_STATE port) = 0 then s else s.portDown port 0
    else
      let s := s.modPwr fun p => { p with perst := p.perst.filter (fun x => decide (x ≠ port)) }
      if s.get (Reg.CXP_PORT_STATE port) = 0 then s.set (Reg.CXP_PORT_STATE port) 1 else s)

/-! ### IDE (R339) -/

/-- IDE_INTEGRITY_FAIL (R339): the node takes the link down and keeps no key of a stream that ended. -/
def execIdeIntegrityFail (port : Nat) (s : State) :=
  nodeEvt s (fun s =>
    if 2 ≤ port then s
    else
      let s := (s.tallyN .CXP_IDE_FAIL).setB Reg.CXP_STATUS_IDE_FAIL_EVT true
      let s := (s.set (Reg.CXP_PORT_IO_IDE port) 0).set (Reg.CXP_PORT_MEM_IDE port) 0
      let keep (t : Tab HostCtx) : Tab HostCtx :=
        (t.map (fun e => (e.1, { e.2 with ideKeyed := false }))).filter (fun e => decide (e.2 ≠ HostCtx.fresh))
      let s := s.modHost fun k => { k with ctx := keep k.ctx }
      s.portDown port 0)

/-- IDE_KEY_SET (R339): over a secured session the keys of the host's selective stream, or of its port's link IDE, are
set. -/
def execIdeKeySet (h : HostReq) (link : Bool) (s : State) :=
  hostCmd s (.ideKeySet h link) (fun s => s.configReq h (fun s =>
    let c := s.ctx h.pid
    if !c.spdm.session then s
    else if link then
      if 2 ≤ h.port then s
      else (s.set (Reg.CXP_PORT_IO_IDE h.port) 1).set (Reg.CXP_PORT_MEM_IDE h.port) (s.get Reg.CXP_CFG_MEM_IDE_MODE)
    else s.setCtx h.pid { c with ideKeyed := true }))

/-! ### The SPDM responder (R340, R426): codes of SPDM 1.2 (assumption 29) -/

/-- The bytes of a digest. -/
def digestBytes (d : Digest) : List Byte := natLe 32 d.toNat

/-- Send an SPDM response. -/
def State.spdmSay (s : State) (h : HostReq) (code : Nat) (b : List Byte) : State := s.emit (.spdm h.pid code b)

/-- Send ERROR with an error code. -/
def State.spdmErr (s : State) (h : HostReq) (code : Nat) : State := s.spdmSay h 0x7F [BitVec.ofNat 8 code]

/-- Answer a request of a host whose exchange has reached what it needs; else ERROR UnexpectedRequest. -/
def State.spdmReq (s : State) (h : HostReq) (ready : Spdm → Bool) (f : State → Spdm → State) : State :=
  s.configReq h (fun s => let x := (s.ctx h.pid).spdm; if ready x then f s x else s.spdmErr h 4)

/-- Set a host's SPDM state. -/
def State.setSpdm (s : State) (h : HostReq) (x : Spdm) : State := s.setCtx h.pid { s.ctx h.pid with spdm := x }

/-- Measurement block i (R426). -/
def State.measurement (s : State) (i : Nat) : List Byte :=
  match i with
  | 1 => digestBytes Config.codeDigest
  | 2 => natLe 32 (s.get Reg.CFG_IMAGE_DIGEST)
  | 3 => natLe 32 (s.get Reg.SEC_OWNER_DIGEST)
  | 4 => natLe 32 (s.get Reg.SEC_SAFETY_DIGEST)
  | 5 => natLe 8 (s.get Reg.CFG_HEAD) ++ natLe 32 (s.get Reg.CFG_HEAD_DIGEST)
  | 6 => digestBytes (Config.sm3 (((List.range 256).filter (fun m => decide (s.get (Reg.ENC_MODEL_STATE m) = 2))).map
      (fun m => natLe 32 (s.get (Reg.ENC_MODEL_DIGEST m)))).flatten)
  | 7 => natLe 1 (s.get Reg.CFG_STATUS_STRAP_G1) ++ natLe 8 ((partitions.map (fun p => s.get (Reg.PART_CFG_COMPAT p) * 2 ^ (p - 1))).sum)
  | 8 => digestBytes s.cfg.lastReport
  | _ => []

/-- GET_VERSION (R340): VERSION 1.2; an exchange begins anew. -/
def execGetVersion (h : HostReq) (s : State) :=
  hostCmd s (.getVersion h) (fun s => s.configReq h (fun s =>
    (s.setSpdm h { HostCtx.fresh.spdm with stage := 1 }).spdmSay h 0x04 [0x12#8]))

/-- GET_CAPABILITIES (R340). -/
def execGetCapabilities (h : HostReq) (s : State) :=
  hostCmd s (.getCapabilities h) (fun s => s.spdmReq h (fun x => decide (x.stage = 1)) (fun s x =>
    (s.setSpdm h { x with stage := 2 }).spdmSay h 0x61 [BitVec.ofNat 8 (s.get Reg.CXP_CFG_MUTUAL_AUTH)]))

/-- NEGOTIATE_ALGORITHMS (R340): the node's four algorithms, when the requester offers them; else ERROR InvalidRequest. -/
def execNegotiateAlgorithms (h : HostReq) (offered : Bool) (s : State) :=
  hostCmd s (.negotiateAlgorithms h offered) (fun s => s.spdmReq h (fun x => decide (x.stage = 2)) (fun s x =>
    if offered then (s.setSpdm h { x with stage := 3 }).spdmSay h 0x63 [] else s.spdmErr h 1))

/-- The exchange has negotiated its algorithms. -/
def Spdm.ready (x : Spdm) : Bool := decide (x.stage = 3)

/-- GET_DIGESTS (R340, R426): the digest of the certificate chain of slot 0. -/
def execGetDigests (h : HostReq) (s : State) :=
  hostCmd s (.getDigests h) (fun s => s.spdmReq h Spdm.ready (fun s _ =>
    s.spdmSay h 0x01 (digestBytes (Config.sm3 s.cfg.chainDer))))

/-- GET_CERTIFICATE (R340, R426): a portion of the chain of slot 0. -/
def execGetCertificate (h : HostReq) (offset length : Nat) (s : State) :=
  hostCmd s (.getCertificate h offset length) (fun s => s.spdmReq h Spdm.ready (fun s _ =>
    s.spdmSay h 0x02 ((s.cfg.chainDer.drop offset).take length)))

/-- CHALLENGE (R340): CHALLENGE_AUTH, signed with the identity key over the nonce and the chain's digest. -/
def execChallenge (h : HostReq) (nonce : List Byte) (s : State) :=
  hostCmd s (.challenge h nonce) (fun s => s.spdmReq h Spdm.ready (fun s _ =>
    let d := digestBytes (Config.sm3 s.cfg.chainDer)
    s.spdmSay h 0x03 (d ++ Config.sm2Sign (nonce ++ d))))

/-- GET_MEASUREMENTS (R340, R426): one block, or all of them for index 0xFF, or their number for index 0; signed on
request. -/
def execGetMeasurements (h : HostReq) (index : Nat) (sign : Bool) (nonce : List Byte) (s : State) :=
  hostCmd s (.getMeasurements h index sign nonce) (fun s => s.spdmReq h Spdm.ready (fun s _ =>
    let b := if index = 0 then natLe 1 8
      else if index = 0xFF then ((List.range 8).map (fun i => s.measurement (i + 1))).flatten
      else s.measurement index
    if 8 < index ∧ index ≠ 0xFF then s.spdmErr h 1
    else s.spdmSay h 0x60 (b ++ if sign then Config.sm2Sign (nonce ++ b) else [])))

/-- KEY_EXCHANGE (R340): with MUTUAL_AUTH the requester's certificate must check against the image's roots. -/
def execKeyExchange (h : HostReq) (data : List Byte) (certOk : Bool) (s : State) :=
  hostCmd s (.keyExchange h data certOk) (fun s => s.spdmReq h Spdm.ready (fun s x =>
    if s.flag Reg.CXP_CFG_MUTUAL_AUTH && !certOk then s.spdmErr h 1
    else (s.setSpdm h { x with keyed := true, session := false }).spdmSay h 0x64 (Config.sm2Sign data)))

/-- FINISH (R340): the session is established when the requester's verification data are right. -/
def execFinish (h : HostReq) (ok : Bool) (s : State) :=
  hostCmd s (.finish h ok) (fun s => s.spdmReq h (fun x => x.keyed) (fun s x =>
    if ok then (s.setSpdm h { x with keyed := false, session := true, keyGen := 0 }).spdmSay h 0x65 []
    else (s.setSpdm h { x with keyed := false }).spdmErr h 6))

/-- SPDM_HEARTBEAT (R340). -/
def execSpdmHeartbeat (h : HostReq) (s : State) :=
  hostCmd s (.spdmHeartbeat h) (fun s => s.spdmReq h (fun x => x.session) (fun s _ => s.spdmSay h 0x68 []))

/-- KEY_UPDATE (R340). -/
def execKeyUpdate (h : HostReq) (s : State) :=
  hostCmd s (.keyUpdate h) (fun s => s.spdmReq h (fun x => x.session) (fun s x =>
    (s.setSpdm h { x with keyGen := x.keyGen + 1 }).spdmSay h 0x69 []))

/-- END_SESSION (R340); the node keeps no key of a stream that ends with it (R339). -/
def execEndSession (h : HostReq) (s : State) :=
  hostCmd s (.endSession h) (fun s => s.spdmReq h (fun x => x.session) (fun s x =>
    let s := s.setSpdm h { x with session := false }
    (s.setCtx h.pid { s.ctx h.pid with ideKeyed := false }).spdmSay h 0x6C []))

/-- SPDM_UNSUPPORTED (R340): ERROR UnsupportedRequest. -/
def execSpdmUnsupported (h : HostReq) (s : State) :=
  hostCmd s (.spdmUnsupported h) (fun s => s.configReq h (fun s => s.spdmErr h 7))

end Sys2Proof.Machine
end

