-- ==== Sys2Proof/Machine/Emb.lean ====
section
/-! DEFINITION. The embedding service (R274 to R295): placement, pooled look-ups, gradient records and the optimisers, the
undo set, table loads and saves, and migration. -/

namespace Sys2Proof.Machine

/-! ### Tables and placement (R274 to R276, R292) -/

/-- The entry of a table number, whatever its partition. -/
def State.tableIdx (s : State) (t : Nat) : Option Nat :=
  firstIdx 1024 (fun i => decide (s.get (Reg.EMB_TABLE_TABLE i) = t ∧ s.get (Reg.EMB_TABLE_PARTITION i) ≠ 0 ∧ s.get (Reg.EMB_TABLE_STATE i) ≠ 0))

/-- The partition of a table. -/
def State.tablePart (s : State) (t : Nat) : Nat := match s.tableIdx t with | some i => s.get (Reg.EMB_TABLE_PARTITION i) | none => 0

/-- DIM of a table. -/
def State.tableDim (s : State) (t : Nat) : Nat := match s.tableIdx t with | some i => s.get (Reg.EMB_TABLE_DIM i) | none => 0

/-- The node-set list of a table entry. -/
def State.nodeSet (s : State) (i : Nat) : List Nat := tget [] s.emb.nodes i

/-- The key of a row. -/
def rowKey (table row : Nat) : Nat := 2 ^ 32 * table + row

/-- A row that nothing has written: zeros. -/
def zeroRow : Row := { e := [], x := [] }

/-- The hash shard of a row (R276). -/
def State.rowShard (s : State) (i row : Nat) : Nat := shardOf (s.get (Reg.EMB_TABLE_SHARDS i)) row

/-- The directory entry in force for a row at a step (R292). -/
def State.override (s : State) (table row t : Nat) : Option Override :=
  s.emb.dir.find? (fun o => decide (o.table = table ∧ o.row = row ∧ o.step ≤ t))

/-- Owner and mirror of a row of a sharded table by its hash (R276). -/
def State.hashHolders (s : State) (i row : Nat) : Nat × Nat :=
  let n := s.rowShard i row
  let m := (n + 1) % max (s.get (Reg.EMB_TABLE_SHARDS i)) 1
  ((s.nodeSet i).getD n 0xFFF, if m = n then 0xFFF else (s.nodeSet i).getD m 0xFFF)

/-- Owner and mirror of a row of a sharded table at a step (R276, R292). -/
def State.rowHolders (s : State) (i row t : Nat) : Nat × Nat :=
  match s.override (s.get (Reg.EMB_TABLE_TABLE i)) row t with
  | some o => (o.owner, o.mirror)
  | none => s.hashHolders i row

/-- The table is sharded (R276). -/
def State.sharded (s : State) (i : Nat) : Bool := decide (s.get (Reg.EMB_TABLE_PLACEMENT i) = 1)

/-- An owner and a mirror that stand in a node set. -/
def pairNodes (h : Nat × Nat) : List Nat := ([h.1, h.2].filter (fun n => decide (n ≠ 0xFFF))).dedup

/-- The nodes that hold a row at a step: owner and mirror, or the whole node set. -/
def State.rowNodes (s : State) (i row t : Nat) : List Nat :=
  if s.sharded i then pairNodes (s.rowHolders i row t) else s.nodeSet i

/-- The nodes that an admitting node sends a row's records of a step to: one outside the node set has no directory and goes
by the hash (R292). -/
def State.sentTo (s : State) (i row t admitter : Nat) : List Nat :=
  if s.sharded i && !(s.nodeSet i).contains admitter then pairNodes (s.hashHolders i row) else s.rowNodes i row t

/-- The node that serves a row at a step for this node, under a membership: the owner, else the mirror; of a replicated
table this node, else the lowest member that holds it (R276). -/
def State.serverOf (s : State) (members i row t : Nat) : Option Nat :=
  let up := (s.rowNodes i row t).filter (fun n => bit members n)
  if s.sharded i then up.head?
  else if up.contains s.me then some s.me else up.min?

/-- A row as this node holds it. -/
def State.rowNow (s : State) (key : Nat) : Row := tget zeroRow s.emb.rows key

/-- A row as committed below step t (R289): the undo copy of the lowest tag at or above t, else the row. -/
def State.rowAt (s : State) (key t : Nat) : Row :=
  let tags := (s.emb.undo.filter (fun u => decide (u.2.1 = key ∧ t ≤ u.1))).map (·.1)
  match tags.min? with
  | some m => ((s.emb.undo.find? (fun u => decide (u.2.1 = key ∧ u.1 = m))).map (·.2.2)).getD (s.rowNow key)
  | none => s.rowNow key

/-- Element j of a row. -/
def rowElem (r : Row) (j : Nat) : Int := r.e.getD j 0

/-- Bytes of the shared space that an operation read: lines the coherence engine obtained, else lines homed here. -/
def State.shmRead (s : State) (mem : List (Nat × List Byte)) (a n : Nat) : List Byte :=
  let first := a / 64
  let lines := (List.range ((a + n + 63) / 64 - first)).map (fun i =>
    match mem.find? (fun m => decide (m.1 = first + i)) with
    | some m => m.2
    | none => natLe 64 (s.lineMem (first + i)))
  (lines.flatten.drop (a - 64 * first)).take n

/-! ### Bags (R278) -/

/-- Bytes of a bag of n entries, padded. -/
def bagBytes (n : Nat) : Nat := cdiv (16 + 8 * n) 64 * 64

/-- Read one bag: its structure and its size; none when it breaks the layout. RSVD fields do not (R6). -/
def readBag (rows : Nat) (b : List Byte) : Option (Bag × Nat) :=
  let n := leNat b 0 2
  let idx := (List.range n).map (fun i => leNat b (16 + 8 * i) 4)
  if n = 0 ∨ 256 < n ∨ (fp32.read (leNat b 4 4)).isNone = true ∨ idx.any (fun r => decide (rows ≤ r)) = true ∨ b.length < bagBytes n then none
  else some ({ scale := leNat b 4 4, dead := false,
               entries := (List.range n).map (fun i => (leNat b (16 + 8 * i) 4, sext 16 (leNat b (20 + 8 * i) 2))) }, bagBytes n)

/-- Reserved fields of a bag are not zero. -/
def bagRsvd (b : List Byte) : Bool :=
  decide (leNat b 2 2 ≠ 0 ∨ leNat b 8 8 ≠ 0) || (List.range (leNat b 0 2)).any (fun i => decide (leNat b (22 + 8 * i) 2 ≠ 0))

/-- Read the bags of a look-up one after another: their list and their bytes. -/
def readBags (get : Nat → Nat → List Byte) (rows : Nat) : Nat → Nat → Option (List Bag × Nat × Nat)
  | 0, a => some ([], a, 0)
  | k + 1, a =>
    match readBag rows (get a 2112) with
    | none => none
    | some (b, n) => (readBags get rows k (a + n)).map (fun r => (b :: r.1, r.2.1, r.2.2 + b2n (bagRsvd (get a 2112))))

/-! ### Completions (R293) -/

/-- Complete an embedding operation once its writes are visible. -/
def State.endEmb (s : State) (id : OpId) (status done sat fwd : Nat) : State :=
  match s.adm? id with
  | none => s
  | some a =>
    s.completeAfter id status (embRecord status a.dlv.phase a.handle a.dlv.tag a.id.step a.dlv.user a.opcode a.items done sat fwd s.me a.id.seq)

/-- A request of the operation travels and is not acknowledged yet (R473). -/
def State.requestsOut (s : State) (id : OpId) : Bool :=
  s.ovl.msgs.any (fun m => !m.acked && (match m.cargo with
    | .cmd (.entries i ..) => decide (i = id)
    | .cmd (.gradStage r _) => decide (r.id = id)
    | .cmd (.actRecord r _) => decide (r.id = id)
    | _ => false))

/-- Release the operations announced here whose every request has been delivered (R473). -/
def State.releaseDue (s : State) : State :=
  let mine := s.stp.ops.filter (fun o => decide (o.admitter = s.me ∧ o.opcode ≠ 1) && !o.released)
  mine.foldl (fun s o =>
    let id : OpId := { step := o.step, seq := o.seq, admitter := o.admitter }
    let waits := match s.adm? id with | some a => !a.started || s.enc.backlog.any (fun r => decide (r.id = id)) | none => false
    if waits || s.requestsOut id then s else s.releaseOp id o.opcode) s

/-! ### Serving entries (R153, R279, R281, R289) -/

/-- An entry may be dispatched (R279, R287, R292): the step before its own is committed here, the row is here, and no
update of an earlier step is unfinished or awaits its digest. -/
def State.entryReady (s : State) (e : EntryReq) : Bool :=
  let k := rowKey e.table e.row
  decide (e.id.step ≤ s.get Reg.STEP_COMMITTED + 1) &&
  !s.emb.applies.any (fun a => decide (a.1 = k ∧ a.2 < e.id.step)) &&
  !s.emb.digests.any (fun d => decide (d.1 = k ∧ d.2.1 < e.id.step)) &&
  !s.emb.expected.any (fun x => decide (x.1 = k ∧ x.2 < e.id.step))

/-- Dispatch the entries that are ready. -/
def State.dispatchEntries (s : State) : State :=
  let go := s.emb.waiting.filter s.entryReady
  if go.isEmpty then s
  else s.modEmb fun e => { e with waiting := e.waiting.filter (fun x => !s.entryReady x), gathers := e.gathers ++ go }

/-- Add two rows of sums. -/
def addSums (a b : List Int) : List Int :=
  (List.range (max a.length b.length)).map (fun i => a.getD i 0 + b.getD i 0)

/-- The FP32 pattern of S × SCALE × 2^TSCALE, rounded once (R279). -/
def pooledValue (sum : Int) (scale : Nat) (tscale : Int) : Nat :=
  match fp32.read scale with
  | some n => fp32.round (sum * n) ((fp32.unit : Int) - tscale).toNat
  | none => 0

/-- A look-up or save has every partial: its results are written and it completes (R279, R281, R290). -/
def State.finishLookup (s : State) (l : Lookup) : State :=
  let s := s.modEmb fun e => { e with lookups := e.lookups.filter (fun x => decide (x.id ≠ l.id)) }
  let i := (s.tableIdx l.table).getD 0
  let dim := s.get (Reg.EMB_TABLE_DIM i)
  let p := s.get (Reg.EMB_TABLE_PARTITION i)
  let s := s.tallyP .EMB_LOOKUPS p (if l.save then 0 else 1)
  if l.bad ≠ 0 then (s.endEmb l.id l.bad 0 0 l.fwd).settled
  else
    let live := (l.bags.zipIdx).filter (fun b => !b.1.dead)
    let vals (b : Bag × Nat) : List Nat := (List.range dim).map (fun j =>
      let v := (tget [] l.sums b.2).getD j 0
      if l.save then untoInt 32 v else pooledValue v b.1.scale (sext 8 (s.get (Reg.EMB_TABLE_TSCALE i))))
    let sat := if l.save then 0 else ((live.map vals).flatten).countP (fun v => isInf32 v)
    let s := live.foldl (fun s b => s.writeSpan (l.dst + b.2 * 4 * dim) ((vals b).map (natLe 4)).flatten (opTag l.id.seq)) s
    (s.endEmb l.id (if live.length < l.bags.length then 8 else 0) live.length sat l.fwd).settled

/-- Partial sums reach the admitting node (R279): added exactly; nodes that entries were forwarded to are awaited too. -/
def State.gotPartials (s : State) (id : OpId) (sums : List (Nat × List Int)) (fwd : Nat) (onto : List Nat) (bad src : Nat) : State :=
  match s.emb.lookups.find? (fun l => decide (l.id = id)) with
  | none => s
  | some l =>
    let l := { l with sums := sums.foldl (fun t x => tput t x.1 (addSums (tget [] t x.1) x.2)) l.sums
                      await := l.await.erase src ++ onto, fwd := l.fwd + fwd, bad := worse l.bad bad }
    if l.await.isEmpty then s.finishLookup l
    else s.modEmb fun e => { e with lookups := lmod (fun x => decide (x.id = id)) (fun _ => l) e.lookups }

/-- A node's share of a look-up is gathered: its partial sums go back. -/
def State.sendPartials (s : State) (q : Partial) : State :=
  let s := s.modEmb fun e => { e with partials := e.partials.filter (fun x => decide (¬ (x.id = q.id ∧ x.src = q.src))) }
  let s := if q.src = s.me then s.gotPartials q.id q.sums q.fwd q.onto q.bad s.me
    else s.sendMsg 0 4 0 q.src (16 + 10 * ((q.sums.map (fun x => x.2.length)).sum)) (.partials q.id q.sums q.fwd q.onto q.bad s.me)
  s.finishOps

/-- Entries reach a node (R279, R292): those it serves at their step are dispatched or wait; the rest are forwarded once to
the row's new owner. -/
def State.takeEntries (s : State) (id : OpId) (table : Nat) (es : List (Nat × Nat × Int)) (fwd : Bool) (src : Nat) : State :=
  let i := (s.tableIdx table).getD 0
  let server (e : Nat × Nat × Int) : Option Nat := s.serverOf (s.get Reg.STEP_MEMBERS) i e.2.1 id.step
  let away := if fwd then [] else es.filter (fun e => match server e with | some n => decide (n ≠ s.me) | none => false)
  let here := es.filter (fun e => !away.contains e)
  let onto := (away.filterMap server).dedup
  let p := s.get (Reg.EMB_TABLE_PARTITION i)
  let s := onto.foldl (fun s n =>
    let mine := away.filter (fun e => decide (server e = some n))
    (s.tallyP .EMB_FORWARDED p mine.length).sendMsg p 4 0 n (16 + 10 * mine.length) (.entries id table mine true src)) s
  let s := s.modEmb fun e => { e with
    waiting := e.waiting ++ here.map (fun x => { id := id, table := table, src := src, bag := x.1, row := x.2.1, weight := x.2.2 })
    served := here.foldl (fun t x => let k := rowKey table x.2.1; tset 0 t k (tget 0 t k + 1)) e.served }
  let q : Partial := { id := id, src := src, sums := [], left := here.length, fwd := away.length, onto := onto, bad := 0 }
  if here.isEmpty then s.sendPartials q
  else (s.modEmb fun e => { e with partials := e.partials ++ [q] }).dispatchEntries

/-- ENTRIES (R279). -/
def execEntries (id : OpId) (table : Nat) (entries : List (Nat × Nat × Int)) (fwd : Bool) (src : Nat) (s : State) :=
  nodeEvt s (fun s => s.takeEntries id table entries fwd src)

/-- PARTIALS (R279). -/
def execPartials (id : OpId) (sums : List (Nat × List Int)) (fwd : Nat) (onto : List Nat) (bad src : Nat) (s : State) :=
  nodeEvt s (fun s => (s.gotPartials id sums fwd onto bad src).releaseDue)

/-- NBU_GATHER (R153, R281): a dispatched entry is gathered and its weighted row added to the look-up's sums. A failing
residue isolates the NBU; the fallback unit's result replaces it, or, failing too, the look-up is withheld. -/
def execNbuGather (id : OpId) (bag row : Nat) (fault : Option (Nat × Bool)) (s : State) :=
  nodeEvt s (fun s =>
    match s.emb.gathers.find? (fun e => decide (e.id = id ∧ e.bag = bag ∧ e.row = row)) with
    | none => s
    | some e =>
      let r := s.rowAt (rowKey e.table row) id.step
      let term := (List.range (s.tableDim e.table)).map (fun j => e.weight * (rowElem r j))
      let s := (s.modEmb fun x => { x with gathers := x.gathers.erase e }).tallyP .EMB_TERMS (s.tablePart e.table)
      let bad := match fault with | some (_, false) => 2 | _ => 0
      let s := match fault with
        | some (u, ok) => ((s.tallyN .NBU_GATHER_RESIDUE_FAIL).tallyN .NBU_FALLBACK_SEGMENTS).react 4 .nbu u 0 (if ok then 0 else 1) id.seq
        | none => s
      match s.emb.partials.find? (fun q => decide (q.id = id ∧ q.src = e.src)) with
      | none => s
      | some q =>
        let q := { q with sums := tput q.sums bag (addSums (tget [] q.sums bag) term), left := q.left - 1, bad := worse q.bad bad }
        if q.left = 0 then s.sendPartials q
        else s.modEmb fun x => { x with partials := lmod (fun y => decide (y.id = id ∧ y.src = e.src)) (fun _ => q) x.partials })

/-- Start a look-up or a save (R31, R279, R473): it is announced, its entries go to the nodes that serve their rows, and a
bag that names a row without a serving member is left out (R281). -/
def State.startLookup (s : State) (a : Admitted) : State :=
  let s := (s.modAdm a.id (fun x => { x with started := true })).announceOp a.id a.opcode
  match s.emb.lookups.find? (fun l => decide (l.id = a.id)) with
  | none => s
  | some l =>
    let i := (s.tableIdx l.table).getD 0
    let bags := if l.save then (List.range l.count).map (fun k => ({ scale := 0, entries := [(l.first + k, 1)], dead := false } : Bag)) else l.bags
    let server (r : Nat) : Option Nat := s.serverOf (s.get Reg.STEP_MEMBERS) i r a.id.step
    let bags := bags.map (fun b => { b with dead := b.entries.any (fun e => (server e.1).isNone) })
    let terms := (((bags.zipIdx).filter (fun b => !b.1.dead)).map (fun b => b.1.entries.map (fun e => (b.2, e.1, e.2)))).flatten
    let nodes := (terms.filterMap (fun t => server t.2.1)).dedup
    let l := { l with bags := bags, await := nodes }
    let s := s.modEmb fun e => { e with lookups := lmod (fun x => decide (x.id = a.id)) (fun _ => l) e.lookups }
    let mine (n : Nat) : List (Nat × Nat × Int) := terms.filter (fun t => decide (server t.2.1 = some n))
    let s := (nodes.filter (fun n => decide (n ≠ s.me))).foldl (fun s n =>
      s.sendMsg a.dlv.part 4 0 n (16 + 10 * (mine n).length) (.entries a.id l.table (mine n) false s.me)) s
    let s := if nodes.contains s.me then s.takeEntries a.id l.table (mine s.me) false s.me else s
    let s := if nodes.isEmpty then s.finishLookup l else s
    s.releaseDue

/-- EMB_LOOKUP (R279): the bags are read when the descriptor is taken; one that breaks the layout fails the operation, and a
lost line fails it with FAILED (R313). `mem` gives the lines homed elsewhere. -/
def execEmbLookup (mem : List (Nat × List Byte)) (lost : Bool) (s : State) :=
  nodeEvt s (fun s => s.serve (isOp 0x20) (fun s t dlv =>
    let d := t.data
    let tab := body d 0 2
    let i := (s.tableIdx tab).getD 0
    let get (a n : Nat) : List Byte := s.shmRead mem a n
    match readBags get (s.get (Reg.EMB_TABLE_ROWS_M1 i) + 1) (body d 2 2) (body d 8 8) with
    | none => s.completeTaken t 5
    | some r =>
      if !s.canRead t.part (some (s.iringOwner t.part t.ring)) (body d 8 8) (r.2.1 - body d 8 8) then s.completeTaken t 5
      else if lost then s.completeTaken t 10
      else
        let a := { t.admitted dlv tab 0 true with items := body d 2 2 }
        let l : Lookup := { id := t.id, table := tab, dst := body d 16 8, save := false, first := 0, count := 0, bags := r.1, sums := [],
                            await := [], fwd := 0, bad := 0 }
        let s := ((s.admitOp a).tallyP .CXP_RSVD_WRITES t.part r.2.2).modEmb fun e => { e with lookups := e.lookups ++ [l] }
        if t.id.step ≤ s.get Reg.STEP_COMMITTED + 1 then s.startLookup a else s))

/-- EMB_TABLE_SAVE (R290): rows as committed below the step, written to the destination. -/
def execEmbTableSave (s : State) :=
  nodeEvt s (fun s => s.serve (isOp 0x23) (fun s t dlv =>
    let d := t.data
    let a := { t.admitted dlv (body d 0 2) 0 true with items := body d 8 8 }
    let l : Lookup := { id := t.id, table := body d 0 2, dst := body d 16 8, save := true, first := body d 4 4, count := body d 8 8, bags := [],
                        sums := [], await := [], fwd := 0, bad := 0 }
    let s := (s.admitOp a).modEmb fun e => { e with lookups := e.lookups ++ [l] }
    if t.id.step ≤ s.get Reg.STEP_COMMITTED + 1 then s.startLookup a else s))

/-! ### Gradient records (R282 to R284) -/

/-- The fixed-point form of a gradient element, and whether it was clamped (R283); none for a NaN. -/
def gradFix (gfrac v : Nat) : Option (Int × Bool) :=
  if isNan32 v then none
  else match fp32.read v with
    | none => some (if v < 2 ^ 31 then (2 ^ 63 - 1, true) else (-2 ^ 63, true))
    | some n =>
      let g := rneInt (n * 2 ^ gfrac) fp32.unit
      some (max (-2 ^ 63) (min (2 ^ 63 - 1) g), decide (g < -2 ^ 63 ∨ 2 ^ 63 - 1 < g))

/-- A gradient record read: its table, row and FP32 patterns; none when it breaks the layout (R282). -/
def State.readGrad (s : State) (b : List Byte) : Option (Nat × Nat × List Nat) :=
  let t := leNat b 0 2
  match s.tableIdx t with
  | none => none
  | some i =>
    let dim := s.get (Reg.EMB_TABLE_DIM i)
    if leNat b 2 2 ≠ dim ∨ s.get (Reg.EMB_TABLE_ROWS_M1 i) < leNat b 4 4 ∨ b.length < 16 + 4 * dim then none
    else some (t, leNat b 4 4, (List.range dim).map (fun j => leNat b (16 + 4 * j) 4))

/-- Convert a record (R283, R286): counts what clamps, drops a NaN or a table without an optimiser. -/
def State.convertGrad (s : State) (t : Nat) (vs : List Nat) : State × Option (List Int) × Nat :=
  let i := (s.tableIdx t).getD 0
  let p := s.get (Reg.EMB_TABLE_PARTITION i)
  match vs.mapM (gradFix (s.get (Reg.EMB_TABLE_GFRAC i))) with
  | none => (s.tallyP .EMB_GRAD_NAN p, none, 0)
  | some g =>
    let sat := g.countP (·.2)
    let s := (s.tallyP .EMB_GRAD_SAT p sat).when (decide (0 < sat)) (fun s => s.setB Reg.EMB_STATUS_GRAD_SAT_EVT true)
    if s.get (Reg.EMB_TABLE_OPT i) = 0 then (s.tallyP .EMB_GRAD_DISCARDED p, none, sat)
    else (s, some (g.map (·.1)), sat)

/-- A holder stages a record, once. -/
def State.keepGrad (s : State) (r : GradRec) : State :=
  if s.emb.grads.any (fun g => decide (g.id = r.id ∧ g.pos = r.pos)) then s
  else s.modEmb fun e => { e with grads := e.grads ++ [r] }

/-- A holder stages a record and acknowledges it to the node that sent it (R284, R292). -/
def State.stageGrad (s : State) (r : GradRec) (src : Nat) : State :=
  let s := s.keepGrad r
  if src = r.id.admitter then s.sendAckTo r.id r.part else s.sendMsg r.part 3 0 src 24 (.stageAck r.id 0 s.me)

/-- Send a record to a holder, for one unit of staging credit; without credit it waits (R137, R284). -/
def State.sendGrad (s : State) (n : Nat) (r : GradRec) : State :=
  if n = s.me then s.stageGrad r s.me
  else if s.creditFrom n = 0 then s.modEmb fun e => { e with unsent := e.unsent ++ [(n, r)] }
  else (s.modSrch fun k => { k with credit := tset 0 k.credit n (tget 0 k.credit n - 1) }).sendMsg r.part 3 0 n
    (40 + 8 * r.g.length) (.gradStage r s.me)

/-- Records that waited for credit go out. -/
def State.drainGrads (s : State) : State :=
  let q := s.emb.unsent
  q.foldl (fun s x => s.sendGrad x.1 x.2) (s.modEmb fun e => { e with unsent := [] })

/-- CREDIT (R137, R284). -/
def execCredit (src : Nat) (units : Int) (s : State) := nodeEvt s (fun s => (s.takeCredit src units).drainGrads)

/-- Holders of a row that are members. -/
def State.gradNodes (s : State) (t row step : Nat) : List Nat :=
  (s.rowNodes ((s.tableIdx t).getD 0) row step).filter s.isMember

/-- Send records to their rows' holders, each to be acknowledged (R29 condition 2, R284). -/
def State.stageAll (s : State) (rs : List GradRec) : State :=
  rs.foldl (fun s r =>
    let ns := s.gradNodes r.table r.row r.id.step
    let s := s.modAdm r.id (fun a => { a with acks := a.acks ++ ns })
    ns.foldl (fun s n => s.sendGrad n r) s) s

/-- The nodes that this node forwards a record to: the first node that the admitting node sent it to forwards it to the holders
that it was not sent to (R292). -/
def State.gradNext (s : State) (r : GradRec) : List Nat :=
  let i := (s.tableIdx r.table).getD 0
  let direct := s.sentTo i r.row r.id.step r.id.admitter
  if (direct.filter s.isMember).head? = some s.me then
    (s.rowNodes i r.row r.id.step).filter (fun n => s.isMember n && !direct.contains n)
  else []

/-- This node holds a record's row at the record's step. -/
def State.holdsRow (s : State) (r : GradRec) : Bool := (s.rowNodes ((s.tableIdx r.table).getD 0) r.row r.id.step).contains s.me

/-- Forward a record once to its row's new holders; it is acknowledged when they have (R29, R292). -/
def State.forwardGrad (s : State) (r : GradRec) (dst : List Nat) : State :=
  let s := if s.holdsRow r then s.keepGrad r else s.returnCredit r.id.admitter 1
  let s := dst.foldl (fun s n => s.sendMsg r.part 3 0 n (40 + 8 * r.g.length) (.gradStage r s.me)) (s.tallyP .EMB_FORWARDED r.part)
  s.modEmb fun e => { e with relays := e.relays ++ [(r.id, r.part, dst)] }

/-- GRAD_STAGE (R284): staged until the commit that applies it; a record that reaches a row's old owner is forwarded once to
its new holders (R292). -/
def execGradStage (rec : GradRec) (src : Nat) (s : State) :=
  nodeEvt s (fun s =>
    if rec.due ≤ s.get Reg.STEP_COMMITTED then s
    else if src ≠ rec.id.admitter then s.stageGrad rec src
    else match s.gradNext rec with
      | [] => if s.holdsRow rec then s.stageGrad rec src else (s.returnCredit rec.id.admitter 1).sendAckTo rec.id rec.part
      | dst => s.forwardGrad rec dst)

/-- EMB_UPDATE (R285): every record is read and checked when the descriptor is taken, converted, and staged at its row's
holders. -/
def execEmbUpdate (mem : List (Nat × List Byte)) (lost : Bool) (s : State) :=
  nodeEvt s (fun s => s.serve (isOp 0x21) (fun s t dlv =>
    let d := t.data
    let tab := body d 0 2
    let n := body d 4 4
    let size := 16 + 4 * s.tableDim tab
    let raw (k : Nat) : List Byte := s.shmRead mem (body d 8 8 + k * size) size
    let recs := (List.range n).map (fun k => s.readGrad (raw k))
    if recs.any (fun r => match r with | some x => decide (x.1 ≠ tab) | none => true) then s.completeTaken t 5
    else if lost then s.completeTaken t 10
    else
      let a := { t.admitted dlv tab 0 false with items := n, started := true }
      let s := (s.admitOp a).tallyP .CXP_RSVD_WRITES t.part ((List.range n).countP (fun k => decide (leNat (raw k) 8 8 ≠ 0)))
      let r := ((recs.filterMap id).zipIdx).foldl (fun (x : State × List GradRec × Nat) g =>
        let c := x.1.convertGrad tab g.1.2.2
        match c.2.1 with
        | some v => (c.1, x.2.1 ++ [{ id := t.id, pos := g.2, table := tab, row := g.1.2.1, part := t.part, due := t.id.step, g := v }], x.2.2 + c.2.2)
        | none => (c.1, x.2.1, x.2.2 + c.2.2)) (s, [], 0)
      let u : Update := { id := t.id, table := tab, rows := r.2.1.map (·.row), sat := r.2.2, fwd := 0 }
      (r.1.modEmb fun e => { e with updates := e.updates ++ [u] }).stageAll r.2.1))

/-! ### The optimisers (R286) -/

/-- The signed 64-bit clamp. -/
def sat64 (v : Int) : Int := max (-2 ^ 63) (min (2 ^ 63 - 1) v)

/-- The floor of the square root of a number below 2^64, bit by bit. -/
def isqrtBits (a : Nat) : Nat → Nat → Nat
  | 0, r => r
  | n + 1, r => isqrtBits a n (if (r + 2 ^ n) * (r + 2 ^ n) ≤ a then r + 2 ^ n else r)

/-- isqrt. -/
def isqrt (a : Nat) : Nat := isqrtBits a 33 0

/-- One element's update: new value, new state, whether G saturated and whether the row clamped. -/
def State.applyElem (s : State) (i : Nat) (e x g : Int) : Int × Int × Bool × Bool :=
  let gx := sat64 g
  let lr : Int := s.get (Reg.EMB_TABLE_LR i)
  let sh := s.get (Reg.EMB_TABLE_LR_SHIFT i)
  let r : Int × Int :=
    if s.get (Reg.EMB_TABLE_OPT i) = 1 then
      let m := sat64 (rneInt ((s.get (Reg.EMB_TABLE_MU i) : Int) * x) 16 + gx)
      (rneInt (m * lr) sh, m)
    else
      let a := min (x + rneInt (gx * gx) (s.get (Reg.EMB_TABLE_SQ_SHIFT i))) (2 ^ 64 - 1)
      (rneDiv (gx * lr) (2 ^ sh * (isqrt a.toNat + s.get (Reg.EMB_TABLE_EPS i))), a)
  let v := e - r.1
  (max (-2 ^ 31) (min (2 ^ 31 - 1) v), r.2, decide (g ≠ gx), decide (v < -2 ^ 31 ∨ 2 ^ 31 - 1 < v))

/-- The update of a row by the exact sum of its records: the new row, saturations and clamps. -/
def State.applyRow (s : State) (i : Nat) (r : Row) (gs : List (List Int)) : Row × Nat × Nat :=
  let n := s.get (Reg.EMB_TABLE_DIM i)
  let out := (List.range n).map (fun j => s.applyElem i ((rowElem r j)) (r.x.getD j 0) ((gs.map (fun g => g.getD j 0)).foldl (· + ·) 0))
  ({ e := out.map (·.1), x := out.map (fun o => o.2.1) }, out.countP (fun o => o.2.2.1), out.countP (fun o => o.2.2.2))

/-- The digest of a row and its state (R287). -/
def rowDigest (dim : Nat) (r : Row) : Digest :=
  Config.sm3 (((List.range dim).map (fun j => natLe 4 (untoInt 32 ((rowElem r j))))).flatten ++
    ((List.range dim).map (fun j => natLe 8 (untoInt 64 (r.x.getD j 0)))).flatten)

/-- The nodes whose digest of a row this node compares with its own (R287): the pair's other copy, or the lowest member that
holds a replica; that one compares with all. -/
def State.digestPeers (s : State) (i row t : Nat) : List Nat :=
  let up := (s.rowNodes i row t).filter s.isMember
  if s.sharded i then up.filter (fun n => decide (n ≠ s.me))
  else if up.min? = some s.me then up.filter (fun n => decide (n ≠ s.me)) else up.min?.toList

/-- A mismatch (R287): the row is recomputed in the fallback unit, which the state's row already is; counted and reported. -/
def State.digestMismatch (s : State) (t row : Nat) : State :=
  ((s.tallyP .EMB_APPLY_MISMATCH (s.tablePart t)).setB Reg.EMB_STATUS_APPLY_MISMATCH_EVT true).react 9 .nbu 0 2 0 row

/-- NBU_APPLY (R286, R287): a dispatched update has been made in the bank; its digest goes to the copies it is compared
with, and a digest that came early is compared at once. -/
def execNbuApply (table row step : Nat) (s : State) :=
  nodeEvt s (fun s =>
    let k := rowKey table row
    match s.emb.applies.find? (fun a => decide (a = (k, step))) with
    | none => s
    | some a =>
      let i := (s.tableIdx table).getD 0
      let d := rowDigest (s.get (Reg.EMB_TABLE_DIM i)) (s.rowAt k (step + 1))
      let peers := s.digestPeers i row step
      let got := s.emb.early.filter (fun x => decide (x.1 = k ∧ x.2.1 = step))
      let s := s.modEmb fun e => { e with
        applies := e.applies.erase a
        early := e.early.filter (fun x => decide (¬ (x.1 = k ∧ x.2.1 = step)))
        digests := e.digests ++ (peers.filter (fun n => !got.any (fun x => decide (x.2.2.1 = n)))).map (fun n => (k, step, n, d)) }
      let s := if got.any (fun x => decide (x.2.2.2 ≠ d)) then s.digestMismatch table row else s
      (s.sendEach (s.tablePart table) 4 0 56 (.rowDigest table row step d s.me) peers).dispatchEntries)

/-- ROW_DIGEST (R287). -/
def execRowDigest (table row step : Nat) (digest : Digest) (src : Nat) (s : State) :=
  nodeEvt s (fun s =>
    let k := rowKey table row
    match s.emb.digests.find? (fun d => decide (d.1 = k ∧ d.2.1 = step ∧ d.2.2.1 = src)) with
    | none => s.modEmb fun e => { e with early := e.early ++ [(k, step, src, digest)] }
    | some d =>
      let s := s.modEmb fun e => { e with digests := e.digests.erase d }
      (if d.2.2.2 = digest then s else s.digestMismatch table row).dispatchEntries)

/-! ### Loads (R290) -/

/-- A load that a placement names, begun here if the node does not know it: no message tells a row's holders of one
(assumption 33). -/
def State.withLoad (s : State) (f : LoadInfo) (g : TableLoad → TableLoad) : State :=
  if s.emb.loads.any (fun l => decide (l.info = f)) then
    s.modEmb fun e => { e with loads := lmod (fun l => decide (l.info = f)) g e.loads }
  else if f.id.admitter = s.me ∨ f.id.step + (s.inForce f.id.step).get Reg.EMB_CFG_LOAD_LAG ≤ s.get Reg.STEP_COMMITTED then s
  else s.modEmb fun e => { e with loads := e.loads ++ [g { info := f, rows := [], done := false, due := f.id.step + (s.inForce f.id.step).get Reg.EMB_CFG_LOAD_LAG }] }

/-- NBU_COPY (R161, R290): a row of a load is copied from the published range to its bank's staging rows. -/
def execNbuCopy (info : LoadInfo) (row : Nat) (e : List Int) (s : State) :=
  nodeEvt s (fun s =>
    if row < info.first ∨ info.first + info.count ≤ row then s
    else s.withLoad info (fun l => if l.done then l else { l with rows := tput l.rows row e }))

/-- TABLE_LOAD_FINISHED (R290). -/
def execTableLoadFinished (info : LoadInfo) (s : State) :=
  nodeEvt s (fun s => s.withLoad info (fun l => { l with done := true }))

/-- EMB_TABLE_LOAD (R290): it takes effect at the commit of s + LOAD_LAG. -/
def execEmbTableLoad (s : State) :=
  nodeEvt s (fun s => s.serve (isOp 0x22) (fun s t dlv =>
    let d := t.data
    let a := { t.admitted dlv (body d 0 2) 0 false with items := body d 8 8, started := true }
    let f : LoadInfo := { id := t.id, table := body d 0 2, part := t.part, first := body d 4 4, count := body d 8 8, clear := bit (body d 2 1) 0 }
    (s.admitOp a).modEmb fun e => { e with loads := e.loads ++ [{ info := f, rows := [], done := false, due := f.id.step + s.get Reg.EMB_CFG_LOAD_LAG }] }))

/-- A load still to finish holds STEP_DONE of the step before the one whose commit it takes effect at (R290). -/
def State.loadHolds (s : State) (t : Nat) : Bool :=
  s.emb.loads.any (fun l => !l.done && decide (l.due ≤ t + 1))

/-! ### Undo set (R289) -/

/-- The row keys whose records are due at the commit of t. -/
def State.dueRows (s : State) (t : Nat) : List Nat :=
  ((s.emb.grads.filter (fun r => decide (r.due ≤ t))).map (fun r => rowKey r.table r.row)).dedup

/-- Bytes of an undo copy of a row. -/
def State.undoBytes (s : State) (key : Nat) : Nat := 12 * s.tableDim (key / 2 ^ 32)

/-- The copies that the commit of t makes would not fit (R289). -/
def State.undoHolds (s : State) (t : Nat) : Bool :=
  let loads := ((s.emb.loads.filter (fun l => decide (l.due = t))).map (fun l =>
    l.rows.map (fun r => rowKey l.info.table r.1))).flatten
  decide (s.get Reg.EMB_CFG_UNDO_64MIB * 2 ^ 26 <
    ((s.emb.undo.map (fun u => s.undoBytes u.2.1)) ++ ((s.dueRows t ++ loads).map s.undoBytes)).sum)

/-- Copy a row into the undo set, tagged with a step. -/
def State.keepOld (s : State) (key t : Nat) : State :=
  if s.emb.undo.any (fun u => decide (u.1 = t ∧ u.2.1 = key)) then s
  else s.modEmb fun e => { e with undo := e.undo ++ [(t, key, s.rowNow key)] }

/-! ### Migration (R291, R292) -/

/-- LOAD_REPORT (R291). -/
def execLoadReport (step table load src : Nat) (s : State) :=
  nodeEvt s (fun s => s.modEmb fun e => { e with reports := e.reports ++ [(step, table, src, load)] })

/-- DIRECTORY (R292): the entry is staged and acknowledged. -/
def execDirectory (entry : Override) (src : Nat) (s : State) :=
  nodeEvt s (fun s =>
    let t := entry.step - 1
    (s.modEmb fun e => { e with dirStaged := e.dirStaged ++ [(t, entry)] }).sendAckTo { step := t, seq := 0, admitter := src } 0)

/-- ROW_MOVE (R292): a row arrives at its new holder; the look-ups that waited for it go on. -/
def execRowMove (table row step : Nat) (data : Row) (_src : Nat) (s : State) :=
  nodeEvt s (fun s =>
    let k := rowKey table row
    (s.modEmb fun e => { e with rows := tset zeroRow e.rows k data,
                                expected := e.expected.filter (fun x => decide (x ≠ (k, step))) }).dispatchEntries)

/-- Sharded tables that serve here and may migrate rows. -/
def State.migTables (s : State) : List Nat :=
  (List.range 1024).filter (fun i => decide (s.get (Reg.EMB_TABLE_PARTITION i) ≠ 0 ∧ s.get (Reg.EMB_TABLE_HOT_ROW i) ≠ 0) && s.sharded i &&
    (s.nodeSet i).contains s.me)

/-- A member's report for a step is missing (R291). -/
def State.reportHolds (s : State) (t : Nat) : Bool :=
  decide (2 < t) && s.migTables.any (fun i =>
    (s.nodeSet i).any (fun n => decide (n ≠ s.me) && s.isMember n &&
      s.emb.reports.any (fun r => decide (r.2.1 = s.get (Reg.EMB_TABLE_TABLE i))) &&
      !s.emb.reports.any (fun r => decide (r.1 = t - 2 ∧ r.2.1 = s.get (Reg.EMB_TABLE_TABLE i) ∧ r.2.2.1 = n))))

/-- Directory entries of a table. -/
def State.dirEntries (s : State) (table : Nat) : Nat := s.emb.dir.countP (fun o => decide (o.table = table))

/-- The load a node reported for a table at a step; an excluded or silent one counts as the highest. -/
def State.loadOf (s : State) (table step n : Nat) : Nat :=
  if s.isMember n then ((s.emb.reports.find? (fun r => decide (r.1 = step ∧ r.2.1 = table ∧ r.2.2.1 = n))).map (·.2.2.2)).getD (2 ^ 64)
  else 2 ^ 64

/-- Select rows to migrate at the commit of d (R291), and multicast their directory entries during step d + 1 (R292). -/
def State.selectRows (s : State) (d i : Nat) : State :=
  let table := s.get (Reg.EMB_TABLE_TABLE i)
  let hot := (s.inForce d).get (Reg.EMB_TABLE_HOT_ROW i)
  let rows := ((s.emb.served.filter (fun e => decide (e.1 / 2 ^ 32 = table))).take 65536).filter (fun e =>
    decide (hot < e.2 ∧ (s.rowHolders i (e.1 % 2 ^ 32) (d + 1)).1 = s.me))
  let best := (sortBy (fun a b => decide (b.2 < a.2 ∨ (a.2 = b.2 ∧ a.1 ≤ b.1))) rows).take ((s.inForce d).get Reg.EMB_CFG_MIG_MAX)
  let set := s.nodeSet i
  best.foldl (fun s e =>
    let row := e.1 % 2 ^ 32
    let cands := (set.filter (fun n => decide (n ≠ s.me)))
    match (sortBy (fun a b => decide (s.loadOf table (d - 2) a < s.loadOf table (d - 2) b ∨
        (s.loadOf table (d - 2) a = s.loadOf table (d - 2) b ∧ a ≤ b))) cands).head? with
    | none => s
    | some n =>
      let p := s.get (Reg.EMB_TABLE_PARTITION i)
      if s.get Reg.EMB_CAPS_MAX_OVR ≤ s.dirEntries table + (s.emb.dirStaged.countP (fun x => decide (x.2.table = table))) then
        (s.tallyP .EMB_MIG_SUPPRESSED p).setB Reg.EMB_STATUS_MIG_SUPPRESS_EVT true
      else
        let pos := (set.findIdx (fun x => decide (x = n)) + 1) % set.length
        let o : Override := { table := table, row := row, owner := n, mirror := set.getD pos n, step := d + 2 }
        let others := set.filter (fun x => decide (x ≠ s.me) && s.isMember x)
        let s := s.modEmb fun e => { e with dirStaged := e.dirStaged ++ [(d + 1, o)], dirAcks := e.dirAcks ++ others.map (fun x => (x, d + 1)) }
        s.sendEach p 4 0 16 (.directory o s.me) others) s

/-- The staging credit of a record that the admitting node sent here goes back to it (R137, R284). -/
def State.freeGrad (s : State) (r : GradRec) : State :=
  if r.id.admitter ≠ s.me ∧ (s.sentTo ((s.tableIdx r.table).getD 0) r.row r.id.step r.id.admitter).contains s.me = true then
    s.returnCredit r.id.admitter 1
  else s

/-- A staged directory entry commits at the commit of t (R292): the old owner sends the row to its new holders, which expect
it; a row back at its hash owner loses its entry. -/
def State.commitDir (s : State) (t : Nat) (o : Override) : State :=
  let i := (s.tableIdx o.table).getD 0
  let k := rowKey o.table o.row
  let was := s.rowHolders i o.row t
  let home := (s.nodeSet i).getD (s.rowShard i o.row) 0xFFF
  let new := [o.owner, o.mirror].dedup
  let s := s.modEmb fun e => { e with
    dir := (e.dir.filter (fun x => decide (¬ (x.table = o.table ∧ x.row = o.row)))) ++ (if o.owner = home then [] else [o]) }
  let p := s.get (Reg.EMB_TABLE_PARTITION i)
  let s := (s.tallyP .EMB_MIGRATIONS p).setB Reg.EMB_STATUS_MIG_EVT true
  let sender := if s.isMember was.1 then was.1 else was.2
  let s := if sender = s.me then
      let s := s.sendEach p 4 0 (24 + 12 * s.tableDim o.table) (.rowMove o.table o.row t (s.rowNow k) s.me)
        (new.filter (fun n => decide (n ≠ s.me ∧ n ≠ was.1 ∧ n ≠ was.2)))
      let late := s.emb.grads.filter (fun r => decide (rowKey r.table r.row = k ∧ t < r.due))
      late.foldl (fun s r => ((new.filter (fun n => decide (n ≠ s.me ∧ n ≠ was.2))).foldl (fun s n =>
        s.sendMsg r.part 3 0 n (40 + 8 * r.g.length) (.gradStage r s.me)) s).tallyP .EMB_FORWARDED r.part) s
    else s
  let s := if new.contains s.me && decide (s.me ≠ was.1 ∧ s.me ≠ was.2) then
      s.modEmb fun e => { e with expected := e.expected ++ [(k, t)], old := e.old.filter (fun x => decide (x.1 ≠ k)) } else s
  if new.contains s.me ∨ (s.me ≠ was.1 ∧ s.me ≠ was.2) then s
  else
    let gone := s.emb.grads.filter (fun r => decide (rowKey r.table r.row = k))
    gone.foldl State.freeGrad
      (s.modEmb fun e => { e with old := e.old ++ [(k, t)], grads := e.grads.filter (fun r => decide (rowKey r.table r.row ≠ k)) })

/-- Migration at the commit of t (R291, R292): entries staged for t commit, loads are reported, rows are selected. -/
def State.migrate (s : State) (t : Nat) : State :=
  let due := s.emb.dirStaged.filter (fun x => decide (x.1 ≤ t))
  let s := s.modEmb fun e => { e with dirStaged := e.dirStaged.filter (fun x => decide (t < x.1)) }
  let s := due.foldl (fun s x => s.commitDir t x.2) s
  let tabs := (List.range 1024).filter (fun i => decide (s.get (Reg.EMB_TABLE_PARTITION i) ≠ 0) && (s.nodeSet i).contains s.me)
  let s := tabs.foldl (fun (s : State) i =>
    let table := s.get (Reg.EMB_TABLE_TABLE i)
    let load := ((s.emb.served.filter (fun e => decide (e.1 / 2 ^ 32 = table))).map (·.2)).sum
    let s := (s.set (Reg.EMB_RUN_LOAD_LAST i) load).set (Reg.EMB_RUN_MIG_LAST i) (due.countP (fun x => decide (x.2.table = table)))
    let s := s.set (Reg.EMB_RUN_OVR_ENTRIES i) (s.dirEntries table)
    if s.sharded i ∧ (s.inForce t).get (Reg.EMB_TABLE_HOT_ROW i) ≠ 0 then
      let s := s.modEmb fun e => { e with reports := e.reports ++ [(t, table, s.me, load)] }
      let s := s.sendEach 0 4 0 24 (.loadReport t table load s.me) ((s.nodeSet i).filter (fun n => decide (n ≠ s.me) && s.isMember n))
      s.selectRows t i
    else s) s
  s.modEmb fun e => { e with served := [], reports := e.reports.filter (fun r => decide (t < r.1 + 3)) }

/-! ### The commit of a step -/

/-- A load covers a row's records at the commit of t (R290): they are dropped. -/
def State.loadCovers (s : State) (r : GradRec) (t : Nat) : Bool :=
  s.emb.loads.any (fun l => decide (l.info.table = r.table ∧ l.info.first ≤ r.row ∧ r.row < l.info.first + l.info.count ∧
    l.info.id.step ≤ t ∧ t ≤ l.due))

/-- Apply the records of one row that are due at the commit of t (R284, R286, R289). -/
def State.applyDue (s : State) (t key : Nat) (rs : List GradRec) : State :=
  let table := key / 2 ^ 32
  match s.tableIdx table with
  | none => s
  | some i =>
    let p := s.get (Reg.EMB_TABLE_PARTITION i)
    let s := s.keepOld key t
    let r := (s.inForce t).applyRow i (s.rowNow key) (rs.map (·.g))
    let s := (((s.tallyP .EMB_GRAD_RECORDS p rs.length).tallyP .EMB_GRAD_SAT p r.2.1).tallyP .EMB_ROW_CLAMP p r.2.2).when
      (decide (0 < r.2.1)) (fun s => s.setB Reg.EMB_STATUS_GRAD_SAT_EVT true)
    s.modEmb fun e => { e with
      rows := tset zeroRow e.rows key r.1
      applies := e.applies ++ [(key, t)]
      served := if s.serverOf (s.get Reg.STEP_MEMBERS) i (key % 2 ^ 32) t = some s.me then
        tset 0 e.served key (tget 0 e.served key + rs.length) else e.served }

/-- Loads that take effect at the commit of t (R290): the rows they placed replace those held here. -/
def State.applyLoads (s : State) (t : Nat) : State :=
  let due := s.emb.loads.filter (fun l => decide (l.due ≤ t))
  due.foldl (fun (s : State) (l : TableLoad) =>
    let s : State := l.rows.foldl (fun (s : State) r =>
      let k := rowKey l.info.table r.1
      let s := s.keepOld k t
      s.modEmb fun e => { e with rows := tset zeroRow e.rows k { e := r.2, x := if l.info.clear then [] else (s.rowNow k).x } }) s
    let s := s.modEmb fun e => { e with loads := e.loads.filter (fun x => decide (x.info ≠ l.info)) }
    if l.info.id.admitter = s.me then s.endEmb l.info.id 0 l.info.count 0 0 else s) s

/-- The table chain at the commit of t (R425): the digests of the rows updated or loaded, in ascending order. -/
def State.chainTables (s : State) (t : Nat) (keys : List Nat) : State :=
  let tabs := (keys.map (· / 2 ^ 32)).dedup
  tabs.foldl (fun s tab =>
    let rows := sortBy (fun a b => decide (a ≤ b)) (keys.filter (fun k => decide (k / 2 ^ 32 = tab)))
    let ds := (rows.map (fun k => digestBytes (rowDigest (s.tableDim tab) (s.rowNow k)))).flatten
    s.modEmb fun e => { e with chainStep := tput e.chainStep tab t, chain := tput e.chain tab (Config.sm3 (digestBytes (tget 0 e.chain tab) ++ natLe 8 t ++ ds)) }) s

/-- EMB_UPDATEs of steps up to t complete (R285, R288). -/
def State.endUpdates (s : State) (t : Nat) : State :=
  let due := s.emb.updates.filter (fun u => decide (u.id.step ≤ t))
  due.foldl (fun (s : State) u =>
    let i := (s.tableIdx u.table).getD 0
    let up (r : Nat) : Nat := ((s.rowNodes i r u.id.step).filter s.isMember).length
    let lost := u.rows.countP (fun r => decide (up r = 0))
    let short := u.rows.any (fun r => decide (up r < (if s.sharded i then (s.rowNodes i r u.id.step).length else 1)))
    let s := s.modEmb fun e => { e with updates := e.updates.filter (fun x => decide (x.id ≠ u.id)) }
    s.endEmb u.id (if short then 8 else 0) (u.rows.length - lost) u.sat u.fwd) s

/-- What the commit of step t does in the embedding service. -/
def State.embCommit (s : State) (t : Nat) : State :=
  let due := s.emb.grads.filter (fun r => decide (r.due ≤ t))
  let drop := due.filter (fun r => s.loadCovers r t)
  let s := drop.foldl (fun s r => s.tallyP .EMB_GRAD_DISCARDED r.part) s
  let s := due.foldl State.freeGrad s
  let use := due.filter (fun r => !drop.contains r)
  let keys := (use.map (fun r => rowKey r.table r.row)).dedup
  let s := s.modEmb fun e => { e with grads := e.grads.filter (fun r => decide (t < r.due)) }
  let s := keys.foldl (fun s k => s.applyDue t k (use.filter (fun r => decide (rowKey r.table r.row = k)))) s
  let loaded := ((s.emb.loads.filter (fun l => decide (l.due ≤ t))).map (fun l =>
    l.rows.map (fun r => rowKey l.info.table r.1))).flatten
  let s := (s.applyLoads t).chainTables t (keys ++ loaded).dedup
  let s := ((s.migrate t).endUpdates t).showUndo
  let start := s.srch.adm.filter (fun a => decide ((a.opcode = 0x20 ∨ a.opcode = 0x23) ∧ a.id.step ≤ t + 1) && !a.started)
  (start.foldl State.startLookup s).dispatchEntries.settled

/-- After an exclusion takes effect at the commit of t, look-ups that awaited the excluded node ask the rows' other holders;
past the horizon they complete with HORIZON (R42, R276). `before` is the membership until then. -/
def State.embExcluded (s : State) (n t before : Nat) : State :=
  let s := (s.emb.relays.filter (fun r => r.2.2.contains n)).foldl (fun (s : State) r => s.relayAck r.1 n) s
  let hit := s.emb.lookups.filter (fun l => l.await.contains n)
  hit.foldl (fun (s : State) (l : Lookup) =>
    let i := (s.tableIdx l.table).getD 0
    let l := { l with await := l.await.erase n }
    let put (l : Lookup) (s : State) : State :=
      s.modEmb fun e => { e with lookups := lmod (fun x => decide (x.id = l.id)) (fun _ => l) e.lookups }
    if l.id.step + 16 ≤ t then s.finishLookup { l with bad := worse l.bad 7, await := [] }
    else
      let old (r : Nat) : Option Nat := s.serverOf before i r l.id.step
      let new (r : Nat) : Option Nat := s.serverOf (s.get Reg.STEP_MEMBERS) i r l.id.step
      let l := { l with bags := l.bags.map (fun (b : Bag) => { b with dead := b.dead || b.entries.any (fun e => decide (old e.1 = some n ∧ new e.1 = none)) }) }
      let terms := (((l.bags.zipIdx).filter (fun b => !b.1.dead)).map (fun b => (b.1.entries.filter (fun e => decide (old e.1 = some n))).map
        (fun e => (b.2, e.1, e.2)))).flatten
      let nodes := (terms.filterMap (fun x => new x.2.1)).dedup
      let l := { l with await := l.await ++ nodes }
      let mine (m : Nat) : List (Nat × Nat × Int) := terms.filter (fun x => decide (new x.2.1 = some m))
      let s := put l s
      let s := (nodes.filter (fun m => decide (m ≠ s.me))).foldl (fun s m =>
        s.sendMsg 0 4 0 m (16 + 10 * (mine m).length) (.entries l.id l.table (mine m) true s.me)) s
      let s := if nodes.contains s.me then s.takeEntries l.id l.table (mine s.me) true s.me else s
      if l.await.isEmpty then s.finishLookup l else s) s

end Sys2Proof.Machine
end

