-- ==== Sys2Proof/Machine/Float.lean ====
section
/-! DEFINITION. Floating-point arithmetic of the encoder engine (R227, R241, R242): the exact real result of finite
operands, rounded once to nearest with ties to even. What the manual does not say of infinities and of the sign of a zero
follows IEEE 754 (assumption 36, PRESUMED). -/

namespace Sys2Proof

/-- The value of a floating-point pattern: a NaN, an infinity, or a magnitude in units of 2^-149 with its sign. -/
inductive FV where
  | nan
  | inf (neg : Bool)
  | fin (neg : Bool) (n : Nat)
  deriving DecidableEq, Repr

/-- Eight-bit formats of OCP: E4M3 and E5M2 (R227). -/
def e4m3 : FpFmt := { p := 4, w := 4, bias := 7 }
/-- E5M2. -/
def e5m2 : FpFmt := { p := 3, w := 5, bias := 15 }

/-- The magnitude of a finite pattern in units of 2^-149. -/
def FpFmt.mag (f : FpFmt) (v : Nat) : Nat :=
  let m := v % 2 ^ (f.p - 1)
  let e := v / 2 ^ (f.p - 1) % 2 ^ f.w
  (if e = 0 then m else (m + 2 ^ (f.p - 1)) * 2 ^ (e - 1)) * 2 ^ (149 - f.unit)

/-- The sign bit of a pattern. -/
def FpFmt.sign (f : FpFmt) (v : Nat) : Bool := v.testBit (f.p - 1 + f.w)

/-- Read a pattern of a format with infinities. -/
def FpFmt.value (f : FpFmt) (v : Nat) : FV :=
  if v / 2 ^ (f.p - 1) % 2 ^ f.w = 2 ^ f.w - 1 then
    (if v % 2 ^ (f.p - 1) = 0 then .inf (f.sign v) else .nan)
  else .fin (f.sign v) (f.mag v)

/-- Read an E4M3 pattern: no infinities, and a NaN where every bit below the sign is 1. -/
def e4m3Value (v : Nat) : FV := if v % 128 = 127 then .nan else .fin (e4m3.sign v) (e4m3.mag v)

/-- Division of naturals, rounded to nearest, ties to even. -/
def rneQuot (a b : Nat) : Nat :=
  let q := a / b
  let r := a % b
  if 2 * r < b then q else if b < 2 * r then q + 1 else if q % 2 = 0 then q else q + 1

/-- The pattern nearest to num / den for a positive den, without a limit on the exponent. -/
def FpFmt.nearest (f : FpFmt) (num den : Nat) : Nat :=
  if num = 0 then 0
  else
    let t : Int := (num.log2 : Int) - den.log2
    -- the exponent of the leading bit of num / den is t or t - 1
    let below := if 0 ≤ t then decide (num < den * 2 ^ t.toNat) else decide (num * 2 ^ (-t).toNat < den)
    let top : Int := if below then t - 1 else t
    let q : Int := max (top - (f.p - 1)) (-(f.unit : Int))
    let m := if 0 ≤ q then rneQuot num (den * 2 ^ q.toNat) else rneQuot (num * 2 ^ (-q).toNat) den
    if m < 2 ^ (f.p - 1) then m else (q + f.unit).toNat * 2 ^ (f.p - 1) + m

/-- The pattern of a sign and a magnitude num / den; overflow gives the infinity of the sign (R241). -/
def FpFmt.pack (f : FpFmt) (neg : Bool) (num den : Nat) : Nat :=
  min (f.nearest num den) (f.inf false) + (if neg then 2 ^ (f.p - 1 + f.w) else 0)

/-- The canonical NaN of FP32 and BF16, and the quiet NaN of FP16 (R241). -/
def FpFmt.qnan (f : FpFmt) : Nat := f.inf false + 2 ^ (f.p - 2)

/-- A value rounded to a format with infinities. -/
def FpFmt.write (f : FpFmt) : FV → Nat
  | .nan => f.qnan
  | .inf neg => f.inf neg
  | .fin neg n => f.pack neg n (2 ^ 149)

/-- A value converted to an 8-bit format: it saturates to the largest finite value (R241). -/
def write8 (f : FpFmt) (top nan : Nat) : FV → Nat
  | .nan => nan
  | .inf neg => top + (if neg then 128 else 0)
  | .fin neg n => min (f.nearest n (2 ^ 149)) top + (if neg then 128 else 0)

/-- Negate a value. -/
def FV.neg : FV → FV
  | .nan => .nan
  | .inf b => .inf (!b)
  | .fin b n => .fin (!b) n

/-- A signed sum of finite magnitudes: the sign and the magnitude; an exact zero is +0 unless both are negative. -/
def signedSum (b : Bool) (n : Nat) (c : Bool) (m : Nat) : Bool × Nat :=
  if b = c then (b, n + m) else if m < n then (b, n - m) else if n < m then (c, m - n) else (false, 0)

/-- The sum of two values rounded to a format. -/
def FpFmt.add (f : FpFmt) : FV → FV → Nat
  | .nan, _ => f.qnan
  | _, .nan => f.qnan
  | .inf a, .inf b => if a = b then f.inf a else f.qnan
  | .inf a, _ => f.inf a
  | _, .inf b => f.inf b
  | .fin a n, .fin b m => let r := signedSum a n b m; f.pack r.1 r.2 (2 ^ 149)

/-- The exact product plus a value, rounded once to a format. -/
def FpFmt.fma (f : FpFmt) (x y z : FV) : Nat :=
  match x, y with
  | .nan, _ => f.qnan
  | _, .nan => f.qnan
  | .inf a, .inf b => f.add (.inf (a != b)) z
  | .inf a, .fin b m => if m = 0 then f.qnan else f.add (.inf (a != b)) z
  | .fin a n, .inf b => if n = 0 then f.qnan else f.add (.inf (a != b)) z
  | .fin a n, .fin b m =>
    match z with
    | .nan => f.qnan
    | .inf c => f.inf c
    | .fin c k => let r := signedSum (a != b) (n * m) c (k * 2 ^ 149); f.pack r.1 r.2 (2 ^ 298)

/-- The product of two values rounded to a format: with a zero of the product's sign for a zero. -/
def FpFmt.mul (f : FpFmt) (x y : FV) : Nat :=
  match x, y with
  | .fin a n, .fin b m => f.pack (a != b) (n * m) (2 ^ 298)
  | _, _ => f.fma x y (.fin false 0)

/-- The quotient of two values rounded to a format. -/
def FpFmt.div (f : FpFmt) : FV → FV → Nat
  | .nan, _ => f.qnan
  | _, .nan => f.qnan
  | .inf _, .inf _ => f.qnan
  | .inf a, .fin b _ => f.inf (a != b)
  | .fin a _, .inf b => f.pack (a != b) 0 1
  | .fin a n, .fin b m => if m = 0 then (if n = 0 then f.qnan else f.inf (a != b)) else f.pack (a != b) n m

/-- The integer square root of a natural number below 4^(bits). -/
def natSqrt (a : Nat) : Nat → Nat → Nat
  | 0, r => r
  | k + 1, r => natSqrt a k (if (r + 2 ^ k) * (r + 2 ^ k) ≤ a then r + 2 ^ k else r)

/-- 1/√x, rounded once (R241). -/
def rsqrt32 : FV → Nat
  | .nan => fp32.qnan
  | .inf true => fp32.qnan
  | .inf false => 0
  | .fin b n =>
    if n = 0 then fp32.inf b
    else if b then fp32.qnan
    else
      let v := 2 ^ 749 / n
      let r := natSqrt v 380 0
      let exact := decide (r * r * n = 2 ^ 749)
      fp32.pack false (2 * r + (if exact then 0 else 1)) (2 ^ 301)

/-- Terms of the exponential series of y = a / 2^256 in units of 2^-256, from term k on. -/
def expSeries (a : Nat) : Nat → Nat → Nat → Nat → Nat
  | 0, _, _, sum => sum
  | fuel + 1, k, term, sum =>
    let t := term * a / 2 ^ 256 / k
    expSeries a fuel (k + 1) t (sum + t)

/-- A natural number squared k times in units of 2^-256. -/
def squareTimes : Nat → Nat → Nat
  | 0, x => x
  | k + 1, x => squareTimes k (x * x / 2 ^ 256)

/-- e^x for a magnitude n of 2^-149 below 128, in units of 2^-256: the series at x / 256, squared eight times. Its error
is below 2^-230 of its value, and e^x of no binary32 number but 0 lies so near to a rounding boundary. -/
def expMag (n : Nat) : Nat := squareTimes 8 (expSeries (n * 2 ^ 99) 64 1 (2 ^ 256) (2 ^ 256))

/-- e^x, rounded once to FP32 (R241). -/
def exp32 : FV → Nat
  | .nan => fp32.qnan
  | .inf true => 0
  | .inf false => fp32.inf false
  | .fin b n =>
    if n = 0 then 0x3F800000
    else if 128 * 2 ^ 149 ≤ n then (if b then 0 else fp32.inf false)
    else if b then fp32.pack false (2 ^ 256) (expMag n)
    else fp32.pack false (expMag n) (2 ^ 256)

/-- A value rounded to a signed integer of w bits: ties to even, saturating, a NaN giving 0 (R241). -/
def fvToInt (w : Nat) : FV → Int
  | .nan => 0
  | .inf true => -2 ^ (w - 1)
  | .inf false => 2 ^ (w - 1) - 1
  | .fin b n =>
    let m : Int := ((rneShift n 149 : Nat) : Int)
    max (-2 ^ (w - 1)) (min (2 ^ (w - 1) - 1) (if b then -m else m))

/-- An integer as an exact value. -/
def fvOfInt (i : Int) : FV := .fin (decide (i < 0)) (i.natAbs * 2 ^ 149)

/-- The rank of a value among the non-NaN values, +0 above −0 (R242). -/
def FV.key : FV → Int
  | .nan => 0
  | .inf true => -2 ^ 300
  | .inf false => 2 ^ 300
  | .fin true n => -2 * (n : Int) - 1
  | .fin false n => 2 * (n : Int)

/-- The larger of two values, or the smaller; NaNs are ignored (R242). -/
def FV.pick (larger : Bool) (a b : FV) : FV :=
  match a, b with
  | .nan, _ => b
  | _, .nan => a
  | _, _ => if larger then (if a.key < b.key then b else a) else (if b.key < a.key then b else a)

/-- Comparison (R244): 0 equal, 1 less, 2 less or equal, with −0 equal to +0; a NaN compares false. -/
def FV.cmp (c : Nat) (a b : FV) : Bool :=
  let z (v : FV) : Int := match v with | .fin true n => -2 * (n : Int) | w => w.key
  match a, b with
  | .nan, _ => false
  | _, .nan => false
  | _, _ => if c = 0 then decide (z a = z b) else if c = 1 then decide (z a < z b) else decide (z a ≤ z b)

end Sys2Proof
end

