-- ==== Sys2Proof/Machine/Slots.lean ====
section
/-! DEFINITION. The Nyiskah bundle (R236, R237): its slots, the fields each operation defines, what makes a bundle
ill-formed, and a core's registers, lanes and scratch (R239, R242, R249). -/

namespace Sys2Proof.Machine

open Sys2Proof

/-! ### Bundles -/

/-- Slot k of a bundle, in the order S0, S1, V, M, L0, L1, C (R236). -/
def slotBits (b k : Nat) : Nat :=
  match k with
  | 0 => bits b 64 128
  | 1 => bits b 192 128
  | 2 => bits b 320 128
  | 3 => bits b 448 128
  | 4 => bits b 576 160
  | 5 => bits b 736 160
  | _ => bits b 896 128

/-- The kind of slot k: 0 scalar, 1 vector, 2 matrix, 3 stream, 4 control. -/
def slotKind (k : Nat) : Nat := ([0, 0, 1, 2, 3, 3, 4] : List Nat).getD k 4

/-- The VALID bit of slot k. -/
def slotValid (b k : Nat) : Bool := bit b k

/-- The operation of a slot. -/
def opOf (x : Nat) : Nat := bits x 0 8

/-- Fields of a scalar slot as (bit, width): RD, RA, RB, IMM (R243). -/
def fRD : Nat × Nat := (8, 6)
def fRA : Nat × Nat := (14, 6)
def fRB : Nat × Nat := (20, 6)
def fIMM : Nat × Nat := (32, 64)
/-- The low eight bits of IMM. -/
def fIMM8 : Nat × Nat := (32, 8)

/-- Fields of a vector slot: TYPE, VD, VA, VB, VC, SS, and parts of IMM (R244). -/
def fTYPE : Nat × Nat := (8, 4)
def fVD : Nat × Nat := (12, 5)
def fVA : Nat × Nat := (17, 5)
def fVB : Nat × Nat := (22, 5)
def fVC : Nat × Nat := (27, 5)
def fSS : Nat × Nat := (32, 6)
def fV2 : Nat × Nat := (40, 2)
def fV6 : Nat × Nat := (40, 6)
def fV89 : Nat × Nat := (48, 2)

/-- The fields a scalar operation defines; none for a reserved one (R243). -/
def scalarFields (op : Nat) : Option (List (Nat × Nat)) :=
  if op = 0 then some []
  else if op = 1 then some [fRD, fIMM]
  else if op = 3 then some [fRD, fRA, fIMM]
  else if op = 0x10 then some [fRD, fIMM8]
  else if op = 0x14 ∨ op = 0x15 then some [fRD, fRA]
  else if op = 0x17 then some [fRA, fIMM8]
  else if op ≤ 0x16 then some [fRD, fRA, fRB]
  else none

/-- The fields a vector operation defines; none for a reserved one (R244). -/
def vectorFields (op : Nat) : Option (List (Nat × Nat)) :=
  if op = 0 then some []
  else if op ≤ 3 ∨ op = 5 ∨ op = 6 then some [fTYPE, fVD, fVA, fVB]
  else if op = 4 ∨ op = 0x0C then some [fTYPE, fVD, fVA, fVB, fVC]
  else if op ≤ 9 then some [fTYPE, fVD, fVA]
  else if op = 0x0A then some [fTYPE, fVD, fSS]
  else if op = 0x0B then some [fTYPE, fVD, fVA, fVB, fV2]
  else if op = 0x0D then some [fTYPE, fVD, fVA, fV6]
  else if op ≤ 0x10 then some [fTYPE, fSS, fVA]
  else if op = 0x11 then some [fTYPE, fVD, fV6, fV89]
  else if op = 0x12 then some [fTYPE, fVA, fV6, fV89]
  else if op = 0x13 then some [fTYPE, fSS, fVA]
  else if op = 0x14 then some [fTYPE, fVD, fVA, fSS, fV2]
  else if op = 0x15 then some [fTYPE, fVD, fVA, fVB, fVC, fSS]
  else none

/-- The fields a matrix operation defines (R245): TYPE, TILE, ZERO, SA, SB, H, KB, ROWS. -/
def matrixFields (op : Nat) : Option (List (Nat × Nat)) :=
  if op = 0 then some []
  else if op = 1 then some [(8, 4), (12, 2), (14, 1), (16, 6), (22, 6), (28, 2), (32, 7), (39, 6)]
  else if op = 2 then some [(8, 4), (12, 2)]
  else if op = 3 then some [(12, 2), (16, 6), (22, 6), (39, 6)]
  else none

/-- Fields of a stream slot: H, SA, SB, REG, OFF, LEN, and parts of ARG (R247). -/
def fH : Nat × Nat := (8, 2)
def fSA : Nat × Nat := (12, 6)
def fSB : Nat × Nat := (18, 6)
def fREG : Nat × Nat := (24, 6)
def fOFF : Nat × Nat := (32, 32)
def fLEN : Nat × Nat := (64, 32)

/-- The fields a stream operation defines (R247). -/
def streamFields (op : Nat) : Option (List (Nat × Nat)) :=
  if op = 0 then some []
  else if op = 1 ∨ op = 2 then some [fSA, fOFF, (24, 5)]
  else if op = 3 ∨ op = 4 then some [fSA, fOFF, fREG]
  else if op = 5 ∨ op = 6 then some [fSA, fSB, fOFF, fLEN]
  else if op = 7 then some [fSA, fOFF, fLEN, (96, 6)]
  else if op = 8 then some [fH, fSA, fSB, fOFF, fLEN, (96, 8)]
  else if op = 9 then some [fH]
  else if op = 0x0A then some [fSA, fSB, fOFF, fLEN, (96, 3)]
  else if op ≤ 0x0E then some [fSA, fOFF, fLEN]
  else none

/-- The fields a control operation defines (R252). -/
def controlFields (op : Nat) : Option (List (Nat × Nat)) :=
  if op = 0 ∨ op = 4 ∨ op = 5 then some []
  else if op = 1 then some [(8, 6), (14, 6), (20, 4), (32, 32)]
  else if op = 2 then some [(32, 32)]
  else if op = 3 then some [(8, 6), (32, 32)]
  else if op = 6 then some [(8, 6), (14, 6)]
  else if op = 7 then some [(64, 16)]
  else none

/-- The fields an operation of a slot kind defines. -/
def opFields (kind op : Nat) : Option (List (Nat × Nat)) :=
  match kind with
  | 0 => scalarFields op
  | 1 => vectorFields op
  | 2 => matrixFields op
  | 3 => streamFields op
  | _ => controlFields op

/-- The width of a lane of a layout: FP32, BF16, int32, int16, int8; 5 and 6 are the 8-bit formats. -/
def laneW (ty : Nat) : Nat := ([32, 16, 32, 16, 8, 8, 8] : List Nat).getD ty 32

/-- The number of lanes of a layout. -/
def laneN (ty : Nat) : Nat := 4096 / laneW ty

/-- Operand values that an operation does not accept (R237, R240, R244, R245, R252): lane layouts, formats, sources and
conditions without a meaning. -/
def badOperand (kind op x : Nat) : Bool :=
  let ty := bits x 8 4
  match kind with
  | 0 => decide (op = 0x10 ∧ 6 < bits x 32 8)
  | 1 =>
    let i := bits x 40 6
    decide (op ≠ 0) && (decide (4 < ty) || (decide (7 ≤ op ∧ op ≤ 9) && decide (ty ≠ 0)) || (decide (op = 0x0B) && decide (bits x 40 2 = 3)) ||
      (decide (op = 0x0D) && (decide (6 < i % 16) || decide (max (laneN ty / laneN (i % 16)) (laneN (i % 16) / laneN ty) ≤ i / 16))) || (decide (op = 0x11 ∨ op = 0x12) && decide (ty ≠ 0 ∧ ty ≠ 2)) ||
      (decide (op = 0x13 ∨ op = 0x14) && decide (ty ≠ 0)) || (decide (op = 0x15) && decide (ty ≠ 2)))
  | 2 => decide (op = 1 ∧ 3 < ty)
  | 4 => decide (op = 1 ∧ 5 < bits x 20 4)
  | _ => false

/-- A slot holds nothing outside the fields its operation defines. -/
def cleanSlot (x : Nat) (fields : List (Nat × Nat)) : Bool :=
  let mask := ((fields.map (fun f => (2 ^ f.2 - 1) * 2 ^ f.1)).sum) + 255
  decide (x &&& mask = x)

/-- Slot k of a bundle is well formed (R237). -/
def slotOk (b k : Nat) : Bool :=
  let x := slotBits b k
  if !slotValid b k then decide (x = 0)
  else match opFields (slotKind k) (opOf x) with
    | none => false
    | some fs => cleanSlot x fs && !badOperand (slotKind k) (opOf x) x

/-- A bundle is well formed (R236, R237). -/
def bundleOk (b : Nat) : Bool :=
  decide (bits b 16 4 = 1 ∧ bits b 7 9 = 0 ∧ bits b 20 44 = 0) && (List.range 7).all (slotOk b)

/-- The next valid slot of a bundle from slot k on. -/
def nextSlot (b k : Nat) : Option Nat := (List.range 7).find? (fun i => decide (k ≤ i) && slotValid b i)

/-! ### A core -/

/-- The number of bytes of scratch (R239). -/
def scratchBytes : Nat := 2 ^ 21

/-- A core that runs nothing: registers, tiles and scratch read 0, handles closed (R239). -/
def NCore.idle : NCore :=
  { s := [], v := [], t := [], h := [], mem := [], pc := 0, slot := 0, pend := [], exc := none, loops := [], windows := [],
    xfers := [], atBar := false, halted := true }

/-- A scalar register; s0 reads 0 (R239). -/
def NCore.sreg (n : NCore) (r : Nat) : Nat := if r = 0 then 0 else tget 0 n.s r

/-- A vector register. -/
def NCore.vreg (n : NCore) (r : Nat) : Nat := tget 0 n.v r

/-- A cleared tile. -/
def Tile.zero (fp : Bool) : Tile := { fp := fp, el := [] }

/-- A tile. -/
def NCore.tile (n : NCore) (t : Nat) : Tile := tget (Tile.zero false) n.t t

/-- Bytes of scratch. -/
def NCore.load (n : NCore) (a len : Nat) : List Byte := (List.range len).map (fun i => BitVec.ofNat 8 (tget 0 n.mem (a + i)))

/-- Scratch with bytes written. -/
def storeBytes (mem : Tab Nat) (a : Nat) (d : List Byte) : Tab Nat :=
  (d.zipIdx).foldl (fun m x => tset 0 m (a + x.2) x.1.toNat) mem

/-- Two ranges of bytes overlap. -/
def overlap (a n b m : Nat) : Bool := decide (a < b + m ∧ b < a + n)

/-! ### Lanes (R244) -/

/-- Lane i of a register under a layout. -/
def lane (ty v i : Nat) : Nat := bits v (laneW ty * i) (laneW ty)

/-- A register made of lanes. -/
def ofLanes (ty : Nat) (ls : List Nat) : Nat :=
  ls.foldr (fun l acc => acc * 2 ^ laneW ty + l % 2 ^ laneW ty) 0

/-- The lanes of a register. -/
def lanes (ty v : Nat) : List Nat := (List.range (laneN ty)).map (lane ty v)

/-- A layout holds floating-point lanes. -/
def isFp (ty : Nat) : Bool := decide (ty < 2)

/-- The format of floating-point lanes: FP32 or BF16. -/
def laneFmt (ty : Nat) : FpFmt := if ty = 0 then fp32 else bf16

/-- A lane as a floating-point value. -/
def laneFv (ty l : Nat) : FV := (laneFmt ty).value l

/-- A lane as a signed integer. -/
def laneInt (ty l : Nat) : Int := sext (laneW ty) l

/-- The larger or the smaller of two lanes, as R242 ranks. -/
def pickLane (larger : Bool) (ty a b : Nat) : Nat :=
  if isFp ty then
    match laneFv ty a, laneFv ty b with
    | .nan, .nan => (laneFmt ty).qnan
    | x, y => (laneFmt ty).write (FV.pick larger x y)
  else if larger then (if laneInt ty a < laneInt ty b then b else a)
  else (if laneInt ty b < laneInt ty a then b else a)

/-- One level of the pairwise tree (R242). -/
def treeLevel {α : Type} (f : α → α → α) : List α → List α
  | a :: b :: r => f a b :: treeLevel f r
  | l => l

/-- The pairwise tree over ascending lanes (R242). -/
def treeFold {α : Type} (f : α → α → α) (d : α) : Nat → List α → α
  | 0, l => l.headD d
  | n + 1, l => treeFold f d n (treeLevel f l)

/-! ### Quantisation (R254) -/

/-- Division of an integer by a natural, rounded to nearest, ties to even. -/
def rneRatio (neg : Bool) (a b : Nat) : Int := if neg then -((rneQuot a b : Nat) : Int) else ((rneQuot a b : Nat) : Int)

/-- Clamp to int8. -/
def clamp8 (v : Int) : Int := max (-128) (min 127 v)

/-- The signed magnitude of a finite value in units of 2^-149, none otherwise. -/
def fvInt : FV → Option Int
  | .fin b n => some (if b then -(n : Int) else (n : Int))
  | _ => none

/-- QPAR (R254): scale in bits [31:0] and z in bits [39:32], from a row's pair and the layer's bounds. Where the manual
states no quotient lo/scale - a bound is infinite, or the scale rounds to zero - z is taken from `free`. -/
def qpar (pair bound free : Nat) : Nat :=
  let zero : FV := .fin false 0
  let lo := FV.pick false (FV.pick true (fp32.value (bits pair 0 32)) (fp32.value (bits bound 0 32))) zero
  let hi := FV.pick true (FV.pick false (fp32.value (bits pair 32 32)) (fp32.value (bits bound 32 32))) zero
  let open_ := untoInt 8 (clamp8 (sext 8 free)) * 2 ^ 32
  match fvInt lo, fvInt hi with
  | some l, some h =>
    if l = h then 0x3F800000
    else
      let scale := fp32.nearest (h - l).toNat (255 * 2 ^ 149)
      match fvInt (fp32.value scale) with
      | some sc =>
        if sc ≤ 0 then scale + open_
        else
          let n := -128 * sc - l
          scale + untoInt 8 (clamp8 (rneRatio (decide (n < 0)) n.natAbs sc.toNat)) * 2 ^ 32
      | none => scale + open_
  | _, _ => fp32.inf false + open_

/-- The code of a lane under QPAR's result, whether it is clipped, and whether it is a NaN (R254). With a scale of zero or
one that is not finite the manual states no quotient: u is taken from `free`. -/
def qcode (q x free : Nat) : Int × Bool × Bool :=
  let z := sext 8 (bits q 32 8)
  let coded (u : Int) : Int × Bool × Bool := (clamp8 u, decide (u < -128 ∨ 127 < u), false)
  match fp32.value x, fvInt (fp32.value (bits q 0 32)) with
  | .nan, _ => (z, false, true)
  | .inf b, some sc =>
    if sc = 0 then coded (sext 16 free) else if b != decide (sc < 0) then (-128, true, false) else (127, true, false)
  | .fin b n, some sc =>
    if sc = 0 then coded (sext 16 free) else coded (rneRatio (b != decide (sc < 0)) n sc.natAbs + z)
  | _, none => coded (sext 16 free)

/-- The next minimum and maximum of a min-max pair over lanes, and whether a lane is a NaN (R254). -/
def qmm (pair : Nat) (xs : List Nat) : Nat × Bool :=
  let fs := xs.map fp32.value
  let lo := fs.foldl (FV.pick false) (fp32.value (bits pair 0 32))
  let hi := fs.foldl (FV.pick true) (fp32.value (bits pair 32 32))
  (fp32.write lo + fp32.write hi * 2 ^ 32, fs.any (fun f => decide (f = .nan)))

end Sys2Proof.Machine
end

