-- ==== Sys2Proof/Machine/Enc.lean ====
section
/-! DEFINITION. The encoder engine (R219 to R235, R257 to R260): models, loft windows, the backlog, records on clusters
and along chains, output records, and the tallies and statistics that a record leaves. -/

namespace Sys2Proof.Machine

open Sys2Proof

/-- Change the encoder engine's state. -/
def State.modEnc (s : State) (f : EncSt → EncSt) : State := { s with enc := f s.enc }

/-! ### Models -/

/-- A model of which nothing is placed yet. -/
def ModelMem.none : ModelMem :=
  { prog := [], layers := [], vqDim := 0, vqRounds := 0, excTol := 0, keySlot := 0, statsAddr := 0, statsSlots := 0,
    statsSteps := 1, passDone := false, failed := false, onAlt := false }

/-- Program and weights of an ENC_MODEL entry. -/
def State.modelMem (s : State) (i : Nat) : ModelMem := tget ModelMem.none s.enc.models i

/-- Change the program and weights of an entry. -/
def State.modModel (s : State) (i : Nat) (f : ModelMem → ModelMem) : State :=
  s.modEnc fun e => { e with models := tset ModelMem.none e.models i (f (s.modelMem i)) }

/-- The owning partition of an entry. -/
def State.modelPart (s : State) (i : Nat) : Nat := s.get (Reg.ENC_MODEL_PARTITION i)

/-- The nodes of a chain, in order (R232). -/
def State.chainNodes (s : State) (i : Nat) (alt : Bool) : List Nat :=
  (List.range (s.get (Reg.ENC_MODEL_CHAIN_LEN i))).map (fun k =>
    s.get (if alt then Reg.ENC_MODEL_ALT_CHAIN i k else Reg.ENC_MODEL_CHAIN i k) % 4096)

/-- The chain in force (R233). -/
def State.chainOf (s : State) (i : Nat) : List Nat := s.chainNodes i (s.modelMem i).onAlt

/-- The model runs along a chain (R232). -/
def State.chained (s : State) (i : Nat) : Bool := decide (2 ≤ s.get (Reg.ENC_MODEL_CHAIN_LEN i))

/-- The node runs a model: it stands in its chain, or the model runs on every node (R232). -/
def State.runsModel (s : State) (i : Nat) : Bool :=
  !s.chained i || (s.chainNodes i false).contains s.me || (s.chainNodes i true).contains s.me

/-- Whether every node of a chain is a member. -/
def State.chainUp (s : State) (i : Nat) (alt : Bool) : Bool :=
  let c := s.chainNodes i alt
  !c.isEmpty && c.all (fun n => decide (n ≠ 0xFFF) && s.isMember n)

/-- The chain in force lacks a member (R233): the model's records fail. -/
def State.chainDown (s : State) (i : Nat) : Bool := s.chained i && !s.chainUp i (s.modelMem i).onAlt

/-- The entry of a delta model's base (R220, R265). -/
def State.baseEntry (s : State) (i : Nat) : Option Nat :=
  if s.get (Reg.ENC_MODEL_FORM i) = 1 then
    firstIdx 256 (fun j => decide (s.get (Reg.ENC_MODEL_MODEL_ID j) = s.get (Reg.ENC_MODEL_BASE_ID i) ∧
      s.get (Reg.ENC_MODEL_MODEL_ID j) ≠ 0 ∧ s.get (Reg.ENC_MODEL_PARTITION j) = 0 ∧ s.get (Reg.ENC_MODEL_STATE j) ≠ 0))
  else none

/-- MODEL_UNAVAIL of partition p: a model of it reads STATE 4 (R235). -/
def State.showUnavail (s : State) (p : Nat) : State :=
  s.setB (Reg.ENC_STATUS_MODEL_UNAVAIL p) ((firstIdx 256 (fun i => decide (s.modelPart i = p ∧
    s.get (Reg.ENC_MODEL_STATE i) = 4))).isSome)

/-- A model becomes unavailable (R233, R271). -/
def State.unavailable (s : State) (i : Nat) : State :=
  let p := s.modelPart i
  ((s.set (Reg.ENC_MODEL_STATE i) 4).showUnavail p).event p 3

/-- A model whose first pass failed, or whose keys did not unwrap, becomes unavailable for good (R271, R422). -/
def State.spoiled (s : State) (i : Nat) : State := (s.modModel i (fun m => { m with failed := true })).unavailable i

/-! ### The loft (R230, R231) -/

/-- KiB of loft in a half. -/
def loftKib : Nat := 192 * 1024

/-- The reserved minimum of partition p in a half, in KiB. -/
def State.loftMin (s : State) (p half : Nat) : Nat :=
  1024 * s.get (if half = 0 then Reg.ENC_LOFT_MIN_HALF_A p else Reg.ENC_LOFT_MIN_HALF_B p)

/-- KiB of the windows of partition p, 0 for bases, in a half. -/
def State.loftUse (s : State) (p half : Nat) : Nat :=
  ((s.enc.loft.filter (fun w => decide (w.half = half ∧ s.modelPart w.model = p))).map
    (fun w => s.get (Reg.ENC_MODEL_LOFT_KIB w.model))).sum

/-- Reserved minima of a half. -/
def State.loftReserved (s : State) (half : Nat) : Nat := (partitions.map (fun p => s.loftMin p half)).sum

/-- KiB of the pool of a half in use: bases, and what partitions use past their minima. -/
def State.poolUse (s : State) (half : Nat) : Nat :=
  s.loftUse 0 half + (partitions.map (fun p => s.loftUse p half - s.loftMin p half)).sum

/-- The windows of a half fit. -/
def State.loftFits (s : State) (half : Nat) : Bool := decide (s.poolUse half + s.loftReserved half ≤ loftKib)

/-- ENC_LOFT shows the minima and the free pool. -/
def State.showLoft (s : State) : State :=
  let free (h : Nat) : Nat := (loftKib - s.loftReserved h - s.poolUse h) / 1024
  let s1 := (s.set Reg.ENC_LOFT_RESERVED_A (s.loftReserved 0 / 1024)).set Reg.ENC_LOFT_RESERVED_B (s.loftReserved 1 / 1024)
  (s1.set Reg.ENC_LOFT_POOL_FREE_A (free 0)).set Reg.ENC_LOFT_POOL_FREE_B (free 1)

/-- The models that a record reads: its own and its base. -/
def State.reads (s : State) (i : Nat) : List Nat := i :: (s.baseEntry i).toList

/-- No core is reading a window (R231, R266). -/
def State.winIdle (s : State) (w : LoftWin) : Bool :=
  !s.enc.runs.any (fun r => decide (r.1 / 4 = w.half) && (s.reads r.2.r.model).contains w.model)

/-- A window may be evicted for a window of partition p. -/
def State.evictable (s : State) (p : Nat) (keep : List Nat) (w : LoftWin) : Bool :=
  let q := s.modelPart w.model
  s.winIdle w && !keep.contains w.model && decide (q = 0 ∨ q = p ∨ s.loftMin q w.half < s.loftUse q w.half)

/-- The order of eviction: last use, then MODEL_ID. -/
def State.evictLe (s : State) (a b : LoftWin) : Bool :=
  decide (a.used < b.used ∨ (a.used = b.used ∧ s.get (Reg.ENC_MODEL_MODEL_ID a.model) ≤ s.get (Reg.ENC_MODEL_MODEL_ID b.model)))

/-- Evict windows of a half until its windows fit or nothing can be evicted. -/
def State.evict (s : State) (p half : Nat) (keep : List Nat) : Nat → State
  | 0 => s
  | fuel + 1 =>
    if s.loftFits half then s
    else match sortBy s.evictLe (s.enc.loft.filter (fun w => decide (w.half = half) && s.evictable p keep w)) with
      | [] => s
      | w :: _ => ((s.modEnc fun e => { e with loft := e.loft.erase w }).tallyP .ENC_EVICTIONS (s.modelPart w.model)).evict p half keep fuel

/-- The window of a model in a half. -/
def State.window? (s : State) (i half : Nat) : Option LoftWin :=
  s.enc.loft.find? (fun w => decide (w.model = i ∧ w.half = half))

/-- Give a model a window in a half, evicting what may be; false when there is no space. -/
def State.ensureWindow (s : State) (keep : List Nat) (i half : Nat) : State × Bool :=
  let s := s.modEnc fun e => { e with turn := e.turn + 1 }
  match s.window? i half with
  | some _ =>
    (s.modEnc fun e => { e with loft := lmod (fun w => decide (w.model = i ∧ w.half = half)) (fun w => { w with used := e.turn }) e.loft }, true)
  | none =>
    let w : LoftWin := { model := i, half := half, layers := [], used := s.enc.turn }
    let t := (s.modEnc fun e => { e with loft := e.loft ++ [w] }).evict (s.modelPart i) half keep (s.enc.loft.length + 1)
    if t.loftFits half then (t, true) else (t.modEnc fun e => { e with loft := e.loft.erase w }, false)

/-- Windows for all a record reads. -/
def State.ensureWindows (s : State) (i half : Nat) : State × Bool :=
  (s.reads i).foldl (fun (x : State × Bool) j => if x.2 then x.1.ensureWindow (s.reads i) j half else x) (s, true)

/-- A layer is in the loft of a half, for the model and for its base. -/
def State.layerIn (s : State) (i half layer : Nat) : Bool :=
  (s.reads i).all (fun j => match s.window? j half with | some w => w.layers.contains layer | none => false)

/-- The size of a segment's window bytes. -/
def State.modelKib (s : State) (i : Nat) : Nat := cdiv (((s.modelMem i).layers.flatten.map (fun g => g.bytes.length)).sum) 1024

/-! ### Clusters -/

/-- Core n is isolated (R229). -/
def State.coreIso (s : State) (n : Nat) : Bool := bit (s.get Reg.ENC_ISOLATED) n

/-- The cores of a cluster that are not isolated, ascending. -/
def State.cores (s : State) (c : Nat) : List Nat := ((List.range 8).map (fun k => 8 * c + k)).filter (fun n => !s.coreIso n)

/-- A core. -/
def State.core (s : State) (n : Nat) : NCore := tget NCore.idle s.enc.cores n

/-- Change a core. -/
def State.modCore (s : State) (n : Nat) (f : NCore → NCore) : State :=
  s.modEnc fun e => { e with cores := tset NCore.idle e.cores n (f (s.core n)) }

/-- A model's window may be placed in a half (ENC_MODEL.HALVES). -/
def State.placedIn (s : State) (i half : Nat) : Bool := s.flag (if half = 0 then Reg.ENC_MODEL_IN_A i else Reg.ENC_MODEL_IN_B i)

/-- The lowest free cluster that can run a model (R225). -/
def State.freeCluster (s : State) (i : Nat) : Option Nat :=
  (List.range 8).find? (fun c => (tfind s.enc.runs c).isNone && s.placedIn i (c / 4) && !(s.cores c).isEmpty)

/-- The next valid slot of a core: its bundle and the slot's number. -/
def State.nextOf (s : State) (prog : List Nat) (n : Nat) : Option (Nat × Nat) :=
  let c := s.core n
  if c.halted then none
  else match prog[c.pc]? with
    | some b => (nextSlot b c.slot).map (fun k => (b, k))
    | none => none

/-- Bytes of activations that ACTIs of bundles still under way on a cluster take (R238, R251). -/
def State.actiAhead (s : State) (cl : Nat) : Nat :=
  ((s.cores cl).map (fun m => ((s.core m).pend.map (fun w => match w.2 with
    | .takeActivation n => n
    | _ => 0)).sum)).sum

/-- What stalls a core: 3 an ACTI whose bytes have not come, 1 an MMA whose layer is not in the loft, 0 nothing (R230,
R248, R251). -/
def State.coreStall (s : State) (c n : Nat) (r : EncRun) : Nat :=
  match s.nextOf (s.modelMem r.r.model).prog n with
  | some (b, k) =>
    let x := slotBits b k
    if slotKind k = 3 ∧ opOf x = 0x0C ∧ r.inbox.length < r.taken + s.actiAhead c + bits x 64 32 then 3
    else if slotKind k = 2 ∧ opOf x = 1 then
      match tfind (s.core n).h (bits x 28 2) with
      | some h => if s.layerIn r.r.model (c / 4) h.layer then 0 else 1
      | none => 0
    else 0
  | none => 0

/-- What stalls a cluster. -/
def State.clusterStall (s : State) (c : Nat) : Nat :=
  match tfind s.enc.runs c with
  | some r => (((s.cores c).map (fun n => s.coreStall c n r)).find? (fun v => decide (v ≠ 0))).getD 0
  | none => 0

/-- ENC_CLUSTER and STREAM_STALL show a cluster (R235). -/
def State.showCluster (s : State) (c : Nat) : State :=
  let run := tfind s.enc.runs c
  let s := s.set (Reg.ENC_CLUSTER_MODEL_ID c) (match run with | some r => s.get (Reg.ENC_MODEL_MODEL_ID r.r.model) | none => 0)
  let s := s.setB (Reg.ENC_CLUSTER_ACTIVE c) run.isSome
  let s := s.set (Reg.ENC_CLUSTER_BUSY c) (((List.range 8).filter (fun k => !(s.core (8 * c + k)).halted)).map (fun k => 2 ^ k)).sum
  let s := s.when run.isNone (fun t => t.set (Reg.ENC_CLUSTER_LAYER c) 0)
  let s := s.set (Reg.ENC_CLUSTER_STALL c) (s.clusterStall c)
  s.setB Reg.ENC_STATUS_STREAM_STALL ((List.range 8).any (fun k => decide (s.get (Reg.ENC_CLUSTER_STALL k) ≠ 0)))

/-- A record as it stands before its first bundle here, with what the chain has brought (R395). -/
def EncRun.again (r : EncRun) : EncRun :=
  { r with out := [], satHere := 0, quantHere := 0, nan := false, taken := 0, actPos := 0, grads := [] }

/-- Start a record on a cluster: every core that is not isolated begins at bundle 0 with nothing in it (R226, R236,
R239). -/
def State.startRun (s : State) (c : Nat) (r : EncRun) : State :=
  let s := (s.cores c).foldl (fun t n => t.modCore n (fun _ => { NCore.idle with halted := false })) s
  (s.modEnc fun e => { e with
    runs := tput e.runs c r
    lastPart := (s.cores c).foldl (fun t n => tset 0 t n r.r.part) e.lastPart }).showCluster c

/-- Records of clusters that lost a core to isolation start again on the cores left; without one they wait for another
cluster (R229, R395). -/
def State.restartRuns (s : State) (isolated : List Nat) : State :=
  (s.enc.runs.filter (fun e => isolated.any (fun n => decide (n / 8 = e.1)))).foldl (fun (s : State) e =>
    if (s.cores e.1).isEmpty then
      (s.modEnc fun k => { k with runs := tdel k.runs e.1, arrived := k.arrived ++ [e.2.again] }).showCluster e.1
    else s.startRun e.1 e.2.again) s

/-- End what a cluster does. -/
def State.stopCluster (s : State) (c : Nat) : State :=
  let s := ((List.range 8).map (fun k => 8 * c + k)).foldl (fun t n => t.modCore n (fun _ => NCore.idle)) s
  (s.modEnc fun e => { e with runs := tdel e.runs c }).showCluster c

/-! ### Records -/

/-- The record of an operation and position. -/
def EncRec.is (r : EncRec) (id : OpId) (pos : Nat) : Bool := decide (r.id = id ∧ r.pos = pos)

/-- The order in which records are taken (R225). -/
def encLe (a b : EncRec) : Bool :=
  rankLe [a.id.step, a.cls, a.id.admitter, a.id.seq, a.pos] [b.id.step, b.cls, b.id.admitter, b.id.seq, b.pos]

/-- The least record in that order. -/
def leastRec (l : List EncRec) : Option EncRec := (sortBy encLe l).head?

/-- Raise or lower ENC_BACKLOG. -/
def State.addBacklog (s : State) (n : Nat) : State := s.set Reg.ENC_BACKLOG (s.get Reg.ENC_BACKLOG + n)
/-- Lower it. -/
def State.subBacklog (s : State) (n : Nat) : State := s.set Reg.ENC_BACKLOG (s.get Reg.ENC_BACKLOG - n)

/-- What is summed of the records of one model and step (R258). -/
def State.modAgg (s : State) (model step : Nat) (f : SatAgg → SatAgg) : State :=
  if s.enc.aggs.any (fun a => decide (a.model = model ∧ a.step = step)) then
    s.modEnc fun e => { e with aggs := lmod (fun a => decide (a.model = model ∧ a.step = step)) f e.aggs }
  else s.modEnc fun e => { e with aggs := e.aggs ++ [f { model := model, step := step, c := 0, n := 0, left := 0 }] }

/-- Statistics of a model that gathered nothing. -/
def QStats.none : QStats := { steps := [], seq := 0 }

/-- Change what the node gathers of a model for an admission step (R259). -/
def State.modStats (s : State) (model step : Nat) (f : StepStats → StepStats) : State :=
  let q := tget QStats.none s.enc.stats model
  let fresh : StepStats := { step := step, records := 0, quant := 0, clipped := 0, maxAbs := [], satEvt := false, ran := false }
  let steps := if q.steps.any (fun x => decide (x.step = step)) then lmod (fun x => decide (x.step = step)) f q.steps
    else sortBy (fun a b => decide (a.step ≤ b.step)) (f fresh :: q.steps)
  s.modEnc fun e => { e with stats := tset QStats.none e.stats model { q with steps := steps } }

/-- The saturation test of R258 for every model and step whose last record has completed. -/
def State.satTest (s : State) : State :=
  let over_ := s.enc.aggs.filter (fun a => decide (a.left = 0 ∧ a.step < s.openStep))
  let s := s.modEnc fun e => { e with aggs := e.aggs.filter (fun a => !decide (a.left = 0 ∧ a.step < s.openStep)) }
  over_.foldl (fun (s : State) (a : SatAgg) =>
    if a.n < a.c * 2 ^ s.get Reg.ENC_CFG_SAT_LOG2 then
      let p := s.modelPart a.model
      let s := ((s.setB Reg.ENC_STATUS_SAT_EVT true).event p 2).tallyP .QNT_SAT_EVENTS p
      s.modStats a.model a.step (fun x => { x with satEvt := true })
    else s) s

/-- Admit n records of a model (R221). -/
def State.admitRecords (s : State) (recs : List EncRec) : State :=
  match recs with
  | [] => s
  | r :: _ =>
    let n := recs.length
    let s := (s.modEnc fun e => { e with backlog := e.backlog ++ recs }).addBacklog n
    (s.modAgg r.model r.id.step (fun a => { a with left := a.left + n })).modStats r.model r.id.step
      (fun x => { x with records := x.records + n })

/-! ### The output stage (R223, R253, R257, R260) -/

/-- The FP32 lanes that the program wrote. -/
def outLanes (r : EncRun) (dim : Nat) : List Nat :=
  (List.range dim).map (fun j => leNat ((List.range 4).map (fun b => BitVec.ofNat 8 (tget 0 r.out (32 + 4 * j + b)))) 0 4)

/-- A finished record: its status, X_SCALE, X_ZERO, its vector, and what the output stage adds to both counters. -/
structure OutRec where
  status : Nat
  scale : Nat
  zero : Nat
  vec : List Byte
  clipped : Nat
  quant : Nat
  deriving DecidableEq, Repr

/-- Convert an output's lanes (R260). -/
def outStage (elem : Nat) (ls : List Nat) (nan : Bool) (free : Nat) : OutRec :=
  let odd := ls.any (fun l => isNan32 l || isInf32 l)
  let bad := nan || odd
  if elem = 0 then
    let q := qpar (qmm 0xFF8000007F800000 ls).1 0x7F800000FF800000 free
    let cs := ls.zipIdx.map (fun x => qcode q x.1 (bits free (16 * x.2 + 16) 16))
    { status := if bad then 5 else 0, scale := bits q 0 32, zero := bits q 32 8,
      vec := cs.map (fun c => BitVec.ofInt 8 c.1), clipped := cs.countP (fun c => c.2.1), quant := ls.length }
  else if elem = 3 then
    { status := if bad then 5 else 0, scale := 0, zero := 0, vec := (ls.map (natLe 4)).flatten, clipped := 0, quant := 0 }
  else
    let f := if elem = 1 then fp16 else bf16
    let vs := ls.map (fun l => f.write (fp32.value l))
    let inf := vs.any (fun v => decide (v % 2 ^ (f.p - 1 + f.w) = f.inf false))
    { status := if bad || inf then 5 else 0, scale := 0, zero := 0, vec := (vs.map (natLe 2)).flatten, clipped := 0, quant := 0 }

/-- The bytes of an output record (R223). -/
def outBytes (status record_ scale zp sat : Nat) (vec : List Byte) : List Byte :=
  natLe 1 status ++ natLe 7 0 ++ natLe 8 record_ ++ natLe 4 scale ++ natLe 1 zp ++ natLe 3 0 ++ natLe 4 sat ++ natLe 4 0 ++ vec

/-! ### Gradient records of training programs (R282, R285) -/

/-- The gradient records in a block that GRAD emitted: each one's bytes; a record whose table is unknown ends the block. -/
def State.splitGrads (s : State) : Nat → List Byte → List (List Byte)
  | 0, _ => []
  | fuel + 1, b =>
    if b.isEmpty then []
    else
      let size := 16 + 4 * s.tableDim (leNat b 0 2)
      b.take size :: s.splitGrads fuel (b.drop size)

/-- Stage what a training record emitted, to be applied at the commit of its step + 15. -/
def State.emitGrads (s : State) (r : EncRec) (blocks : List (List Byte)) : State :=
  let raw := (blocks.map (fun b => s.splitGrads (b.length + 1) b)).flatten
  let x := raw.zipIdx.foldl (fun (x : State × List GradRec) g =>
    match x.1.readGrad g.1 with
    | some (t, row, vs) =>
      if x.1.tablePart t = r.part then
        let c := x.1.convertGrad t vs
        match c.2.1 with
        | some v => (c.1, x.2 ++ [{ id := r.id, pos := 4096 * r.pos + g.2, table := t, row := row, part := r.part, due := r.id.step + 15, g := v }])
        | none => (c.1, x.2)
      else (x.1.tallyP .EMB_GRAD_DISCARDED r.part, x.2)
    | none => (x.1.tallyP .EMB_GRAD_DISCARDED r.part, x.2)) (s, [])
  x.1.stageAll x.2

/-! ### The end of a record at its admitting node -/

/-- A job whose every record is written completes (R224). -/
def State.endJob (s : State) (j : EncJob) : State :=
  if j.ok + j.bad < j.count then s
  else
    let s := s.modEnc fun e => { e with jobs := e.jobs.filter (fun x => decide (x.id ≠ j.id)) }
    match s.adm? j.id with
    | none => s
    | some a => s.completeAfter j.id j.status
        (encRecord j.status a.dlv.phase a.dlv.tag a.id.step a.dlv.user a.handle j.ok j.bad s.me a.id.seq)

/-- A record of a job: its output record is written, and the job counts it. -/
def State.endJobRecord (s : State) (r : EncRec) (status : Nat) (out : List Byte) : State :=
  match s.enc.jobs.find? (fun j => decide (j.id = r.id)) with
  | none => s
  | some j =>
    let s := (s.writeSpan (j.dst + r.pos * j.outStride) out (opTag r.id.seq)).when (decide (status ≠ 0))
      (fun t => t.tallyP .ENC_RECORD_BAD r.part)
    let j := if status = 0 then { j with ok := j.ok + 1 } else { j with bad := j.bad + 1 }
    let j := { j with status := if status = 2 ∨ status = 10 then worse j.status status else j.status }
    (s.modEnc fun e => { e with jobs := lmod (fun x => decide (x.id = j.id)) (fun _ => j) e.jobs }).endJob j

/-- A raw-form query's encoding has ended (R93, R261): its vector is treated as a vector-form payload, and anything but OK
completes the query. -/
def State.endRaw (s : State) (r : EncRec) (status : Nat) (out : List Byte) : State :=
  let s := s.modEnc fun e => { e with raws := e.raws.filter (fun x => decide (x.1 ≠ r.id)) }
  match s.adm? r.id with
  | none => s
  | some a =>
    match a.query with
    | none => s
    | some q =>
      if status = 0 then
        let f := s.formQuery q (leNat out 16 4) (sext 8 (leNat out 20 1)) (out.drop 32)
        let s := f.1.modAdm a.id (fun x => { x with query := some f.2 })
        if a.started then s.distribute f.2 else s
      else
        let s := s.endQuery a q status
        if a.started then s.releaseOp a.id 1 else s

/-- A record has ended (R223, R257, R258): 0 OK, 5 malformed or NaN, 2, 10, or 8 for a query whose input is unavailable. -/
def State.endRecord (s : State) (r : EncRec) (status : Nat) (out : List Byte) (sat quant : Nat) (grads : List (List Byte)) : State :=
  let s := (s.modEnc fun e => { e with
    backlog := e.backlog.filter (fun x => !x.is r.id r.pos)
    sent := e.sent.filter (fun x => !x.r.is r.id r.pos) }).subBacklog 1
  let s := (s.tallyP .QNT_QUANT_ELEMS r.part quant).tallyP .QNT_SAT_ELEMS r.part sat
  let s := s.modAgg r.model r.id.step (fun a => { a with c := a.c + sat, n := a.n + quant, left := a.left - 1 })
  let s := s.emitGrads r grads
  let s := if r.cls = 0 then s.endRaw r status out else s.endJobRecord r (if status = 8 then 10 else status) out
  (s.satTest.releaseDue).finishOps

/-! ### Along a chain (R232, R251, R257) -/

/-- What a chain's messages carry of a record here. -/
def State.chainRec (s : State) (r : EncRun) : ChainRec :=
  { id := r.r.id, pos := r.r.pos, cls := r.r.cls, model := s.get (Reg.ENC_MODEL_MODEL_ID r.r.model), part := r.r.part,
    input := r.input, pooled := r.pooled, sat := r.sat + r.satHere, quant := r.quant + r.quantHere, nan := r.nan || r.nanIn,
    grads := r.gradsIn ++ r.grads }

/-- A record as it arrives here. -/
def runOf (r : EncRec) (home chainPos : Nat) (input : List Byte) (pooled : List (Nat × List Byte)) : EncRun :=
  { r := r, home := home, input := input, pooled := pooled, out := [], sat := 0, quant := 0, satHere := 0, quantHere := 0,
    nan := false, nanIn := false, chainPos := chainPos, ended := decide (chainPos = 0), inbox := [], taken := 0, actPos := 0,
    sentMax := 0, grads := [], gradsIn := [], bad := 0 }

/-- Bytes of a chain message's record. -/
def chainBytes (c : ChainRec) : Nat := 32 + c.input.length + (c.pooled.map (fun p => p.2.length)).sum + (c.grads.map (·.length)).sum

/-- Send a record to CHAIN[0], or take it here (R232). -/
def State.sendChain (s : State) (r : EncRun) : State :=
  let s := s.modEnc fun e => { e with sent := e.sent.filter (fun x => !x.r.is r.r.id r.r.pos) ++ [r] }
  match (s.chainOf r.r.model).head? with
  | none => s
  | some n =>
    if n = s.me then s.modEnc fun e => { e with arrived := e.arrived ++ [r] }
    else s.sendMsg r.r.part 8 0 n (chainBytes (s.chainRec r)) (.actRecord (s.chainRec r) s.me)

/-- Forget a record that runs or waits here. -/
def State.dropRun (s : State) (id : OpId) (pos : Nat) : State :=
  let cs := (s.enc.runs.filter (fun e => e.2.r.is id pos)).map (·.1)
  cs.foldl State.stopCluster (s.modEnc fun e => { e with arrived := e.arrived.filter (fun r => !r.r.is id pos) })

/-- A record's output reaches its admitting node; elsewhere the message ends the record on this chain node (R232, R256). -/
def State.gotOutput (s : State) (id : OpId) (pos status : Nat) (out : List Byte) (sat quant : Nat) (grads : List (List Byte)) : State :=
  if id.admitter = s.me then
    match s.enc.sent.find? (fun x => x.r.is id pos) with
    | some x => (s.dropRun id pos).endRecord x.r status out sat quant grads
    | none => s.dropRun id pos
  else s.dropRun id pos

/-- A record ends here with a status: its output goes to the admitting node, and a failure to the other chain nodes. -/
def State.sendOutput (s : State) (r : EncRun) (status : Nat) (out : List Byte) (sat quant : Nat) (grads : List (List Byte)) : State :=
  let others := if s.chained r.r.model ∧ status ≠ 0 ∧ status ≠ 5 then
      (s.chainOf r.r.model).filter (fun n => decide (n ≠ s.me ∧ n ≠ r.home)) else []
  let msg : Instr := .actOutput r.r.id r.r.pos status out sat quant (r.nan || r.nanIn) grads s.me
  let n := 48 + out.length + (grads.map (·.length)).sum
  let s := others.foldl (fun (t : State) m => t.sendMsg r.r.part 8 0 m n msg) s
  if r.home = s.me then (s.dropRun r.r.id r.r.pos).endRecord r.r status out sat quant grads
  else s.sendMsg r.r.part 8 0 r.home n msg

/-- A record that failed: its output record is a header alone (assumption 37). -/
def State.failRun (s : State) (c : Nat) (r : EncRun) (status : Nat) : State :=
  let sat := r.sat + r.satHere
  (s.stopCluster c).sendOutput r status (outBytes status (leNat r.input 0 8) 0 0 sat []) sat (r.quant + r.quantHere) (r.gradsIn ++ r.grads)

/-- A record whose cores have all halted (R253): on the last chain node, and off a chain, the output stage ends it; on
another chain node its counters go to the next. -/
def State.finishRun (s : State) (c : Nat) (r : EncRun) : State :=
  let m := r.r.model
  if s.chained m ∧ r.chainPos + 1 < (s.chainOf m).length then
    let rec_ := s.chainRec r
    let s := s.stopCluster c
    match (s.chainOf m)[r.chainPos + 1]? with
    | some n => s.sendMsg r.r.part 8 0 n (chainBytes rec_) (.activation rec_ [] true s.me)
    | none => s
  else
    let elem := s.get (Reg.ENC_MODEL_OUT_ELEM m)
    let o := outStage elem (outLanes r (s.get (Reg.ENC_MODEL_OUT_DIM m))) (r.nan || r.nanIn) (Config.freeValue s.freeCtr)
    let s := { s with freeCtr := s.freeCtr + 1 }
    let status := worse r.bad o.status
    let sat := r.sat + r.satHere + o.clipped
    let quant := r.quant + r.quantHere + o.quant
    let out := outBytes status (leNat r.input 0 8) o.scale o.zero sat (if status = 0 ∨ status = 5 then o.vec else [])
    ((s.stopCluster c).tallyP .ENC_RECORDS r.r.part).sendOutput r status out sat quant (r.gradsIn ++ r.grads)

/-- A cluster's record is complete here: every core has halted, its transfers are done, and the previous chain node has
sent everything. -/
def State.checkRun (s : State) (c : Nat) : State :=
  match tfind s.enc.runs c with
  | none => s
  | some r =>
    if r.ended && (s.cores c).all (fun n => (s.core n).halted && (s.core n).xfers.isEmpty) then s.finishRun c r else s.showCluster c

/-! ### Inputs of a record (R223, R280) -/

/-- Bytes of an input record with N_TOK tokens and N_CODE codes. -/
def inBytes (tok code : Nat) : Nat := 16 + 8 * cdiv tok 2 + 8 * code

/-- The codes of an input record: table, field, row. -/
def codesOf (b : List Byte) : List (Nat × Nat × Nat) :=
  (List.range (leNat b 10 2)).map (fun i =>
    let o := 16 + 8 * cdiv (leNat b 8 2) 2 + 8 * i
    (leNat b o 2, leNat b (o + 2) 1, leNat b (o + 4) 4))

/-- An input record breaks its layout, or a field draws from two tables (R223, R280). -/
def State.malformed (s : State) (r : EncRec) (b : List Byte) : Bool :=
  let cs := codesOf b
  decide (leNat b 8 2 = 0 ∨ s.get (Reg.ENC_MODEL_MAX_TOK r.model) < leNat b 8 2 ∨ 512 < leNat b 10 2) ||
  cs.any (fun c => match s.tableEntry r.part c.1 r.id.step with
    | some i => decide (64 ≤ c.2.1 ∨ s.get (Reg.EMB_TABLE_ROWS_M1 i) < c.2.2)
    | none => true) ||
  cs.any (fun c => cs.any (fun d => decide (c.2.1 = d.2.1 ∧ c.1 ≠ d.1)))

/-- A row that a code names has no holder that is a member (R281). -/
def State.inputDead (s : State) (r : EncRec) (b : List Byte) : Bool :=
  (codesOf b).any (fun c => match s.tableEntry r.part c.1 r.id.step with
    | some i => (s.serverOf (s.get Reg.STEP_MEMBERS) i c.2.2 r.id.step).isNone
    | none => false)

/-- The pooled FP32 input of each field with codes (R279, R280): the rows served here, and the exact partial sums that
other nodes returned. -/
def State.pool (s : State) (r : EncRec) (b : List Byte) (remote : List (Nat × List Int)) : List (Nat × List Byte) :=
  let cs := codesOf b
  ((cs.map (fun c => c.2.1)).dedup).map (fun f =>
    let mine := cs.filter (fun c => decide (c.2.1 = f))
    let t := (mine.head?.map (·.1)).getD 0
    let i := (s.tableEntry r.part t r.id.step).getD 0
    let here := mine.filter (fun c => decide (s.serverOf (s.get Reg.STEP_MEMBERS) i c.2.2 r.id.step = some s.me))
    let dim := s.get (Reg.EMB_TABLE_DIM i)
    let elem (j : Nat) : Int := (here.map (fun c => rowElem (s.rowAt (rowKey t c.2.2) r.id.step) j)).sum +
      ((remote.filter (fun x => decide (x.1 = f))).map (fun x => x.2.getD j 0)).sum
    (f, ((List.range dim).map (fun j => natLe 4 (pooledValue (elem j) 0x3F800000 (sext 8 (s.get (Reg.EMB_TABLE_TSCALE i)))))).flatten))

/-- The input record of a raw-form query's descriptor (R89, R90). -/
def rawInput (d : List Byte) : List Byte :=
  let tok := body d 32 2
  let code := body d 34 2
  natLe 8 0 ++ natLe 2 tok ++ natLe 2 code ++ natLe 4 0 ++ (d.drop 64).take (inBytes tok code - 16)

/-- The input record of a backlog record. -/
def State.inputOf (s : State) (r : EncRec) (mem : List (Nat × List Byte)) : List Byte :=
  if r.cls = 0 then rawInput (((s.enc.raws.find? (fun x => decide (x.1 = r.id))).map (·.2)).getD [])
  else match s.enc.jobs.find? (fun j => decide (j.id = r.id)) with
    | none => []
    | some j =>
      let a := j.src + r.pos * j.inStride
      let h := s.shmRead mem a 16
      s.shmRead mem a (inBytes (min (leNat h 8 2) 65535) (min (leNat h 10 2) 512))

/-! ### Dispatch (R225) -/

/-- A backlog record may be taken: the step before its own is committed here and its model's first pass is over. -/
def State.recReady (s : State) (r : EncRec) : Bool :=
  decide (r.id.step ≤ s.get Reg.STEP_COMMITTED + 1) &&
  ((s.modelMem r.model).passDone || !s.runsModel r.model || decide (s.get (Reg.ENC_MODEL_STATE r.model) = 4)) &&
  !s.enc.sent.any (fun x => x.r.is r.id r.pos) && !s.enc.runs.any (fun e => e.2.r.is r.id r.pos)

/-- Put a record on the lowest free cluster whose half has its windows; without loft space it waits. -/
def State.place (s : State) (r : EncRun) : State × Bool :=
  match s.freeCluster r.r.model with
  | none => (s, false)
  | some c =>
    let w := s.ensureWindows r.r.model (c / 4)
    if w.2 then ((((w.1.setB Reg.ENC_STATUS_LOFT_WAIT false).showLoft).modStats r.r.model r.r.id.step (fun x => { x with ran := true })).startRun c r, true)
    else ((w.1.setB Reg.ENC_STATUS_LOFT_WAIT true).showLoft, false)

/-- Take a backlog record. -/
def State.takeRec (s : State) (r : EncRec) (mem : List (Nat × List Byte)) (remote : List (Nat × List Int)) (lost : Bool) : State :=
  let b := s.inputOf r mem
  let status := if s.get (Reg.ENC_MODEL_STATE r.model) = 4 ∨ s.chainDown r.model = true ∨ lost = true then 10
    else if s.malformed r b then 5
    else if s.inputDead r b then 8 else 0
  if status ≠ 0 then
    s.endRecord r status (outBytes (if status = 8 then 10 else status) (leNat b 0 8) 0 0 0 []) 0 0 []
  else
    let run := runOf r s.me 0 b (s.pool r b remote)
    let gone (t : State) : State := t.modEnc fun e => { e with backlog := e.backlog.filter (fun x => !x.is r.id r.pos) }
    if s.chained r.model then (gone s).sendChain run
    else
      let p := s.place run
      if p.2 then gone p.1 else p.1

/-- ENC_RECORD_DISPATCH (R225): the least record that waits here is taken, of this node's backlog or arrived along a
chain; `mem` and `remote` are the bytes and exact partial sums it needs from other nodes, `lost` that they are lost. -/
def execEncRecordDispatch (mem : List (Nat × List Byte)) (remote : List (Nat × List Int)) (lost : Bool) (s : State) :=
  nodeEvt s (fun s =>
    match leastRec ((s.enc.backlog.filter s.recReady) ++ s.enc.arrived.map (·.r)) with
    | none => s
    | some r =>
      match s.enc.arrived.find? (fun x => x.r.is r.id r.pos) with
      | some x =>
        let p := s.place x
        if p.2 then p.1.modEnc fun e => { e with arrived := e.arrived.filter (fun y => !y.r.is r.id r.pos) } else p.1
      | none => s.takeRec r mem remote lost)

/-- LOFT_FILL_DONE (R230): a layer has arrived in a window; a streaming window keeps it and the layer before. -/
def execLoftFillDone (model half layer : Nat) (s : State) :=
  nodeEvt s (fun s =>
    if s.get (Reg.ENC_MODEL_LAYERS model) ≤ layer then s
    else
      let resident := decide (s.modelKib model ≤ s.get (Reg.ENC_MODEL_LOFT_KIB model))
      let last := s.get (Reg.ENC_MODEL_LAYERS model) - 1
      let before := if layer = 0 then last else layer - 1
      let keep (l : List Nat) : List Nat :=
        (if resident then l else l.filter (fun x => decide (x = before))).filter (fun x => decide (x ≠ layer)) ++ [layer]
      let s := s.modEnc fun e => { e with
        loft := lmod (fun w => decide (w.model = model ∧ w.half = half)) (fun w => { w with layers := keep w.layers }) e.loft }
      (List.range 8).foldl State.showCluster s)

/-! ### Chain messages -/

/-- The record that a chain message names, as this node runs it. -/
def State.chainRun (s : State) (c : ChainRec) (admitter : Nat) : Option EncRun :=
  match s.modelEntry c.part c.model c.id.step with
  | none => none
  | some i =>
    let pos := (s.chainOf i).findIdx (fun n => decide (n = s.me))
    some (runOf { id := c.id, pos := c.pos, cls := c.cls, model := i, part := c.part } admitter pos c.input c.pooled)

/-- ACT_RECORD (R232): a record arrives at CHAIN[0]; one that has started again replaces what is here of it (R233). -/
def execActRecord (r : ChainRec) (_src : Nat) (s : State) :=
  nodeEvt s (fun s =>
    let s := s.dropRun r.id r.pos
    match s.chainRun r r.id.admitter with
    | none => s
    | some x => s.modEnc fun e => { e with arrived := e.arrived ++ [{ x with ended := true, chainPos := 0 }] })

/-- ACTIVATION (R251, R257): bytes and counters from the previous chain node, in the order it sent them. -/
def execActivation (r : ChainRec) (data : List Byte) (last : Bool) (src : Nat) (s : State) :=
  nodeEvt s (fun s =>
    let take (x : EncRun) : EncRun := { x with inbox := x.inbox ++ data, sat := r.sat, quant := r.quant, nanIn := x.nanIn || r.nan,
                                               gradsIn := r.grads, ended := x.ended || last }
    match (s.enc.runs.find? (fun e => e.2.r.is r.id r.pos)).map (·.1) with
    | some c => (s.modEnc fun e => { e with runs := tmod e.runs c take }).checkRun c
    | none =>
      if s.enc.arrived.any (fun x => x.r.is r.id r.pos) then
        s.modEnc fun e => { e with arrived := lmod (fun x => x.r.is r.id r.pos) take e.arrived }
      else match s.chainRun r r.id.admitter with
        | none => s
        | some x =>
          -- only the previous node of the chain in force sends activations here
          if (s.chainOf x.r.model)[x.chainPos - 1]? = some src ∧ 0 < x.chainPos then
            s.modEnc fun e => { e with arrived := e.arrived ++ [take x] }
          else s)

/-- ACT_OUTPUT (R232): the record's output, or the end of a record that failed elsewhere on the chain (R256). -/
def execActOutput (id : OpId) (pos status : Nat) (out : List Byte) (sat quant : Nat) (_nan : Bool) (grads : List (List Byte))
    (_src : Nat) (s : State) :=
  nodeEvt s (fun s => s.gotOutput id pos status out sat quant grads)

/-! ### ENC_RUN and raw-form queries (R93, R221) -/

/-- ENC_RUN (R221): its records join the backlog. -/
def execEncRun (s : State) :=
  nodeEvt s (fun s => s.serve (isOp 0x2C) (fun s t dlv =>
    let d := t.data
    let i := (s.modelEntry t.part (body d 0 4) t.id.step).getD 0
    let n := body d 4 4
    let started := decide (t.id.step ≤ s.get Reg.STEP_COMMITTED + 1)
    let a := { t.admitted dlv (body d 0 4) 0 true with items := n, started := started }
    let j : EncJob := { id := t.id, count := n, src := body d 8 8, dst := body d 16 8, inStride := body d 24 4,
                        outStride := body d 28 4, ok := 0, bad := 0, status := 0 }
    let s := (s.admitOp a).modEnc fun e => { e with jobs := e.jobs ++ [j] }
    let s := s.admitRecords ((List.range n).map (fun k => { id := t.id, pos := k, cls := 1, model := i, part := t.part }))
    if started then s.announceOp t.id 0x2C else s))

/-- QUERY (R94, R473): a vector-form query takes its vector's forms at once; a raw-form one joins the encoder backlog. The
query starts when the step before its own is committed here (R31). -/
def execQuery (s : State) :=
  nodeEvt s (fun s => s.serve (isOp 1) (fun s t dlv =>
    let d := t.data
    let s := s.tallyP .QRY_ADMITTED t.part
    let q := s.queryOf t dlv
    let a := { t.admitted dlv q.handle 0 true with query := some q }
    let start (s : State) (a : Admitted) : State := if t.id.step ≤ s.get Reg.STEP_COMMITTED + 1 then s.startQuery a else s
    if rawForm d then
      let i := (s.modelEntry t.part (s.get (Reg.COLL_DESC_ENCODER q.handle)) t.id.step).getD 0
      let s := (s.admitOp a).modEnc fun e => { e with raws := e.raws ++ [(t.id, d)] }
      start (s.admitRecords [{ id := t.id, pos := 0, cls := 0, model := i, part := t.part }]) a
    else
      let c := s.cfgOf q.handle
      let f := s.formQuery q q.qscale q.qzero ((d.drop 64).take (c.dim * elemBytes c.elem))
      let a := { a with query := some f.2 }
      start (f.1.admitOp a) a))

end Sys2Proof.Machine
end

