-- ==== Sys2Proof/Machine/NyBundle.lean ====
section
/-! DEFINITION. The execution of Nyiskah bundles (R238, R249 to R253, R256): the slots of a core's bundle run one command
each, in the order S0, S1, V, M, L0, L1, C, all reading the state before the bundle; with the last valid slot the bundle
takes effect whole, or raises the lowest of its exceptions and has none. -/

namespace Sys2Proof.Machine

open Sys2Proof

/-- What a slot sees: its core's number, the record, the core before the bundle, its bits, and a free value. -/
structure SlotCtx where
  c : Nat
  r : EncRun
  n : NCore
  x : Nat
  free : Nat
  deriving DecidableEq, Repr

/-- What a slot does: the causes of exceptions it raises, and its writes. -/
abbrev SlotRes := List Nat × List SlotWrite

/-! ### Scratch ranges -/

/-- The address of a stream slot: SA plus the signed OFF (R247). -/
def streamAddr (n : NCore) (x : Nat) : Nat := (n.sreg (bits x 12 6) + untoInt 64 (sext 32 (bits x 32 32))) % 2 ^ 64

/-- The LEN of a stream slot. -/
def streamLen (x : Nat) : Nat := bits x 64 32

/-- Bytes of an element of a matrix operand. -/
def elemSize (ty : Nat) : Nat := if ty = 3 then 2 else 1

/-- Rows of a matrix slot and its K. -/
def mRows (x : Nat) : Nat := bits x 39 6 + 1
def mK (x : Nat) : Nat := 32 * (bits x 32 7 + 1)

/-- The address of row i of a matrix slot. -/
def rowAddr (n : NCore) (x i : Nat) : Nat := (n.sreg (bits x 16 6) + i * n.sreg (bits x 22 6)) % 2 ^ 64

/-- The ranges of this core's scratch that a slot reads or writes: address, bytes, alignment. -/
def scratchOf (kind : Nat) (n : NCore) (x : Nat) : List (Nat × Nat × Nat) :=
  let op := opOf x
  if kind = 2 then
    if op = 1 then (List.range (mRows x)).map (fun i => (rowAddr n x i, mK x * elemSize (bits x 8 4), 1))
    else if op = 3 then (List.range (mRows x)).map (fun i => (rowAddr n x i, 512, 1)) else []
  else if kind = 3 then
    if op = 1 ∨ op = 2 then [(streamAddr n x, 512, 64)]
    else if op = 3 ∨ op = 4 then [(streamAddr n x, 8, 8)]
    else if op = 8 then
      if streamLen x = 1024 then [((n.sreg (bits x 18 6) + untoInt 64 (sext 32 (bits x 32 32))) % 2 ^ 64, 1024, 64)] else []
    else if op = 0 ∨ op = 9 then []
    else [(streamAddr n x, streamLen x, 64)]
  else []

/-- The causes that a slot's ranges raise: ADDRESS outside scratch or out of alignment, HAZARD inside an open receive window
(R247, R250). -/
def rangeCauses (n : NCore) (rs : List (Nat × Nat × Nat)) : List Nat :=
  (if rs.any (fun r => decide (scratchBytes < r.1 + r.2.1 ∨ r.1 % r.2.2 ≠ 0)) then [2] else []) ++
  (if rs.any (fun r => n.windows.any (fun w => overlap r.1 r.2.1 w.1 w.2)) then [5] else [])

/-- LEN is a multiple of 64 from 64 to 2 MiB (R247). -/
def lenCauses (x : Nat) : List Nat :=
  if streamLen x = 0 ∨ streamLen x % 64 ≠ 0 ∨ scratchBytes < streamLen x then [2] else []

/-- A slot that accesses scratch: its ranges' causes and what else it finds; its writes. -/
def scratchSlot (kind : Nat) (k : SlotCtx) (causes : List Nat) (ws : List SlotWrite) : SlotRes :=
  (rangeCauses k.n (scratchOf kind k.n k.x) ++ causes, ws)

/-- A slot waits: for an earlier transfer that its ranges overlap (R249), for its layer (R230, R248), for activations
(R251), or for a handle whose layer has not come. -/
def State.slotWaits (s : State) (k : SlotCtx) (kind : Nat) : Bool :=
  (scratchOf kind k.n k.x).any (fun r => k.n.xfers.any (fun t => overlap r.1 r.2.1 t.1 t.2.1)) ||
  (decide (kind = 3 ∧ opOf k.x = 0x0C) && s.chained k.r.r.model && decide (0 < k.r.chainPos ∧ k.r.inbox.length < k.r.taken + s.actiAhead (k.c / 8) + streamLen k.x)) ||
  (decide (kind = 2 ∧ opOf k.x = 1) && (match tfind k.n.h (bits k.x 28 2) with
    | some h => !s.layerIn k.r.r.model (k.c / 8 / 4) h.layer
    | none => false))

/-! ### The flow of control (R252) -/

/-- What follows bundle pc when no branch is taken: the loop it closes runs again or ends. -/
def fallThrough (pc : Nat) : List (Nat × Nat × Nat) → Nat × List (Nat × Nat × Nat)
  | [] => (pc + 1, [])
  | (first, last, left) :: ls =>
    if pc = last then
      if 2 ≤ left then (first, (first, last, left - 1) :: ls) else fallThrough pc ls
    else (pc + 1, (first, last, left) :: ls)

/-- The core goes on behind bundle pc. -/
def NCore.after (n : NCore) (pc : Nat) : NCore := let f := fallThrough pc n.loops; { n with pc := f.1, loops := f.2 }

/-- The core goes to a bundle; loops that do not hold it end. -/
def NCore.goto (n : NCore) (t : Nat) : NCore :=
  { n with pc := t, loops := n.loops.dropWhile (fun l => decide (t < l.1 ∨ l.2.1 < t)) }

/-- Enter a loop of the bundles from the next to `last`, `count` times; none of it runs when count is 0 or it is empty. -/
def NCore.loop (n : NCore) (last count : Nat) : NCore :=
  if last ≤ n.pc then n.after n.pc
  else if count = 0 then n.after last
  else { n with pc := n.pc + 1, loops := (n.pc + 1, last, count) :: n.loops }

/-! ### The end of a bundle -/

/-- The register a write goes to, as a number apart from every other register's; s0 discards (R239). -/
def writeTarget : SlotWrite → Option Nat
  | .sreg r _ => if r = 0 then none else some r
  | .vreg r _ => some (100 + r)
  | .tile t _ => some (200 + t)
  | _ => none

/-- The scratch range a write goes to. -/
def writeRange : SlotWrite → Option (Nat × Nat)
  | .scratch a d => some (a, d.length)
  | _ => none

/-- Two slots write the same register or tile, or overlapping scratch (R238). -/
def clashes (ws : List (Nat × SlotWrite)) : List Nat :=
  let dup := ws.any (fun a => ws.any (fun b => decide (a.1 < b.1 ∧ writeTarget a.2 ≠ none ∧ writeTarget a.2 = writeTarget b.2)))
  let lap := ws.any (fun a => ws.any (fun b => decide (a.1 < b.1) && (match writeRange a.2, writeRange b.2 with
    | some x, some y => overlap x.1 x.2 y.1 y.2
    | _, _ => false)))
  (if dup then [1] else []) ++ (if lap then [5] else [])

/-- Change the record of a cluster. -/
def State.modRun (s : State) (cl : Nat) (f : EncRun → EncRun) : State := s.modEnc fun e => { e with runs := tmod e.runs cl f }

/-- Send activations to the next chain node, but for what a run before a restart sent already (R251, R257). -/
def State.sendAct (s : State) (cl : Nat) (data : List Byte) : State :=
  match tfind s.enc.runs cl with
  | none => s
  | some r =>
    let fresh := data.drop (r.sentMax - r.actPos)
    let r1 := { r with actPos := r.actPos + data.length, sentMax := max r.sentMax (r.actPos + data.length) }
    let s := s.modRun cl (fun _ => r1)
    match fresh, (s.chainOf r.r.model)[r.chainPos + 1]? with
    | [], _ => s
    | _, none => s
    | _, some n => s.sendMsg r.r.part 8 0 n (chainBytes (s.chainRec r1) + fresh.length) (.activation (s.chainRec r1) fresh false s.me)

/-- A slot's write takes effect. -/
def State.slotWrite (s : State) (c : Nat) (w : SlotWrite) : State :=
  let cl := c / 8
  match w with
  | .sreg r v => s.modCore c (fun n => if r = 0 then n else { n with s := tset 0 n.s r (v % 2 ^ 64) })
  | .vreg r v => s.modCore c (fun n => { n with v := tset 0 n.v r (v % 2 ^ 4096) })
  | .tile t v => s.modCore c (fun n => { n with t := tset (Tile.zero false) n.t t v })
  | .scratch a d => s.modCore c (fun n => { n with mem := storeBytes n.mem a d })
  | .handle h (some v) => (s.modCore c (fun n => { n with h := tput n.h h v })).set (Reg.ENC_CLUSTER_LAYER cl) v.layer
  | .handle h none => s.modCore c (fun n => { n with h := tdel n.h h })
  | .sat k q =>
    match tfind s.enc.runs cl with
    | none => s
    | some r => (s.modRun cl (fun r => { r with satHere := r.satHere + k, quantHere := r.quantHere + q })).modStats r.r.model r.r.id.step
        (fun x => { x with clipped := x.clipped + k, quant := x.quant + q })
  | .nan => s.modRun cl (fun r => { r with nan := true })
  | .stat layer v =>
    match tfind s.enc.runs cl with
    | none => s
    | some r => s.modStats r.r.model r.r.id.step (fun x => { x with maxAbs := tset 0 x.maxAbs layer (max (tget 0 x.maxAbs layer) v) })
  | .output o d => s.modRun cl (fun r => { r with out := storeBytes r.out o d })
  | .exchange m a d => s.modCore m (fun n => { n with mem := storeBytes n.mem a d })
  | .activation d => s.sendAct cl d
  | .takeActivation k => s.modRun cl (fun r => { r with taken := r.taken + k })
  | .gradient d => s.modRun cl (fun r => { r with grads := r.grads ++ [d] })
  | .transfer a l x => s.modCore c (fun n => { n with xfers := n.xfers ++ [(a, l, x)] })
  | .window a l => s.modCore c (fun n => { n with windows := n.windows ++ [(a, l)] })
  | .delays k =>
    match tfind s.enc.runs cl with
    | none => s
    | some r => s.tallyP .QNT_EXC_DELAYS r.r.part k
  | _ => s

/-- Where the core goes when its bundle has ended: the next slot begins a bundle. -/
def NCore.flow (n : NCore) (ws : List SlotWrite) : NCore :=
  let n := { n with slot := 0, pend := [] }
  match ws.find? (fun w => match w with
    | .goto_ _ => true | .enterLoop _ _ => true | .bar => true | .halt => true | _ => false) with
  | some (.goto_ t) => n.goto t
  | some (.enterLoop l k) => n.loop l k
  | some .bar => { n with atBar := true }
  | some .halt => { n with halted := true }
  | _ => n.after n.pc

/-- An exception on one core or more: the cause and the bundle are kept for the read-out, and the record ends with FAILED
(R256). -/
def State.raise (s : State) (cl : Nat) (cores : List Nat) (cause : Nat) : State :=
  match tfind s.enc.runs cl with
  | none => s
  | some r =>
    let s := cores.foldl (fun (s : State) m =>
      (s.set (Reg.DBG_CORE_EXC_CAUSE m) cause).set (Reg.DBG_CORE_EXC_BUNDLE m) (s.core m).pc) s
    (s.tallyP .ENC_PROG_FAULTS r.r.part).failRun cl r 10

/-- Barriers of a cluster (R250): released when every core that is not isolated waits at the same one with its exchanges
done; a core that has halted raises BARRIER on every core that waits. -/
def State.checkBar (s : State) (cl : Nat) : State :=
  let cs := s.cores cl
  let waiting := cs.filter (fun m => (s.core m).atBar)
  match waiting with
  | [] => s
  | m :: _ =>
    if cs.any (fun k => (s.core k).halted) then s.raise cl waiting 7
    else if cs.all (fun k => (s.core k).atBar && decide ((s.core k).pc = (s.core m).pc) && !(s.core k).xfers.any (fun t => t.2.2)) then
      cs.foldl (fun (s : State) k => s.modCore k (fun n => { n with atBar := false, windows := [] }.after n.pc)) s
    else s

/-- The bundle of a core ends. -/
def State.endBundle (s : State) (c : Nat) (n : NCore) : State :=
  let cl := c / 8
  match n.exc.toList ++ clashes n.pend with
  | e :: es => (s.modCore c (fun _ => n)).raise cl [c] (es.foldl min e)
  | [] =>
    let ws := n.pend.map (·.2)
    let s := ws.foldl (fun (s : State) w => s.slotWrite c w) (s.modCore c (fun _ => n))
    ((s.modCore c (fun n => n.flow ws)).checkBar cl).checkRun cl

/-! ### One slot -/

/-- A core's next valid slot is the named one and can run: it runs, reading the state before its bundle; the last one ends
the bundle. A bundle that is not well formed, or a program counter past the program, raises its exception (R237, R252).
Where the core's next slot is another one, or it waits, nothing happens (assumption 1). -/
def State.runSlot (s : State) (c kind op : Nat) (body : SlotCtx → SlotRes) : State :=
  match tfind s.enc.runs (c / 8) with
  | none => s
  | some r =>
    let n := s.core c
    if n.halted || n.atBar || s.coreIso c then s
    else match (s.modelMem r.r.model).prog[n.pc]? with
      | none => s.raise (c / 8) [c] 2
      | some b =>
        if !bundleOk b then s.raise (c / 8) [c] 1
        else match nextSlot b n.slot with
          | none => s
          | some i =>
            let k : SlotCtx := { c := c, r := r, n := n, x := slotBits b i, free := Config.freeValue s.freeCtr }
            if slotKind i ≠ kind ∨ opOf k.x ≠ op ∨ s.slotWaits k kind = true then s
            else
              let s := { s with freeCtr := s.freeCtr + 1 }
              let res := body k
              let n := { n with
                slot := i + 1
                pend := n.pend ++ (if res.1.isEmpty then res.2 else []).map (fun w => (i, w))
                exc := (n.exc.toList ++ res.1).min? }
              match nextSlot b (i + 1) with
              | some _ => (s.modCore c (fun _ => n)).showCluster (c / 8)
              | none => s.endBundle c n

/-- One slot of a core's bundle as a command. -/
def State.slotCmd (s : State) (c kind op : Nat) (body : SlotCtx → SlotRes) : Host.Outcome State Fault Refusal :=
  nodeEvt s (fun s => s.runSlot c kind op body)

/-- NOP (R238): a valid slot with operation 0, or a bundle without a valid slot. -/
def execNop (core : Nat) (s : State) :=
  nodeEvt s (fun s =>
    let n := s.core core
    match tfind s.enc.runs (core / 8) with
    | none => s
    | some r =>
      match (s.modelMem r.r.model).prog[n.pc]? with
      | none => s.runSlot core 4 0 (fun _ => ([], []))
      | some b =>
        match nextSlot b n.slot with
        | some i => s.runSlot core (slotKind i) 0 (fun _ => ([], []))
        | none =>
          if n.halted || n.atBar || s.coreIso core then s
          else if !bundleOk b then s.raise (core / 8) [core] 1
          else s.endBundle core n)

/-- STREAM_TRANSFER_DONE (R249): transfer n of a core, in the order they began, has completed. -/
def execStreamTransferDone (core n : Nat) (s : State) :=
  nodeEvt s (fun s =>
    if (tfind s.enc.runs (core / 8)).isNone then s
    else ((s.modCore core (fun k => { k with xfers := k.xfers.eraseIdx n })).checkBar (core / 8)).checkRun (core / 8))

end Sys2Proof.Machine
end

