-- ==== Sys2Proof/Machine/NyVector.lean ====
section
/-! DEFINITION. The vector slot (R241, R242, R244, R254, R255). -/

namespace Sys2Proof.Machine

open Sys2Proof

/-- TYPE, sources and IMM of a vector slot. -/
def SlotCtx.ty (k : SlotCtx) : Nat := bits k.x 8 4
def SlotCtx.va (k : SlotCtx) : Nat := k.n.vreg (bits k.x 17 5)
def SlotCtx.vb (k : SlotCtx) : Nat := k.n.vreg (bits k.x 22 5)
def SlotCtx.vc (k : SlotCtx) : Nat := k.n.vreg (bits k.x 27 5)
def SlotCtx.vdOld (k : SlotCtx) : Nat := k.n.vreg (bits k.x 12 5)
def SlotCtx.ss (k : SlotCtx) : Nat := k.n.sreg (bits k.x 32 6)
def SlotCtx.vimm (k : SlotCtx) : Nat := bits k.x 40 32

/-- A vector result in VD. -/
def SlotCtx.vd (k : SlotCtx) (v : Nat) : SlotRes := ([], [.vreg (bits k.x 12 5) v])

/-- A scalar result in SS. -/
def SlotCtx.toSS (k : SlotCtx) (v : Nat) : SlotWrite := .sreg (bits k.x 32 6) (v % 2 ^ 64)

/-- A vector operation as a command. -/
def State.vectorCmd (s : State) (core op : Nat) (body : SlotCtx → SlotRes) : Host.Outcome State Fault Refusal :=
  s.slotCmd core 1 op body

/-- Lane by lane over VA and VB. -/
def SlotCtx.map2 (k : SlotCtx) (f : Nat → Nat → Nat) : SlotRes :=
  k.vd (ofLanes k.ty (List.zipWith f (lanes k.ty k.va) (lanes k.ty k.vb)))

/-- Lane by lane over VA. -/
def SlotCtx.map1 (k : SlotCtx) (f : Nat → Nat) : SlotRes := k.vd (ofLanes k.ty ((lanes k.ty k.va).map f))

/-- VADD. -/
def execVadd (core : Nat) (s : State) :=
  s.vectorCmd core 0x01 (fun k => k.map2 (fun a b =>
    if isFp k.ty then (laneFmt k.ty).add (laneFv k.ty a) (laneFv k.ty b) else a + b))

/-- VSUB. -/
def execVsub (core : Nat) (s : State) :=
  s.vectorCmd core 0x02 (fun k => k.map2 (fun a b =>
    if isFp k.ty then (laneFmt k.ty).add (laneFv k.ty a) (laneFv k.ty b).neg else a + (2 ^ laneW k.ty - b)))

/-- VMUL. -/
def execVmul (core : Nat) (s : State) :=
  s.vectorCmd core 0x03 (fun k => k.map2 (fun a b =>
    if isFp k.ty then (laneFmt k.ty).mul (laneFv k.ty a) (laneFv k.ty b) else a * b))

/-- VFMA: VA × VB + VC with one rounding. -/
def execVfma (core : Nat) (s : State) :=
  s.vectorCmd core 0x04 (fun k => k.vd (ofLanes k.ty ((List.range (laneN k.ty)).map (fun i =>
    let a := lane k.ty k.va i
    let b := lane k.ty k.vb i
    let c := lane k.ty k.vc i
    if isFp k.ty then (laneFmt k.ty).fma (laneFv k.ty a) (laneFv k.ty b) (laneFv k.ty c) else a * b + c))))

/-- VMAX. -/
def execVmax (core : Nat) (s : State) := s.vectorCmd core 0x05 (fun k => k.map2 (pickLane true k.ty))
/-- VMIN. -/
def execVmin (core : Nat) (s : State) := s.vectorCmd core 0x06 (fun k => k.map2 (pickLane false k.ty))
/-- VEXP: e^x (R241). -/
def execVexp (core : Nat) (s : State) := s.vectorCmd core 0x07 (fun k => k.map1 (fun a => exp32 (fp32.value a)))
/-- VRCP: 1/x. -/
def execVrcp (core : Nat) (s : State) := s.vectorCmd core 0x08 (fun k => k.map1 (fun a => fp32.div (.fin false (2 ^ 149)) (fp32.value a)))
/-- VRSQRT: 1/√x. -/
def execVrsqrt (core : Nat) (s : State) := s.vectorCmd core 0x09 (fun k => k.map1 (fun a => rsqrt32 (fp32.value a)))
/-- VSPLAT: every lane is SS in the lane type. -/
def execVsplat (core : Nat) (s : State) :=
  s.vectorCmd core 0x0A (fun k => k.vd (ofLanes k.ty (List.replicate (laneN k.ty) k.ss)))

/-- A comparison of two lanes (R244): 0 equal, 1 less, 2 less or equal. -/
def cmpLane (ty c a b : Nat) : Bool :=
  if isFp ty then FV.cmp c (laneFv ty a) (laneFv ty b)
  else
    let x := laneInt ty a
    let y := laneInt ty b
    if c = 0 then decide (x = y) else if c = 1 then decide (x < y) else decide (x ≤ y)

/-- VCMP: all ones where the comparison holds. -/
def execVcmp (core : Nat) (s : State) :=
  s.vectorCmd core 0x0B (fun k => k.map2 (fun a b => if cmpLane k.ty (k.vimm % 4) a b then 2 ^ laneW k.ty - 1 else 0))

/-- VSEL: VA where VC's lane is not 0, else VB. -/
def execVsel (core : Nat) (s : State) :=
  s.vectorCmd core 0x0C (fun k => k.vd (ofLanes k.ty ((List.range (laneN k.ty)).map (fun i =>
    if lane k.ty k.vc i ≠ 0 then lane k.ty k.va i else lane k.ty k.vb i))))

/-- A lane of one layout converted to another (R241, R244): integers wrap to a narrower integer. -/
def convLane (ty out v : Nat) : Nat :=
  let x : FV := if isFp ty then laneFv ty v else fvOfInt (laneInt ty v)
  match out with
  | 0 => fp32.write x
  | 1 => bf16.write x
  | 5 => write8 e4m3 0x7E 0x7F x
  | 6 => write8 e5m2 0x7B 0x7E x
  | _ => if isFp ty then untoInt (laneW out) (fvToInt (laneW out) x) else untoInt (laneW out) (laneInt ty v)

/-- VCVT: where the destination has more lanes, one part of VD is written; where it has fewer, one part of VA is read. -/
def execVcvt (core : Nat) (s : State) :=
  s.vectorCmd core 0x0D (fun k =>
    let out := k.vimm % 16
    let part := k.vimm / 16 % 4
    let n := laneN k.ty
    let m := laneN out
    if m ≤ n then k.vd (ofLanes out ((List.range m).map (fun i => convLane k.ty out (lane k.ty k.va (part * m + i)))))
    else k.vd (ofLanes out ((List.range m).map (fun i =>
      if part * n ≤ i ∧ i < part * n + n then convLane k.ty out (lane k.ty k.va (i - part * n)) else lane out k.vdOld i))))

/-- A lane as the FP32 value of a reduction's result. -/
def laneAsFp32 (ty v : Nat) : Nat := fp32.write (laneFv ty v)

/-- VRSUM: the tree sum of VA in SS (R242). -/
def execVrsum (core : Nat) (s : State) :=
  s.vectorCmd core 0x0E (fun k =>
    let ls := lanes k.ty k.va
    let v := if isFp k.ty then treeFold (fun a b => fp32.add (fp32.value a) (fp32.value b)) 0 9 (ls.map (laneAsFp32 k.ty))
      else untoInt 64 (treeFold (· + ·) 0 9 (ls.map (laneInt k.ty)))
    ([], [k.toSS v]))

/-- The tree maximum or minimum of VA. -/
def SlotCtx.extreme (k : SlotCtx) (larger : Bool) : SlotRes :=
  let m := treeFold (pickLane larger k.ty) 0 9 (lanes k.ty k.va)
  ([], [k.toSS (if isFp k.ty then laneAsFp32 k.ty m else untoInt 64 (laneInt k.ty m))])

/-- VRMAX. -/
def execVrmax (core : Nat) (s : State) := s.vectorCmd core 0x0F (fun k => k.extreme true)
/-- VRMIN. -/
def execVrmin (core : Nat) (s : State) := s.vectorCmd core 0x10 (fun k => k.extreme false)

/-- Row i of a tile as 128 lanes of 32 bits. -/
def tileRow (t : Tile) (i : Nat) : Nat := ofLanes 2 ((List.range 128).map (fun j => tget 0 t.el (128 * i + j)))

/-- The tile with row i written. -/
def setTileRow (t : Tile) (i v : Nat) : Tile :=
  { t with el := (List.range 128).foldl (fun m j => tset 0 m (128 * i + j) (lane 2 v j)) t.el }

/-- The residue of a tile fails as it leaves the accumulator (R229): the record completes with WITHDRAWN, and the safety
controller isolates the core. -/
def State.residueFail (s : State) (core : Nat) : State :=
  match tfind s.enc.runs (core / 8) with
  | none => s
  | some r => ((s.tallyP .ENC_RESIDUE_FAIL r.r.part).react 4 .core core 0 1 r.r.id.seq).failRun (core / 8) r 2

/-- The core's next slot is an operation of a kind and is not held up: the tile leaves now. -/
def State.tileLeaves (s : State) (core kind op : Nat) : Bool :=
  match tfind s.enc.runs (core / 8) with
  | none => false
  | some r =>
    let n := s.core core
    match (s.modelMem r.r.model).prog[n.pc]? with
    | none => false
    | some b => match nextSlot b n.slot with
      | none => false
      | some i =>
        let k : SlotCtx := { c := core, r := r, n := n, x := slotBits b i, free := 0 }
        bundleOk b && decide (slotKind i = kind ∧ opOf k.x = op) && !s.slotWaits k kind && !n.halted && !n.atBar && !s.coreIso core

/-- VTRD: VD := a row of a tile, in the tile's type. -/
def execVtrd (core : Nat) (residueOk : Bool) (s : State) :=
  nodeEvt s (fun s =>
    if s.tileLeaves core 1 0x11 && !residueOk then s.residueFail core
    else s.runSlot core 1 0x11 (fun k => k.vd (tileRow (k.n.tile (k.vimm / 256 % 4)) (k.vimm % 64))))

/-- VTWR: a row of a tile := VA, which retags the tile with TYPE. -/
def execVtwr (core : Nat) (s : State) :=
  s.vectorCmd core 0x12 (fun k =>
    let t := k.vimm / 256 % 4
    ([], [.tile t { setTileRow (k.n.tile t) (k.vimm % 64) k.va with fp := decide (k.ty = 0) }]))

/-- QMM (R254). -/
def execQmm (core : Nat) (s : State) :=
  s.vectorCmd core 0x13 (fun k =>
    let r := qmm k.ss (lanes 0 k.va)
    ([], k.toSS r.1 :: (if r.2 then [.nan] else [])))

/-- QCVT (R254): codes in quarter IMM[1:0] of VD; clipped lanes and 128 elements are counted. -/
def execQcvt (core : Nat) (s : State) :=
  s.vectorCmd core 0x14 (fun k =>
    let cs := ((lanes 0 k.va).zipIdx).map (fun x => qcode k.ss x.1 (bits k.free (16 * x.2) 16))
    let part := k.vimm % 4
    let v := ofLanes 4 ((List.range 512).map (fun i =>
      if 128 * part ≤ i ∧ i < 128 * part + 128 then
        (match cs[i - 128 * part]? with | some c => untoInt 8 c.1 | none => 0)
      else lane 4 k.vdOld i))
    ([], [.vreg (bits k.x 12 5) v, .sat (cs.countP (fun c => c.2.1)) 128] ++ (if cs.any (fun c => c.2.2) then [.nan] else [])))

/-- An integer times two floating-point values, rounded once (R255). -/
def scaleInt (i : Int) (a b : FV) : Nat :=
  match a, b with
  | .fin x n, .fin y m => fp32.pack ((decide (i < 0)) != (x != y)) (i.natAbs * n * m) (2 ^ 298)
  | _, _ =>
    match a, b with
    | .nan, _ => fp32.qnan
    | _, .nan => fp32.qnan
    | .fin _ n, _ => if n = 0 ∨ i = 0 then fp32.qnan else fp32.inf (decide (i < 0) != (fp32.mul a b).testBit 31)
    | _, .fin _ m => if m = 0 ∨ i = 0 then fp32.qnan else fp32.inf (decide (i < 0) != (fp32.mul a b).testBit 31)
    | _, _ => if i = 0 then fp32.qnan else fp32.inf (decide (i < 0) != (fp32.mul a b).testBit 31)

/-- QDQ (R255): (VA − z × VB) × scale × VC per lane, rounded once. -/
def execQdq (core : Nat) (s : State) :=
  s.vectorCmd core 0x15 (fun k =>
    let z := sext 8 (bits k.ss 32 8)
    k.vd (ofLanes 0 ((List.range 128).map (fun j =>
      scaleInt (laneInt 2 (lane 2 k.va j) - z * laneInt 2 (lane 2 k.vb j)) (f32w k.ss) (fp32.value (lane 0 k.vc j))))))
where
  /-- The scale of QPAR's layout. -/
  f32w (v : Nat) : FV := fp32.value (bits v 0 32)

end Sys2Proof.Machine
end

