-- ==== Sys2Proof/Machine/NyMatrix.lean ====
section
/-! DEFINITION. The matrix slot and the weight expander (R245, R246, R248, R263 to R269). -/

namespace Sys2Proof.Machine

open Sys2Proof

/-! ### The expander -/

/-- A segment of a layer of a model, if it holds it. -/
def State.segment (s : State) (i layer seg : Nat) : Option WSeg := ((s.modelMem i).layers[layer]?).bind (fun l => l[seg]?)

/-- The exceptions of a built delta segment: row, column, weight (R265). -/
def deltaExceptions (g : WSeg) : List (Nat × Nat × Nat) :=
  let at_ := 16 + 68 * leNat g.bytes 4 4
  (List.range (leNat g.bytes 0 4)).map (fun n =>
    let e := leNat g.bytes (at_ + 4 * n) 4
    (bits e 0 12, bits e 12 7, bits e 19 8))

/-- The codebook entry that a block weight's code selects (R265). -/
def deltaCode (g : WSeg) (w : Nat) : Int :=
  let blk := 16 + 68 * (w / 256)
  let code := bits (leNat g.bytes (blk + 4 + w % 256 / 4) 1) (2 * (w % 4)) 2
  sext 8 (leNat g.bytes (blk + code) 1)

/-- The stored weight w of a segment, by its type's size. -/
def plainWeight (g : WSeg) (w : Nat) : Nat := leNat g.bytes (w * elemSize g.ty) (elemSize g.ty)

/-- The expanded weight w of a segment in stream order (R264 to R268): its pattern in the stored type. -/
def expandWeight (form : Nat) (g : WSeg) (base : Option WSeg) (exc : List (Nat × Nat × Nat)) (w : Nat) : Nat :=
  if form = 1 then
    match exc.find? (fun e => decide (e.1 = w / 128 ∧ e.2.1 = w % 128)) with
    | some e => e.2.2
    | none => untoInt 8 (clamp8 (sext 8 (match base with | some b => plainWeight b w | none => 0) + deltaCode g w))
  else if form = 2 then
    let d := leNat g.bytes 0 1
    leNat g.bytes (16 + d * leNat g.bytes (16 + 256 * d + w / d) 1 + w % d) 1
  else plainWeight g w

/-- Rows of a span that carry more than 4 exceptions (R266). -/
def slowRows (exc : List (Nat × Nat × Nat)) (row k : Nat) : Nat :=
  (List.range k).countP (fun i => decide (4 < exc.countP (fun e => decide (e.1 = row + i))))

/-! ### MMA -/

/-- An operand's value by TYPE: FP8 E4M3, FP8 E5M2 or BF16. -/
def operandFv (ty v : Nat) : FV := if ty = 1 then e4m3Value v else if ty = 2 then e5m2.value v else bf16.value v

/-- An int8 element's sum over k, in order; none once it leaves the int32 range (R246). -/
def sumInt : List (Nat × Nat) → Int → Option Int
  | [], acc => some acc
  | (a, b) :: r, acc =>
    let t := acc + sext 8 a * sext 8 b
    if t < -2 ^ 31 ∨ 2 ^ 31 ≤ t then none else sumInt r t

/-- An FP8 or BF16 element's sum over k, in order, rounded to FP32 after each addition. -/
def sumFp (ty : Nat) (ps : List (Nat × Nat)) (acc : Nat) : Nat :=
  ps.foldl (fun acc p => fp32.fma (operandFv ty p.1) (operandFv ty p.2) (fp32.value acc)) acc

/-- Element (i, j) after an MMA, from the products' operands and the element before; none on an overflow. -/
def mmaElem (ty : Nat) (ps : List (Nat × Nat)) (old : Nat) : Option Nat :=
  if ty = 0 then (sumInt ps (sext 32 old)).map (untoInt 32) else some (sumFp ty ps old)

/-- The tile before an MMA accumulates: cleared and tagged where ZERO is set. -/
def mmaTile (k : SlotCtx) : Tile :=
  if bit k.x 14 then Tile.zero (decide (bits k.x 8 4 ≠ 0)) else k.n.tile (bits k.x 12 2)

/-- What an MMA on a segment does: the causes and the writes. -/
def mmaOn (k : SlotCtx) (form : Nat) (h : WHandle) (g : WSeg) (base : Option WSeg) : SlotRes :=
  let ty := bits k.x 8 4
  let kk := mK k.x
  let size := elemSize ty
  let t := mmaTile k
  let stream := decide (g.k < h.row + kk) || (if form = 1 ∨ form = 2 then decide (ty ≠ 0) else decide (g.ty ≠ ty))
  let tag := decide (t.fp ≠ decide (ty ≠ 0))
  let early := (if tag then [1] else []) ++ (if stream then [4] else []) ++ rangeCauses k.n (scratchOf 2 k.n k.x)
  if !early.isEmpty then (early, [])
  else
    let exc := if form = 1 then deltaExceptions g else []
    let b (q j : Nat) : Nat := expandWeight form g base exc (128 * (h.row + q) + j)
    let a (i : Nat) : List Byte := k.n.load (rowAddr k.n k.x i) (kk * size)
    let pairs (row : List Byte) (j : Nat) : List (Nat × Nat) := (List.range kk).map (fun q => (leNat row (q * size) size, b q j))
    let els := (List.range (mRows k.x)).map (fun i =>
      let row := a i
      (List.range 128).map (fun j => (128 * i + j, mmaElem ty (pairs row j) (tget 0 t.el (128 * i + j)))))
    if els.any (fun r => r.any (fun e => e.2.isNone)) then ([3], [])
    else
      let el := els.flatten.foldl (fun m e => tset 0 m e.1 (e.2.getD 0)) t.el
      ([], [.tile (bits k.x 12 2) { t with el := el }, .handle (bits k.x 28 2) (some { h with row := h.row + kk }),
        .delays (slowRows exc h.row kk)])

/-- MMA (R246): STREAM on a closed handle or one whose segment the model lacks. -/
def execMma (core : Nat) (s : State) :=
  s.slotCmd core 2 1 (fun k =>
    let i := k.r.r.model
    match tfind k.n.h (bits k.x 28 2) with
    | none => ([4] ++ rangeCauses k.n (scratchOf 2 k.n k.x), [])
    | some h =>
      match s.segment i h.layer h.seg with
      | none => ([4], [])
      | some g => mmaOn k (s.get (Reg.ENC_MODEL_FORM i)) h g ((s.baseEntry i).bind (fun b => s.segment b h.layer h.seg)))

/-- TCLR: zero TILE, tagged int32 by TYPE 0 and FP32 by any other. -/
def execTclr (core : Nat) (s : State) :=
  s.slotCmd core 2 2 (fun k => ([], [.tile (bits k.x 12 2) (Tile.zero (decide (bits k.x 8 4 ≠ 0)))]))

/-- TST: ROWS rows of a tile to scratch, 512 bytes each. -/
def execTst (core : Nat) (residueOk : Bool) (s : State) :=
  nodeEvt s (fun s =>
    if s.tileLeaves core 2 3 && !residueOk then s.residueFail core
    else s.runSlot core 2 3 (fun k =>
      scratchSlot 2 k [] ((List.range (mRows k.x)).map (fun i =>
        .scratch (rowAddr k.n k.x i) (natLe 512 (tileRow (k.n.tile (bits k.x 12 2)) i))))))

end Sys2Proof.Machine
end

