-- ==== Sys2Proof/Machine/FirstPass.lean ====
section
/-! DEFINITION. The first pass over a model's weights (R263, R265 to R272): deltas, codebooks, decryption, column sums and
the digest. -/

namespace Sys2Proof.Machine

open Sys2Proof

/-- The index below n of least cost, ties to the lower. -/
def argMin (cost : Nat → Nat) : Nat → Nat
  | 0 => 0
  | n + 1 => let m := argMin cost n; if cost n < cost m then n else m

/-- The absolute value. -/
def absInt (i : Int) : Nat := i.natAbs

/-- The lower median of a list that is not empty (R267). -/
def lowerMedian (l : List Int) : Int := (sortBy (fun a b => decide (a ≤ b)) l).getD ((l.length - 1) / 2) 0

/-- One round over a block's codebook (R267). -/
def medianRound (ds : List Int) (c : List Int) : List Int :=
  let code (d : Int) : Nat := argMin (fun j => absInt (d - c.getD j 0)) 4
  (List.range 4).map (fun j =>
    let sj := ds.filter (fun d => decide (code d = j))
    if sj.isEmpty then c.getD j 0 else clamp8 (lowerMedian sj))

/-- A built block (R265, R267): its 68 bytes and its exceptions. -/
def buildBlock (tol row : Nat) (ws bs : List Int) : List Byte × List Nat :=
  let ds := List.zipWith (· - ·) ws bs
  let sorted := sortBy (fun a b => decide (a ≤ b)) ds
  let c := medianRound ds (medianRound ds ((List.range 4).map (fun j => clamp8 (sorted.getD (64 * j + 32) 0))))
  let pick := (List.range 256).map (fun i =>
    let w := ws.getD i 0
    let err (j : Nat) : Nat := absInt (w - clamp8 (bs.getD i 0 + c.getD j 0))
    let j := argMin err 4
    if tol < err j then (0, some (untoInt 8 w * 2 ^ 19 + i % 128 * 2 ^ 12 + (row + i / 128))) else (j, none))
  let code (i : Nat) : Nat := (pick.getD i (0, none)).1
  (c.map (fun v => BitVec.ofInt 8 v) ++
      (List.range 64).map (fun n => BitVec.ofNat 8 (code (4 * n) + 4 * code (4 * n + 1) + 16 * code (4 * n + 2) + 64 * code (4 * n + 3))),
    pick.filterMap (·.2))

/-- The int8 values of stored bytes. -/
def int8s (b : List Byte) : List Int := b.map BitVec.toInt

/-- A built delta segment (R265, R267). -/
def buildDelta (tol k : Nat) (src base : List Byte) : List Byte :=
  let ws := int8s src
  let bs := int8s base
  let blocks := k * 128 / 256
  let built := (List.range blocks).map (fun b => buildBlock tol (2 * b) ((ws.drop (256 * b)).take 256) ((bs.drop (256 * b)).take 256))
  let exc := (built.map (·.2)).flatten
  natLe 4 exc.length ++ natLe 4 blocks ++ natLe 8 0 ++ (built.map (·.1)).flatten ++ (exc.map (natLe 4)).flatten

/-- The squared distance of two vectors. -/
def dist2 (a b : List Int) : Nat := ((List.zipWith (fun x y => (x - y) * (x - y)) a b).sum).toNat

/-- The codebook entry nearest to a vector, ties to the lower (R269). -/
def vqCode (e : List (List Int)) (x : List Int) : Nat := argMin (fun i => dist2 x (e.getD i [])) 256

/-- One round over a segment's codebook (R269). -/
def vqRound (dim : Nat) (xs e : List (List Int)) : List (List Int) :=
  let codes := xs.map (vqCode e)
  (List.range 256).map (fun i =>
    let mine := ((xs.zip codes).filter (fun p => decide (p.2 = i))).map (·.1)
    if mine.isEmpty then e.getD i []
    else (List.range dim).map (fun j =>
      let t : Int := (mine.map (fun x => x.getD j 0)).sum
      clamp8 (rneRatio (decide (t < 0)) t.natAbs mine.length)))

/-- Rounds of the codebook. -/
def vqRounds (dim : Nat) (xs : List (List Int)) : Nat → List (List Int) → List (List Int)
  | 0, e => e
  | n + 1, e => vqRounds dim xs n (vqRound dim xs e)

/-- A built vector-quantised segment (R268, R269). -/
def buildVq (dim rounds k : Nat) (src : List Byte) : List Byte :=
  let n := k * 128 / dim
  let ws := int8s src
  let xs := (List.range n).map (fun i => (ws.drop (i * dim)).take dim)
  let e := vqRounds dim xs rounds ((List.range 256).map (fun i => xs.getD (i * n / 256) []))
  natLe 4 dim ++ natLe 12 0 ++ ((e.map (fun v => v.map (fun x => BitVec.ofInt 8 x))).flatten) ++
    xs.map (fun x => BitVec.ofNat 8 (vqCode e x))

/-- The constants of a built segment (R263): the column scales and, for int8 weights, the exact column sums. -/
def segConsts (form : Nat) (g : WSeg) (base : Option WSeg) (scales : List Nat) : List Byte :=
  let exc := if form = 1 then deltaExceptions g else []
  let sum (j : Nat) : Int :=
    if g.ty = 0 then ((List.range g.k).map (fun q => sext 8 (expandWeight form g base exc (128 * q + j)))).sum else 0
  ((List.range 128).map (fun j => natLe 4 (scales.getD j 0))).flatten ++
    ((List.range 128).map (fun j => natLe 4 (untoInt 32 (sum j)))).flatten

/-- One built segment of a model: `off` is where its source stands behind WEIGHTS_ADDR (R272). -/
def State.buildSeg (s : State) (i off : Nat) (src : SegSrc) (base : Option WSeg) : WSeg :=
  let m := s.modelMem i
  let form := s.get (Reg.ENC_MODEL_FORM i)
  let bytes := match form with
    | 1 => buildDelta m.excTol src.k src.bytes ((base.map (·.bytes)).getD [])
    | 2 => buildVq m.vqDim m.vqRounds src.k src.bytes
    | 3 => Config.sm4Xts (tget [] s.cfg.keySlots m.keySlot) off src.bytes
    | _ => src.bytes
  let g : WSeg := { k := src.k, ty := if form = 1 ∨ form = 2 then 0 else src.ty, bytes := bytes, consts := [] }
  { g with consts := segConsts form g base src.scales }

/-- Build a layer's segments from offset off. -/
def State.buildLayer (s : State) (i layer : Nat) (off : Nat) (segs : List SegSrc) : List WSeg :=
  (segs.zipIdx.foldl (fun (x : List WSeg × Nat) g =>
    (x.1 ++ [s.buildSeg i x.2 g.1 ((s.baseEntry i).bind (fun b => s.segment b layer g.2))], x.2 + g.1.bytes.length)) ([], off)).1

/-- Build every layer; the weights follow the 64-byte weight header (R270). -/
def State.buildModel (s : State) (i : Nat) (layers : List (List SegSrc)) : List (List WSeg) :=
  (layers.zipIdx.foldl (fun (x : List (List WSeg) × Nat) l =>
    (x.1 ++ [s.buildLayer i l.2 x.2 l.1], x.2 + (l.1.map (fun g => g.bytes.length)).sum)) ([], 64)).1

/-- The shapes of a delta and its base agree, and the base is int8 (R264, R271). -/
def State.shapesAgree (s : State) (i : Nat) (layers : List (List SegSrc)) : Bool :=
  if s.get (Reg.ENC_MODEL_FORM i) ≠ 1 then true
  else match s.baseEntry i with
    | none => false
    | some b =>
      let bl := (s.modelMem b).layers
      decide (bl.map (fun l => l.map (·.k)) = layers.map (fun l => l.map (·.k))) && bl.all (fun l => l.all (fun g => decide (g.ty = 0)))

/-- The base of a delta has not had its own first pass yet. -/
def State.baseWaits (s : State) (i : Nat) : Bool :=
  match s.baseEntry i with
  | some b => !(s.modelMem b).passDone && decide (s.get (Reg.ENC_MODEL_STATE b) ≠ 4)
  | none => false

/-- FIRST_PASS_DONE (R270, R271): the pass over a pending model's source has ended: the built form is placed, or the model
becomes unavailable. -/
def execFirstPassDone (model : Nat) (src : PassSrc) (s : State) :=
  nodeEvt s (fun s =>
    let st := s.get (Reg.ENC_MODEL_STATE model)
    if 256 ≤ model ∨ (st ≠ 1 ∧ st ≠ 2 ∧ st ≠ 4) ∨ (s.modelMem model).passDone = true ∨ (s.modelMem model).failed = true ∨ s.baseWaits model = true then s
    else
      let p := s.modelPart model
      let built := s.buildModel model src.layers
      let digest := (Config.sm3 ((src.prog.map (natLe 128)).flatten ++ (built.flatten.map (·.bytes)).flatten)).toNat
      if src.readable && src.fits && s.shapesAgree model src.layers && decide (digest = s.get (Reg.ENC_MODEL_DIGEST model)) then
        (s.modModel model (fun m => { m with prog := src.prog, layers := built, passDone := true })).tallyP .QNT_BUILDS p
      else (s.spoiled model).tallyP .QNT_BUILD_FAILS p)

/-- Models whose first pass withholds STEP_DONE(t): it has not finished by the commit before their first step (R271). -/
def State.passHolds (s : State) (t : Nat) : List Nat :=
  (List.range 256).filter (fun i => decide (s.get (Reg.ENC_MODEL_STATE i) = 1 ∧ s.get (Reg.ENC_MODEL_STEP_EFFECTIVE i) = t + 1) &&
    s.runsModel i && !(s.modelMem i).passDone)

/-! ### Membership and chains (R233) -/

/-- Start a record again on the chain in force, unless it is past the horizon of step t or has none (R42, R233). -/
def State.restartChain (s : State) (t : Nat) (r : EncRun) : State :=
  let s := s.dropRun r.r.id r.r.pos
  if s.get (Reg.ENC_MODEL_STATE r.r.model) = 4 ∨ s.chainDown r.r.model = true then s.endRecord r.r 10 (outBytes 10 (leNat r.input 0 8) 0 0 0 []) 0 0 []
  else if r.r.id.step + 16 ≤ t then
    let s := s.modEnc fun e => { e with jobs := lmod (fun j => decide (j.id = r.r.id)) (fun j => { j with status := worse j.status 7 }) e.jobs }
    s.endRecord r.r 7 (outBytes 10 (leNat r.input 0 8) 0 0 0 []) 0 0 []
  else s.sendChain (runOf r.r s.me 0 r.input r.pooled)

/-- A chained model after the exclusion of a node that takes effect at step t: it switches to its ALT_CHAIN, or becomes
unavailable; its records start again or fail. -/
def State.chainLost (s : State) (n t i : Nat) : State :=
  if s.get (Reg.ENC_MODEL_STATE i) = 0 ∨ s.chained i = false ∨ (s.chainOf i).contains n = false then s
  else
    let p := s.modelPart i
    let alt := !(s.modelMem i).onAlt && s.chainUp i true
    let s := if alt then
        ((((s.modModel i (fun m => { m with onAlt := true })).tallyP .ENC_CHAIN_SWITCHES p).setB Reg.ENC_STATUS_CHAIN_EVT true).event p 3)
      else if s.get (Reg.ENC_MODEL_STATE i) = 2 ∨ s.get (Reg.ENC_MODEL_STATE i) = 1 then s.unavailable i else s
    let here := (s.enc.runs.map (·.2) ++ s.enc.arrived).filter (fun r => decide (r.r.model = i))
    let s := here.foldl (fun (s : State) r => s.dropRun r.r.id r.r.pos) s
    (s.enc.sent.filter (fun r => decide (r.r.model = i))).foldl (fun (s : State) r => s.restartChain t r) s

/-- What the encoder does when node n's exclusion takes effect at step t: records it admitted are dropped, and the models
whose chain held it switch (R233). -/
def State.encExcluded (s : State) (n t : Nat) : State :=
  let gone := (s.enc.runs.map (·.2) ++ s.enc.arrived).filter (fun r => decide (r.home = n))
  let s := gone.foldl (fun (s : State) r => s.dropRun r.r.id r.r.pos) s
  (List.range 256).foldl (fun (s : State) i => s.chainLost n t i) s

/-- A chained model whose chain is wholly member again serves, or is pending again (R233). -/
def State.chainBack (s : State) (i : Nat) (alt : Bool) : State :=
  let m := s.modelMem i
  let ready := decide (s.get (Reg.ENC_MODEL_STEP_EFFECTIVE i) ≤ s.openStep) && (m.passDone || !s.runsModel i)
  ((s.modModel i (fun m => { m with onAlt := alt })).set (Reg.ENC_MODEL_STATE i) (if ready then 2 else 1)).showUnavail (s.modelPart i)

/-- A member has joined: a chained model whose chain is wholly member again serves (R233). -/
def State.encJoined (s : State) : State :=
  (List.range 256).foldl (fun (s : State) i =>
    if s.get (Reg.ENC_MODEL_STATE i) = 4 ∧ s.chained i = true ∧ (s.modelMem i).failed = false then
      if s.chainUp i false then s.chainBack i false
      else if s.chainUp i true then s.chainBack i true
      else s
    else s) s

/-! ### Statistics records (R259) -/

/-- A statistics record. -/
def State.statsRecord (s : State) (i seq : Nat) (ss : List StepStats) : List Byte :=
  let layers := s.get (Reg.ENC_MODEL_LAYERS i)
  let size := 64 + 64 * cdiv layers 16
  let mx (l : Nat) : Nat := (ss.map (fun x => tget 0 x.maxAbs l)).foldl max 0
  let sumOf (f : StepStats → Nat) : Nat := (ss.map f).sum
  sealCrc (record size ([(0, 8, (ss.head?.map (·.step)).getD 0), (8, 8, (ss.getLast?.map (·.step)).getD 0),
    (16, 4, s.get (Reg.ENC_MODEL_MODEL_ID i)), (20, 2, s.me), (22, 1, layers), (23, 1, b2n (ss.any (·.satEvt))),
    (24, 8, sumOf (·.records)), (32, 8, sumOf (·.quant)), (40, 8, sumOf (·.clipped)), (48, 8, seq)] ++
    (List.range layers).map (fun l => (64 + 4 * l, 4, mx l)))) 56

/-- Every byte of a span lies in ranges of partition p (R259). -/
def State.spanHeld (s : State) (p lo hi : Nat) : Nat → Bool
  | 0 => decide (hi ≤ lo)
  | fuel + 1 =>
    if hi ≤ lo then true
    else match s.rangeOf lo with
      | none => false
      | some i => decide (s.get (Reg.HOME_RANGE_PARTITION i) = p) &&
          s.spanHeld p (s.get (Reg.HOME_RANGE_BASE i) + s.get (Reg.HOME_RANGE_LENGTH i)) hi fuel

/-- Write a model's statistics record once STATS_STEPS steps are complete on every node (R259): into slot
(SEQ − 1) mod STATS_SLOTS of this node's ring, unless the slot is outside the partition's ranges. -/
def State.writeStats (s : State) (i : Nat) : Nat → State
  | 0 => s
  | fuel + 1 =>
    let m := s.modelMem i
    let q0 := tget QStats.none s.enc.stats i
    -- a step in which no record ran here is not one of the steps counted
    let q := { q0 with steps := q0.steps.filter (fun x => x.ran || decide (s.oldestWork ≤ x.step)) }
    let n := max 1 m.statsSteps
    let ss := q.steps.take n
    if q.steps.length < n ∨ (ss.any (fun x => decide (s.oldestWork ≤ x.step))) = true then s
    else
      let seq := q.seq + 1
      let b := s.statsRecord i seq ss
      let a := m.statsAddr + (s.me * m.statsSlots + (seq - 1) % max 1 m.statsSlots) * b.length
      let s := s.modEnc fun e => { e with stats := tset QStats.none e.stats i { steps := q.steps.drop n, seq := seq } }
      let p := s.modelPart i
      let s := if m.statsAddr = 0 then s
        else if s.spanHeld p a (a + b.length) 4096 then s.writeSpan a b 0
        else s.tallyP .QNT_STATS_DROPPED p
      s.writeStats i fuel

/-- What a commit does in the encoder: saturation tests of closed steps, and statistics records. -/
def State.encCommit (s : State) : State :=
  let s := s.satTest
  (s.enc.stats.map (fun e => (e.1, e.2.steps.length + 1))).foldl (fun (s : State) e => s.writeStats e.1 e.2) s

end Sys2Proof.Machine
end

