-- ==== Sys2Proof/Machine/Readout.lean ====
section
/-! DEFINITION. The layout of the control window (R401, R461): the register that holds an offset, and the tally directory. -/

namespace Sys2Proof.Machine

open Sys2Proof

/-- The indices of a register or table entry that holds a byte offset, none when it does not. -/
def regLocate (d : RegDesc) (a : Nat) : Option (Nat × Nat) :=
  if a < d.off then none
  else
    let r := a - d.off
    match d.dims with
    | [] => if r < d.bytes then some (0, 0) else none
    | [(s1, n1)] => if r / s1 < n1 ∧ r % s1 < d.bytes then some (r / s1, 0) else none
    | (s1, n1) :: (s2, n2) :: _ =>
      if r / s1 < n1 ∧ r % s1 / s2 < n2 ∧ r % s1 % s2 < d.bytes then some (r / s1, r % s1 / s2) else none

/-- The register that holds a byte offset, with its indices. -/
def regFind (a : Nat) : Option (RegDesc × Nat × Nat) :=
  Reg.map.findSome? (fun d => (regLocate d a).map (fun i => (d, i.1, i.2)))

/-- The place of a field in the window, without the copy of its partition (assumption 3). -/
def fldPlace (f : Fld) : Nat := f.bit % 2 ^ 32

/-- The names of the node-wide tallies in index order, part 0. -/
def ntallyNames0 : List String :=
  ["STEP_HORIZON_STALLS", "STEP_HORIZON_TICKS", "STEP_PDS_STALLS", "STEP_MEMB_STALL_TICKS", "STEP_BAD_MSG",
   "MEMB_SUSPECTS", "MEMB_EXCLUSIONS", "MEMB_NO_QUORUM", "MEMB_DISCARDED", "MEMB_REJOINS", "NBU_HOST_YIELDS",
   "NBU_HOST_RUN_GRANTS", "NBU_REFRESH_YIELDS", "NBU_GOV_HOLDS", "NBU_DSC_FAIL", "NBU_TAIL_FAIL",
   "NBU_GATHER_RESIDUE_FAIL", "NBU_FALLBACK_SEGMENTS", "NBU_ISOLATIONS", "NBU_MIRROR_PASSES", "STK_CORRECTED",
   "STK_ERASURE_DECODES", "STK_UNCORRECTABLE", "STK_RECOVERED_FLASH", "STK_RECOVERED_PARITY", "STK_RECOVERED_MIRROR",
   "STK_WITHDRAWN", "STK_FAILED", "STK_VIA_REPAIRS", "STK_ROW_REPAIRS", "STK_CHANNEL_FAILS", "STK_STRIPE_WAITS",
   "STK_HOT_TICKS", "GRAN_READS", "GRAN_RETRIES", "GRAN_SOFT_READS", "GRAN_UNCORRECTABLE", "GRAN_PARITY_RECOVERED",
   "GRAN_PROG_FAILS", "GRAN_ERASE_FAILS"]

/-- The names of the node-wide tallies in index order, part 1. -/
def ntallyNames1 : List String :=
  ["GRAN_BLOCKS_RETIRED", "GRAN_GC_UNITS", "GRAN_RETAIN_MOVES", "GRAN_FLUSH_STALLS", "GRAN_CKPT_SEGMENTS",
   "SHM_WRITEBACKS", "SHM_MISSES", "CXP_UNBOUND", "CXP_BAD_ACCESS", "CXP_IDE_FAIL", "OVL_FEC_CORRECTED",
   "OVL_FEC_UNCORRECTABLE", "OVL_CRC_FAIL", "OVL_REPLAYS", "OVL_RETRAINS", "OVL_LINK_FAILS", "OVL_MISWIRED",
   "OVL_BAD_MSG", "OVL_REROUTES", "OVL_UNROUTABLE", "OVL_DUPLICATES", "OVL_E2E_CRC", "OVL_E2E_RESENDS",
   "SAFE_REACTIONS", "SAFE_WITHHELD", "SAFE_LATENT", "SAFE_ISOLATIONS", "SAFE_READMITS", "SAFE_TEST_CYCLES",
   "SAFE_WDOG_EXPIRIES", "SAFE_CODEWORD_FAULTS", "SAFE_RERUNS", "DBG_FREEZES", "DBG_FREEZE_TICKS"]

/-- The names of the node-wide tallies in index order (R401). -/
def ntallyNames : List String := ntallyNames0 ++ ntallyNames1

/-- The names of a partition's tallies in index order, part 0. -/
def ptallyNames0 : List String :=
  ["COLL_ROUTE_CLAMP", "COLL_ROUTE_MAXEXP", "COLL_TOMB_DEPTH", "COLL_SPLITS", "COLL_MERGES", "COLL_COMPACTIONS",
   "COLL_REBUILDS", "COLL_UPKEEP_STALLS", "COLL_SPLIT_SUPPRESSED", "COLL_FILTER_LOADS", "QRY_ADMITTED",
   "QRY_PARTIAL", "QRY_DEGRADED", "QRY_WITHDRAWN", "QRY_FAILED", "QRY_HORIZON", "QRY_BAD_DESC", "QRY_UNKNOWN_COLL",
   "QRY_REFUSED", "QRY_UNDELIVERED", "QRY_INVALID_SCORE", "INT_BAD_DOORBELL", "INT_DISCARDED", "INT_RING_WAIT_TICKS",
   "GLN_CACHE_HITS", "GLN_FLASH_READS", "GLN_MIRROR_READS", "WIN_SLOT_DUPS", "WIN_RECORD_DUPS", "WIN_REFILLS",
   "WIN_RERUN_DISCARDED", "WIN_RESERVE_WAIT_TICKS", "WIN_COMPARE_FAIL", "MUT_COMMITTED", "MUT_READS", "MUT_DEGRADED",
   "MUT_WITHDRAWN", "MUT_DIGEST_MISMATCH", "MUT_NO_CAPACITY", "MUT_FAILED"]

/-- The names of a partition's tallies in index order, part 1. -/
def ptallyNames1 : List String :=
  ["MUT_CREDIT_WAIT_TICKS", "MUT_RENEWED", "ENC_RECORDS", "ENC_RECORD_BAD", "ENC_ADMIT_WAIT_TICKS",
   "ENC_STALL_DRAM_TICKS", "ENC_STALL_LOFT_TICKS", "ENC_STALL_CHAIN_TICKS", "ENC_EVICTIONS", "ENC_CHAIN_SWITCHES",
   "ENC_RESIDUE_FAIL", "ENC_PROG_FAULTS", "QNT_QUANT_ELEMS", "QNT_SAT_ELEMS", "QNT_SAT_EVENTS", "QNT_STATS_DROPPED",
   "QNT_EXC_DELAYS", "QNT_BUILDS", "QNT_BUILD_FAILS", "QNT_BUILD_STALLS", "EMB_LOOKUPS", "EMB_TERMS",
   "EMB_GRAD_RECORDS", "EMB_GRAD_SAT", "EMB_GRAD_NAN", "EMB_GRAD_DISCARDED", "EMB_ROW_CLAMP", "EMB_APPLY_MISMATCH",
   "EMB_UNDO_STALLS", "EMB_LOAD_STALLS", "EMB_MIGRATIONS", "EMB_MIG_SUPPRESSED", "EMB_FORWARDED",
   "EMB_MIG_WAIT_TICKS", "SHM_REFUSED", "SHM_HOME_LOST", "SHM_HOST_LOST", "SHM_BI_LATE", "SHM_LINES_LOST",
   "SHM_UC_LINES"]

/-- The names of a partition's tallies in index order, part 2. -/
def ptallyNames2 : List String :=
  ["SHM_HOLD_WAIT_TICKS", "SHM_PUBLISHED", "SHM_CONFLICTS", "SHM_PUB_FAILED", "SHM_HINT_IGNORED", "SHM_SWAP_PAGES",
   "CXP_FOREIGN", "CXP_RSVD_WRITES", "CXP_NO_IDE", "CXP_RESETS", "SYNC_OPS", "SYNC_REFUSED", "SYNC_SATURATED",
   "SYNC_CANCELLED", "SYNC_REPLY_FAIL", "OVL_SHAPE_HOLD_TICKS", "SHP_ADMITTED", "SHP_CREDIT_WAIT_TICKS",
   "SHP_GATE_WAIT_TICKS", "SHP_PORT_HOLD_TICKS", "SHP_QUOTA_REFUSED"]

/-- The names of a partition's tallies in index order (R401). -/
def ptallyNames : List String := ptallyNames0 ++ ptallyNames1 ++ ptallyNames2

/-- The bytes of a tally's name (R407). -/
def nameBytes (n : String) : List Byte := ((n.toList.map (fun (c : Char) => BitVec.ofNat 8 c.toNat)) ++ List.replicate 24 0).take 24

/-- An entry of the tally directory (R401, R407): the node-wide names, then the partitions'. -/
def tallyDir (j : Nat) : List Byte :=
  match ntallyNames[j]? with
  | some n => nameBytes n ++ natLe 1 1 ++ natLe 1 0 ++ natLe 2 j ++ natLe 4 0
  | none =>
    match ptallyNames[j - ntallyNames.length]? with
    | some n => nameBytes n ++ natLe 1 2 ++ natLe 1 0 ++ natLe 2 (j - ntallyNames.length) ++ natLe 4 0
    | none => natLe 32 0

end Sys2Proof.Machine
end

