-- ==== Sys2Proof/Machine/HostRegs.lean ====
section
/-! DEFINITION. Host writes to a tally, to an MSI-X table entry and to the event configuration of a partition
(R334, R345, R381, R400). -/

namespace Sys2Proof.Machine

open Sys2Proof

/-- The value of a field after a 32-bit word at a byte offset is written over the part of it that lies there. -/
def wordInto (f : Fld) (old a v : Nat) : Nat :=
  if 8 * a ≤ fldPlace f then
    let lo := fldPlace f - 8 * a
    if 32 ≤ lo then old
    else
      let w := min f.w (32 - lo)
      old / 2 ^ w * 2 ^ w + bits v lo w
  else
    let sh := 8 * a - fldPlace f
    if f.w ≤ sh then old
    else
      let w := min (f.w - sh) 32
      old % 2 ^ sh + bits v 0 w * 2 ^ sh + old / 2 ^ (sh + w) * 2 ^ (sh + w)

/-- Write a 32-bit word over the part of a field that lies in it. -/
def State.putWord (s : State) (a v : Nat) (f : Fld) : State := s.set f (wordInto f (s.get f) a v)

/-- The words of an aligned 4-byte or 8-byte write: offsets and values. -/
def writeWords (a bytes v : Nat) : List (Nat × Nat) := (List.range (bytes / 4)).map (fun k => (a + 4 * k, bits v (32 * k) 32))

/-- A write has a size and alignment that registers accept (R330). -/
def goodShape (a bytes : Nat) : Bool := decide ((bytes = 4 ∨ bytes = 8) ∧ a % bytes = 0)

/-- Clear a tally of a partition (R400); bits [62:48] of the word are reserved (R6). -/
def State.clearTally (s : State) (p i value : Nat) : State :=
  let s := s.when (decide (bits value 48 15 ≠ 0)) (fun t => t.tallyP .CXP_RSVD_WRITES p)
  (s.set (Reg.TALLY_PART_COUNT p i) 0).set (Reg.TALLY_PART_OVF p i) 0

/-- TALLY_CLEAR_WRITE (R400, R407): a partition clears its own tally; a write to a node-wide tally or to another partition's
is ignored and counted. -/
def execTallyClearWrite (h : HostReq) (p i value : Nat) (s : State) :=
  hostCmd s (.tallyClearWrite h p i value) (fun s => s.ownPage h p (fun s => if 512 ≤ i then s else s.clearTally p i value))

/-- Write an MSI-X table entry (R334, R345): an unmasked vector that is pending is sent. -/
def State.writeMsix (s : State) (p i off bytes v : Nat) : State :=
  if !goodShape off bytes || decide (16 < off + bytes) then s.tallyN .CXP_BAD_ACCESS
  else
    let a := 0x1820000 + 16 * i + off
    let ctrl := (writeWords a bytes v).find? (fun w => decide (w.1 = 0x1820000 + 16 * i + 12))
    let s := s.when (match ctrl with | some w => decide (w.2 / 2 ≠ 0) | none => false) (fun t => t.tallyP .CXP_RSVD_WRITES p)
    let s := (writeWords a bytes v).foldl (fun s w =>
      [Reg.CXP_MSIX_ADDR i, Reg.CXP_MSIX_DATA i, Reg.CXP_MSIX_MASK i].foldl (fun s f => s.putWord w.1 w.2 f) s) s
    let pba := s.get Reg.CXP_PBA
    if s.flag (Reg.CXP_MSIX_MASK i) = false ∧ bit pba i = true then (s.set Reg.CXP_PBA (pba - 2 ^ i)).raiseVec i else s

/-- MSIX_TABLE_WRITE (R334, R345): only hosts of the vector's partition write its entry. -/
def execMsixTableWrite (h : HostReq) (i off bytes value : Nat) (s : State) :=
  hostCmd s (.msixTableWrite h i off bytes value) (fun s =>
    match s.admitHost h with
    | .inr t => t
    | .inl p =>
      if 2048 ≤ i ∨ s.get (Reg.CXP_VEC_PARTITION i) ≠ p then s.tallyP .CXP_FOREIGN p else s.writeMsix p i off bytes value)

/-- Whether any event bit of a partition is 1. -/
def State.anyEvent (s : State) (p : Nat) : Bool := (List.range 14).any (fun k => s.flag (Reg.PART_EVT_STATUS p k))

/-- Write PART_EVT_CFG (R381): setting ENABLE while bits are 1 raises the vector once. -/
def State.writeEvtCfg (s : State) (p v : Nat) : State :=
  let was := s.flag (Reg.PART_EVT_CFG_ENABLE p)
  let s := s.when (decide (bits v 11 20 ≠ 0)) (fun t => t.tallyP .CXP_RSVD_WRITES p)
  let s := (s.setB (Reg.PART_EVT_CFG_ENABLE p) (bit v 31)).set (Reg.PART_EVT_CFG_VECTOR p) (bits v 0 11)
  if bit v 31 && !was && s.anyEvent p then s.raiseEvt p else s

/-- PART_EVT_CFG_WRITE (R381). -/
def execPartEvtCfgWrite (h : HostReq) (p value : Nat) (s : State) :=
  hostCmd s (.partEvtCfgWrite h p value) (fun s => s.ownPage h p (fun s => s.writeEvtCfg p value))

end Sys2Proof.Machine
end

