-- ==== Sys2Proof/Machine/Withhold.lean ====
section
/-! DEFINITION. Withholding results (R19, R387, R391, R392): what a reaction of the safety controller does to the results
in flight through a unit, and what NODE_FAULT does to everything the node still holds. -/

namespace Sys2Proof.Machine

open Sys2Proof

/-- The completion of an operation admitted here with a status and none of its results; a mutation's carries OUTCOME
UNKNOWN when the node can no longer vouch for it (R145, R392). -/
def State.abortOp (s : State) (a : Admitted) (status : Nat) : State :=
  let op := a.opcode
  if op = 1 then
    match a.query with
    | some q => s.endQuery a q status
    | none => s.completeAdm a status (statusSheaf status a.dlv.phase a.handle a.dlv.tag a.id.step a.dlv.user 0
        (s.get (Reg.COLL_DESC_SHARDS a.handle)) a.id.admitter a.id.seq)
  else if op = 2 ∨ op = 3 then
    s.completeAdm a status (filterRecord status a.dlv.phase a.handle a.dlv.tag a.id.step op (a.record % 256) (a.record / 256 % 65536)
      0 0 a.id.admitter a.id.seq)
  else if 0x10 ≤ op ∧ op ≤ 0x13 then s.completeMut a { MutOutcome.notApplied status with outcome := 8 }
  else if 0x20 ≤ op ∧ op ≤ 0x23 then
    s.completeAdm a status (embRecord status a.dlv.phase a.handle a.dlv.tag a.id.step a.dlv.user op a.items 0 0 0 a.id.admitter a.id.seq)
  else if op = 0x2C then
    s.completeAdm a status (encRecord status a.dlv.phase a.dlv.tag a.id.step a.dlv.user a.handle 0 a.items a.id.admitter a.id.seq)
  else s.completeShm a status 0 0

/-- Withhold one result in flight here (R387): a query's work is marked WITHDRAWN, a look-up's sums and an encoder job's
records likewise, a staged mutation is withheld, and any other operation admitted here completes with WITHDRAWN. -/
def State.withhold (s : State) (id : OpId) : State :=
  let busy := (s.work? id).isSome || (s.staged? id).isSome || s.emb.lookups.any (fun l => decide (l.id = id)) ||
    s.emb.partials.any (fun q => decide (q.id = id)) || s.enc.jobs.any (fun j => decide (j.id = id)) ||
    s.enc.backlog.any (fun r => decide (r.id = id))
  if busy then
    let s := s.spoil id 2
    let s := s.modSrch fun k => { k with staged := lmod (fun g => decide (g.m.id = id)) (fun g => { g with withheld := true }) k.staged }
    let s := s.modEmb fun e => { e with
      lookups := lmod (fun l => decide (l.id = id)) (fun l => { l with bad := worse l.bad 2 }) e.lookups
      partials := lmod (fun q => decide (q.id = id)) (fun q => { q with bad := worse q.bad 2 }) e.partials }
    { s with enc := { s.enc with
        jobs := lmod (fun j => decide (j.id = id)) (fun j => { j with status := worse j.status 2 }) s.enc.jobs
        runs := s.enc.runs.map (fun e => (e.1, if e.2.r.id = id then { e.2 with bad := worse e.2.bad 2 } else e.2)) } }
  else match s.adm? id with
    | some a => s.abortOp a 2
    | none => s

/-- Withhold several results. -/
def State.withholdAll (s : State) (ops : List OpId) : State := ops.foldl State.withhold s

/-- With NODE_FAULT set the node withholds every result it still holds: each operation admitted here completes with
WITHDRAWN where its completion can still be delivered, and no work it holds for others gives a good result (R392). -/
def State.withdrawHeld (s : State) : State :=
  if s.flag Reg.SAFE_STATUS_NODE_FAULT then
    let s := s.srch.adm.foldl (fun s a => s.abortOp a 2) s
    ((s.srch.work.map (·.q.id)) ++ (s.emb.partials.map (·.id))).foldl State.withhold s
  else s

end Sys2Proof.Machine
end

