-- ==== Sys2Proof/Machine/Safe.lean ====
section
/-! DEFINITION. The safety controller (R387 to R398): the rolling test cycle, watchdogs and codewords, reactions, isolation
and re-admission at a step boundary, and the die temperature. -/

namespace Sys2Proof.Machine

open Sys2Proof

/-! ### Isolation and re-admission (R395, R396) -/

/-- Show a unit as isolated, or as taking work again, in the register that holds its class (R406). -/
def State.showUnit (s : State) (cls : UnitClass) (unit : Nat) (iso : Bool) : State :=
  let put (f : Fld) (i : Nat) : State :=
    let v := s.get f
    s.set f (if iso then v ||| 2 ^ i else if bit v i then v - 2 ^ i else v)
  match cls with
  | .core => put Reg.ENC_ISOLATED (unit % 64)
  | .win =>
    let pairLeft := s.safe.isolated.any (fun u => decide (u.1 = .win ∧ u.2 / 2 = unit / 2 ∧ u.2 ≠ unit))
    if iso || !pairLeft then put Reg.SAFE_UNITS_WIN_ISO (unit / 2 % 16) else s
  | .gln => put Reg.SAFE_UNITS_GLN_ISO (unit % 32)
  | .route => put Reg.SAFE_UNITS_ROUTE_ISO (unit % 16)
  | .fallback => s.modSafe fun k => { k with
      noFallback := if iso then (if k.noFallback.contains unit then k.noFallback else k.noFallback ++ [unit]) else k.noFallback.erase unit }
  | _ => s

/-- Isolate a unit (R395): its work passes to its peers. -/
def State.isolateUnit (s : State) (u : UnitClass × Nat) : State :=
  let s := match u.1 with
    | .nbu => s.isolateNbu u.2
    | .core => ((s.showUnit .core u.2 true).setB Reg.ENC_STATUS_ISOLATE_EVT true).eventAll 3
    | c => s.showUnit c u.2 true
  let s := s.when (decide (u.1 = .nbu)) State.faultEvent
  let k := unitKey u.1 u.2
  (s.modSafe fun x => { x with isolated := x.isolated ++ [u], isoTimes := tset 0 x.isoTimes k (tget 0 x.isoTimes k + 1),
                               clean := tset 0 x.clean k 0 }).tallyN .SAFE_ISOLATIONS

/-- Clear the isolation bit of an NBU (R396). -/
def State.readmitNbu (s : State) (bank : Nat) : State :=
  let v := s.get Reg.NBU_ISOLATED
  if !bit v bank then s
  else
    let k := bank / 1024
    let s := s.set Reg.NBU_ISOLATED (v - 2 ^ bank)
    ((s.set Reg.NBU_ISO_COUNT (s.get Reg.NBU_ISO_COUNT - 1)).set (Reg.NBU_STACK_ISOLATED k)
      (s.get (Reg.NBU_STACK_ISOLATED k) - 1)).showFallback

/-- Take a unit back (R396). -/
def State.readmitUnit (s : State) (u : UnitClass × Nat) : State :=
  let s := s.modSafe fun x => { x with isolated := x.isolated.erase u, clean := tset 0 x.clean (unitKey u.1 u.2) 0 }
  let s := match u.1 with
    | .nbu => s.readmitNbu u.2
    | c => s.showUnit c u.2 false
  (s.tallyN .SAFE_READMITS).safeLog 11 u.1 u.2 4 0 0

/-- What a step boundary does to units marked since the last one (R395, R396). -/
def State.applyIso (s : State) : State :=
  let iso := s.safe.isoPending
  let back := s.safe.readmitPending
  let s := s.modSafe fun x => { x with isoPending := [], readmitPending := [] }
  back.foldl State.readmitUnit (iso.foldl State.isolateUnit s)

/-! ### The rolling test cycle (R393, R394) -/

/-- The bound of a rolling test cycle in ticks: 10 ms (R393). -/
def testCycle : Nat := 250000

/-- A test of an isolated unit: a clean cycle towards its re-admission, or the count begins again (R396). -/
def State.testIsolated (s : State) (cls : UnitClass) (unit : Nat) (ok : Bool) : State :=
  let k := unitKey cls unit
  if !ok then s.modSafe fun x => { x with clean := tset 0 x.clean k 0 }
  else
    let n := tget 0 s.safe.clean k + 1
    let s := s.modSafe fun x => { x with clean := tset 0 x.clean k n }
    if 1000 ≤ n ∧ s.get Reg.SAFE_POLICY_READMIT = 1 ∧ tget 0 s.safe.isoTimes k < 2 ∧ s.safe.readmitPending.contains (cls, unit) = false then
      s.modSafe fun x => { x with readmitPending := x.readmitPending ++ [(cls, unit)] }
    else s

/-- A failed test (R394): the resource is isolated and no result withheld; a spare is marked unusable. Spares are numbered
3 index + kind: via, row, reserve row. -/
def State.testFailed (s : State) (cls : UnitClass) (unit : Nat) : State :=
  let s := (s.tallyN .SAFE_LATENT).react 11 cls unit 1 0 unit
  match cls with
  | .spare =>
    let s := s.modSafe fun x => { x with badSpares := x.badSpares ++ [(unit % 3, unit / 3)] }
    s.when (decide (unit % 3 = 2)) (fun t => (t.modStk fun k => { k with badRows := k.badRows + 1 }).showReserve)
  | _ => s

/-- One test of the cycle. -/
def State.rollTest (s : State) (cls : UnitClass) (unit : Nat) (ok : Bool) : State :=
  if s.safe.isolated.contains (cls, unit) then s.testIsolated cls unit ok
  else if ok then s else s.testFailed cls unit

/-- The last test of a cycle: the cycle is counted, and an overrun is a fault of the unit it could not reach (R393). -/
def State.endCycle (s : State) (cls : UnitClass) (unit : Nat) : State :=
  let late := decide (s.safe.cycleStart + testCycle < s.now)
  let s := ((s.tallyN .SAFE_TEST_CYCLES).setB Reg.SAFE_STATUS_CYCLE_LATE late).modSafe fun x => { x with cycleStart := s.now }
  s.when late (fun t => t.react 11 cls unit 1 0 0)

/-- ROLLING_TEST (R393, R394, R396): a resource's test of the cycle; `last` ends the cycle. -/
def execRollingTest (cls : UnitClass) (unit : Nat) (ok last : Bool) (s : State) :=
  nodeEvt s (fun s => (s.rollTest cls unit ok).when last (fun t => t.endCycle cls unit))

/-- NBU_TEST (R152, R393): the TEST operation on a bank's test rows. -/
def execNbuTest (bank : Nat) (ok : Bool) (s : State) := nodeEvt s (fun s => s.rollTest .nbu bank ok)

/-! ### Watchdogs, codewords and reactions -/

/-- A fault of a control path (R15, R387): every result in flight through the unit is withheld and the unit isolated. -/
def State.controlFault (s : State) (mech : Nat) (cls : UnitClass) (unit : Nat) (ops : List OpId) : State :=
  ((s.react mech cls unit 0 ops.length 0).withholdAll ops).withdrawHeld

/-- WATCHDOG_EXPIRY (R15, R389): WDOG_TICKS without a completion, on a handshake that waits on nothing outside the die. -/
def execWatchdogExpiry (cls : UnitClass) (unit waited : Nat) (outside : Bool) (ops : List OpId) (s : State) :=
  nodeEvt s (fun s =>
    if outside = true ∨ waited < s.get Reg.SAFE_POLICY_WDOG_TICKS then s
    else (s.tallyN .SAFE_WDOG_EXPIRIES).controlFault 7 cls unit ops)

/-- INVALID_CODEWORD (R15). -/
def execInvalidCodeword (cls : UnitClass) (unit : Nat) (ops : List OpId) (s : State) :=
  nodeEvt s (fun s => (s.tallyN .SAFE_CODEWORD_FAULTS).controlFault 6 cls unit ops)

/-- SAFETY_REACTION (R387, R391, R392): the reaction to a check's report, with the results it withholds. -/
def execSafetyReaction (mech : Nat) (cls : UnitClass) (unit reaction : Nat) (ops : List OpId) (detail : Nat) (s : State) :=
  nodeEvt s (fun s => ((s.react mech cls unit reaction ops.length detail).withholdAll ops).withdrawHeld)

/-- LOCKSTEP_MISMATCH (R392, R397): from then on the node can vouch for nothing. -/
def execLockstepMismatch (s : State) :=
  nodeEvt s (fun s => ((s.setB Reg.SAFE_STATUS_LOCKSTEP_FAIL true).react 10 .safety 0 3 s.srch.adm.length 0).withdrawHeld)

/-- FAULT_N_RELEASE (R392): tFLT after the latest reaction, unless NODE_FAULT or a thermal trip holds the pin. -/
def execFaultNRelease (s : State) :=
  nodeEvt s (fun s =>
    match s.safe.faultUntil with
    | none => s
    | some t =>
      if s.now < t ∨ s.flag Reg.SAFE_STATUS_NODE_FAULT = true ∨ s.flag Reg.NODE_PWR_STATUS_THERMAL_TRIP = true then s
      else (s.modSafe fun x => { x with faultUntil := none }).setB Reg.SAFE_STATUS_FAULT_N_LOW false)

/-- DIE_THERMAL_READING (R442): the node die's temperature in °C. -/
def execDieThermalReading (temp : Nat) (s : State) :=
  resetEvt s (fun s =>
    let s := s.set Reg.NODE_PWR_STATUS_DIE_C temp
    if s.awake then s.thermal else s.tryRelease)

end Sys2Proof.Machine
end

