-- ==== Sys2Proof/Machine/Sync.lean ====
section
/-! DEFINITION. The synchronisation objects (R335 to R338, R346). -/

namespace Sys2Proof.Machine

open Sys2Proof

/-- Send one reply of an object. -/
def State.syncReply (s : State) (o pid reply tag status code : Nat) : State :=
  match s.replyWrite o pid reply tag status code with
  | some w => s.submitWrite w
  | none => s

/-- The operation codes that a type allows (R337). -/
def syncAllowed (typ code : Nat) : Bool :=
  match typ with
  | 1 => decide (1 ≤ code ∧ code ≤ 6)
  | 2 => decide (4 ≤ code ∧ code ≤ 6)
  | 3 => decide (3 ≤ code ∧ code ≤ 6)
  | _ => false

/-- Queue an operation, or complete it REFUSED_QUOTA when 16 are queued (R338). -/
def State.syncQueue (s : State) (o : Nat) (w : SyncWaiter) (code : Nat) : State :=
  if 16 ≤ (s.waitersOf o).length then s.syncReply o w.pid w.reply w.tag 3 code
  else s.setWaiters o (s.waitersOf o ++ [w])

/-- The effect of an allowed operation on an enabled object (R337). -/
def State.syncApply (s : State) (o : Nat) (p code : Nat) (w : SyncWaiter) : State :=
  let v := s.syncValue o
  match code with
  | 1 =>
    let s1 := s.when (decide (2 ^ 64 ≤ v + w.arg)) (fun t => t.tallyP .SYNC_SATURATED p)
    ((s1.set (Reg.SYNC_VALUE o) (min (v + w.arg) (2 ^ 64 - 1))).syncReply o w.pid w.reply w.tag 0 1).serveSync o
  | 2 =>
    if w.arg ≤ v ∧ ¬ (s.waitersOf o).any (·.take) then
      ((s.set (Reg.SYNC_VALUE o) (v - w.arg)).syncReply o w.pid w.reply w.tag 0 2).serveSync o
    else s.syncQueue o w 2
  | 3 => ((s.set (Reg.SYNC_VALUE o) w.arg).syncReply o w.pid w.reply w.tag 0 3).serveSync o
  | 4 => s.syncReply o w.pid w.reply w.tag 0 4
  | 5 => if w.arg ≤ v then s.syncReply o w.pid w.reply w.tag 0 5 else s.syncQueue o w 5
  | _ =>
    let mine (x : SyncWaiter) : Bool := decide (x.pid = w.pid ∧ x.tag = w.arg % 65536)
    let gone := (s.waitersOf o).filter mine
    let s1 := s.setWaiters o ((s.waitersOf o).filter (fun x => !mine x))
    let s2 := gone.foldl (fun t x => t.syncReply o x.pid x.reply x.tag 4 (if x.take then 2 else 5)) s1
    let s3 := s2.syncReply o w.pid w.reply w.tag 0 6
    if gone.isEmpty then s3 else s3.serveSync o

/-- An operation with a well-formed shape: refused on a foreign object, BAD_DESCRIPTOR where the type does not allow
it, REFUSED_DISABLED where the object or the partition is disabled, else counted and applied (R336, R337, R342). -/
def State.syncOp (s : State) (h : HostReq) (o code : Nat) (arg reply tag : Nat) (rsvd : Bool) : State :=
  match s.admitHost h with
  | .inr t => t
  | .inl p =>
    let s := s.when rsvd (fun t => t.tallyP .CXP_RSVD_WRITES p)
    if s.syncOwner o ≠ p ∨ 131072 ≤ o ∨ reply % 16 ≠ 0 then s.tallyP .SYNC_REFUSED p
    else if !syncAllowed (s.get (Reg.SYNC_TYPE o)) code then s.syncReply o h.pid reply (tag % 65536) 5 code
    else if !s.flag (Reg.SYNC_ENABLE o) || !s.flag (Reg.PART_CFG_ENABLE p) then
      s.syncReply o h.pid reply (tag % 65536) 4 code
    else
      ((s.tallyP .SYNC_OPS p).stick (Reg.SYNC_OPS o) 1).syncApply o p code
        { take := decide (code = 2), pid := h.pid, arg := arg % 2 ^ 64, reply := reply, tag := tag % 65536 }

/-- SYNC_ADD (R337). -/
def execSyncAdd (h : HostReq) (obj arg reply tag : Nat) (rsvd : Bool) (s : State) :=
  hostCmd s (.syncAdd h obj arg reply tag rsvd) (fun s => s.syncOp h obj 1 arg reply tag rsvd)

/-- SYNC_TAKE (R337). -/
def execSyncTake (h : HostReq) (obj arg reply tag : Nat) (rsvd : Bool) (s : State) :=
  hostCmd s (.syncTake h obj arg reply tag rsvd) (fun s => s.syncOp h obj 2 arg reply tag rsvd)

/-- SYNC_SET (R337). -/
def execSyncSet (h : HostReq) (obj arg reply tag : Nat) (rsvd : Bool) (s : State) :=
  hostCmd s (.syncSet h obj arg reply tag rsvd) (fun s => s.syncOp h obj 3 arg reply tag rsvd)

/-- SYNC_READ (R337). -/
def execSyncRead (h : HostReq) (obj arg reply tag : Nat) (rsvd : Bool) (s : State) :=
  hostCmd s (.syncRead h obj arg reply tag rsvd) (fun s => s.syncOp h obj 4 arg reply tag rsvd)

/-- SYNC_WAIT (R337). -/
def execSyncWait (h : HostReq) (obj arg reply tag : Nat) (rsvd : Bool) (s : State) :=
  hostCmd s (.syncWait h obj arg reply tag rsvd) (fun s => s.syncOp h obj 5 arg reply tag rsvd)

/-- SYNC_CANCEL (R337). -/
def execSyncCancel (h : HostReq) (obj arg reply tag : Nat) (rsvd : Bool) (s : State) :=
  hostCmd s (.syncCancel h obj arg reply tag rsvd) (fun s => s.syncOp h obj 6 arg reply tag rsvd)

/-- SYNC_BAD_OP (R336, R337): a write of a wrong shape or a REPLY that is not a multiple of 16 is ignored and counted;
a reserved code completes with BAD_DESCRIPTOR. -/
def execSyncBadOp (h : HostReq) (obj : Nat) (form : SyncForm) (s : State) :=
  hostCmd s (.syncBadOp h obj form) (fun s =>
    match form with
    | .badCode code reply tag =>
      let c := code % 256
      s.syncOp h obj (if 1 ≤ c ∧ c ≤ 6 then 0 else c) 0 reply tag false
    | _ =>
      match s.admitHost h with
      | .inr t => t
      | .inl p => s.tallyP .SYNC_REFUSED p)

/-- Complete every waiter of an object with REFUSED_DISABLED (R338, R342, R372). -/
def State.syncDrain (s : State) (o : Nat) : State :=
  (s.waitersOf o).foldl (fun t x => t.syncReply o x.pid x.reply x.tag 4 (if x.take then 2 else 5)) (s.setWaiters o [])

/-- A CTL write to an object the partition holds (R338, R346): a VECTOR of another partition with IRQ set refuses the
write; a change of TYPE or a cleared ENABLE completes every waiter; a RING object's VALUE is reset. -/
def State.syncCtl (s : State) (p o v : Nat) : State :=
  let s := s.when (decide (bits v 13 11 ≠ 0 ∨ bits v 11 1 ≠ 0)) (fun t => t.tallyP .CXP_RSVD_WRITES p)
  if bit v 12 ∧ s.get (Reg.CXP_VEC_PARTITION (bits v 0 11)) ≠ p then s.tallyP .SYNC_REFUSED p
  else
    let drain := decide (s.get (Reg.SYNC_TYPE o) ≠ bits v 28 3) || (s.flag (Reg.SYNC_ENABLE o) && !bit v 31)
    let s := s.when drain (fun t => t.syncDrain o)
    let s := s.setB (Reg.SYNC_ENABLE o) (bit v 31)
    let s := s.set (Reg.SYNC_TYPE o) (bits v 28 3)
    let s := s.set (Reg.SYNC_RING o) (bits v 24 4)
    let s := s.setB (Reg.SYNC_IRQ o) (bit v 12)
    let s := s.set (Reg.SYNC_VECTOR o) (bits v 0 11)
    s.when (decide (bits v 28 3 = 3)) (fun t => (t.set (Reg.SYNC_VALUE o) 0).serveSync o)

/-- SYNC_CTL_WRITE (R338, R346). -/
def execSyncCtlWrite (h : HostReq) (obj value : Nat) (s : State) :=
  hostCmd s (.syncCtlWrite h obj value) (fun s =>
    match s.admitHost h with
    | .inr t => t
    | .inl p =>
      if s.syncOwner obj ≠ p ∨ 131072 ≤ obj then s.tallyP .SYNC_REFUSED p else s.syncCtl p obj value)

end Sys2Proof.Machine
end

