-- ==== Sys2Proof/Machine/CfgWrite.lean ====
section
/-! DEFINITION. Writing IMG and SAF fields from an image or an amendment (R416, R421, R466), and what follows a change of each
kind when it takes effect (R57, R70, R186, R274, R305, R327, R342, R372, R376, R378). -/

namespace Sys2Proof.Machine

open Sys2Proof

/-! ### Items and the fields they write (R416) -/

/-- An item of a WRITE amendment: the control-window offset of the first byte, and the data. -/
structure CfgItem where
  off : Nat
  data : List Byte
  deriving DecidableEq, Repr

/-- The 32-bit words of an item: offset and value. -/
def CfgItem.words (i : CfgItem) : List (Nat × Nat) :=
  (List.range (i.data.length / 4)).map (fun k => (i.off + 4 * k, leNat i.data (4 * k) 4))

/-- A field has bits in the 32-bit word at an offset. -/
def inWord (a : Nat) (f : Fld) : Bool := decide (fldPlace f < 8 * a + 32 ∧ 8 * a < fldPlace f + f.w)

/-- The fields that have bits in the word at an offset. -/
def wordFields (a : Nat) : List Fld :=
  match regFind a with
  | none => []
  | some (d, i, j) => (d.fields i j 0).filter (inWord a)

/-- The registers that an item writes: offset of the register's first entry, and indices. -/
def CfgItem.regs (i : CfgItem) : List (Nat × Nat × Nat) :=
  (i.words.filterMap (fun w => (regFind w.1).map (fun r => (r.1.off, r.2.1, r.2.2)))).dedup

/-- Write the words of an item. -/
def State.writeItem (s : State) (it : CfgItem) : State :=
  it.words.foldl (fun s w => (wordFields w.1).foldl (fun s f => s.putWord w.1 w.2 f) s) s

/-- The registers that a list of items writes. -/
def itemRegs (l : List CfgItem) : List (Nat × Nat × Nat) := ((l.map CfgItem.regs).flatten).dedup

/-- The indices of a table's entries that the items write, by the table's offset. -/
def touchedIn (l : List CfgItem) (off : Nat) : List Nat := ((itemRegs l).filterMap (fun r => if r.1 = off then some r.2.1 else none)).dedup

/-! ### Gate lists (R378) -/

/-- The gate list in force when a step opens, given the take-over that is due. -/
def State.activeList (s : State) (step : Nat) : Nat :=
  let l := s.get Reg.SHAPE_STATUS_ACTIVE_LIST
  let t := s.get (Reg.SHAPE_GATE_HDR_TAKEOVER (1 - l))
  if t ≠ 0 ∧ t ≤ step then 1 - l else l

/-- The gate lists that the items write. -/
def touchedGates (l : List CfgItem) : List Nat := (touchedIn l 0x306000 ++ touchedIn l 0x306200).dedup

/-- Empty a gate list: an amendment replaces the pending list whole (R378). -/
def State.clearGate (s : State) (l : Nat) : State :=
  let s := (List.range 16).foldl (fun s e => (s.set (Reg.SHAPE_GATE_DURATION l e) 0).set (Reg.SHAPE_GATE_MASK l e) 0) s
  (s.set (Reg.SHAPE_GATE_HDR_COUNT l) 0).set (Reg.SHAPE_GATE_HDR_TAKEOVER l) 0

/-- Write the registers of a WRITE amendment, and nothing else. -/
def State.writeItems (s : State) (l : List CfgItem) : State :=
  l.foldl State.writeItem ((touchedGates l).foldl State.clearGate s)

/-! ### Collections and tables that come into being -/

/-- The slots Q of a shard's rerank ring (R212). -/
def State.ringSlots (s : State) (h n : Nat) : Nat :=
  let z := s.recordBytes h
  let pages := match (List.range 256).find? (fun i => decide (s.get (Reg.GRAN_REGION_PAGES i) ≠ 0 ∧ s.get (Reg.GRAN_REGION_KIND i) = 0 ∧
      s.get (Reg.GRAN_REGION_HANDLE i) = h ∧ s.get (Reg.GRAN_REGION_SHARD i) = n)) with
    | some i => s.get (Reg.GRAN_REGION_PAGES i)
    | none => 0
  if z ≤ 4096 then pages * 4 * (4096 / z) else pages * 4 / cdiv z 4096

/-- An initial list of a shard, empty, at CENT_ADDR (R65, assumption 39). -/
def newListAt (cent n i : Nat) : LList :=
  let pl := Config.shadowPlace cent n i
  { idx := i, capacity := pl.2, ring := [], entries := [], centroid := Config.shadowCent cent n i, tomb := false, born := 0,
    retired := 0, noSplit := none, place := pl.1 }

/-- A new shard with its initial lists (R57, R65, assumption 39); its chain starts as R425 says. -/
def State.newShard (s : State) (h n : Nat) (o : Nat × Nat) : Shard :=
  let cent := s.get (Reg.COLL_DESC_CENT_ADDR h)
  let graph := s.get (Reg.COLL_DESC_GRAPH_ADDR h)
  let idx := List.range (s.get (Reg.COLL_DESC_LISTS h))
  { coll := h, num := n, owner := o.1, mirror := o.2,
    lists := idx.map (fun i => newListAt cent n i),
    edges := idx.map (fun i => (i, Config.shadowEdges graph n i)), entry := Config.shadowEntry graph n, oldGraph := none,
    rebuild := none, tail := 0, store := [], index := [], idxWas := [], filters := [], upkeep := [], renewing := false,
    slotCap := s.ringSlots h n,
    chain := Config.sm3 (natLe 32 (s.get (Reg.COLL_DESC_PROJ_DIGEST h)) ++ natLe 2 h), chainStep := 0, gen := 0 }

/-- The shards of a collection that this node holds under its shard map and does not have yet. -/
def State.makeShards (s : State) (h : Nat) : State :=
  let m := (s.coll h).shardMap
  let mine := (List.range m.length).filter (fun n =>
    let o := m.getD n (0xFFF, 0xFFF)
    decide (o.1 = s.me ∨ o.2 = s.me) && (s.shard? h n).isNone)
  s.modSrch fun k => { k with shards := k.shards ++ mine.map (fun n => s.newShard h n (m.getD n (0xFFF, 0xFFF))) }

/-- A collection that an amendment creates (R57). -/
def State.newColl (s : State) (h : Nat) : State :=
  let a := s.get (Reg.COLL_DESC_PROJ_ADDR h)
  let info : CollInfo := { CollInfo.none with
    shardMap := Config.shadowMap (s.get (Reg.COLL_DESC_SHARD_MAP h)), proj := Config.shadowProj a, offs := Config.shadowOffs a }
  (s.modSrch fun k => { k with colls := tset CollInfo.none k.colls h info }).makeShards h

/-- A collection's memory is released (R57). -/
def State.dropColl (s : State) (h : Nat) : State :=
  s.modSrch fun k => { k with
    colls := tset CollInfo.none k.colls h CollInfo.none,
    shards := k.shards.filter (fun x => decide (x.coll ≠ h)),
    pds := k.pds.filter (fun q => decide (q.coll ≠ h)),
    cache := k.cache.filter (fun c => decide (c.1 ≠ h)) }

/-! ### What follows a change -/

/-- The credit of a shaper entry after a change of its rate, burst or mode (R375, R376). -/
def State.newCredit (s : State) (old : State) (rate burst : Fld) (modeChanged : Bool) (credit : Fld) : State :=
  let full : Int := ((256 * s.get burst : Nat) : Int)
  let c := old.getI credit
  if modeChanged ∨ s.get rate = 0 ∨ full < c then s.setI credit full else s

/-- A change of a partition's admission or egress shaping (R376). -/
def State.shapeChanged (s : State) (old : State) (p : Nat) : State :=
  let s := s.newCredit old (Reg.SHAPE_ADM_RATE p) (Reg.SHAPE_ADM_BURST p) (decide (s.get (Reg.SHAPE_ADM_MODE p) ≠ old.get (Reg.SHAPE_ADM_MODE p)))
    (Reg.SHAPE_ADM_CREDIT p)
  let s := (List.range 8).foldl (fun s n => s.newCredit old (Reg.SHAPE_LINK_RATE p) (Reg.SHAPE_LINK_BURST p) false (Reg.SHAPE_LINK_CREDIT p n)) s
  (List.range 2).foldl (fun s n => s.newCredit old (Reg.SHAPE_PORT_RATE p) (Reg.SHAPE_PORT_BURST p) false (Reg.SHAPE_PORT_CREDIT p n)) s

/-- Show what a partition's entries hold: hosts bound, and whether its rings are disabled (R108, R384). -/
def State.showPart (s : State) (p : Nat) : State :=
  let s := s.set (Reg.PART_ID_HOSTS p) ((List.range 512).countP (fun i => decide (s.get (Reg.CXP_BIND_PARTITION i) = p)))
  s.setB (Reg.INT_STATUS_DISABLED p) (!s.flag (Reg.PART_CFG_ENABLE p))

/-- A change of PART_CFG (R342, R384). -/
def State.partChanged (s : State) (old : State) (step p : Nat) : State :=
  let s := if s.get (Reg.PART_CFG_ENABLE p) = old.get (Reg.PART_CFG_ENABLE p) ∧ s.get (Reg.PART_CFG_COMPAT p) = old.get (Reg.PART_CFG_COMPAT p)
    then s else s.set (Reg.PART_EFFECTIVE p) step
  let s := s.setB (Reg.PART_STATUS_DISABLING p) false
  let s := if old.flag (Reg.PART_CFG_ENABLE p) && !s.flag (Reg.PART_CFG_ENABLE p) then s.disablePartition p else s
  s.showPart p

/-- Reset a synchronisation object (R346). -/
def State.resetObj (s : State) (o : Nat) : State :=
  [Reg.SYNC_TYPE o, Reg.SYNC_ENABLE o, Reg.SYNC_IRQ o, Reg.SYNC_RING o, Reg.SYNC_VECTOR o, Reg.SYNC_VALUE o,
    Reg.SYNC_WAITERS o, Reg.SYNC_OPS o].foldl
    (fun s f => s.set f f.dflt) s

/-- A change of a partition's object range (R372): every object that leaves it completes its waiters and is reset. The
replies go out before the range changes, so that they are still the partition's. -/
def State.syncRangeLeaves (s : State) (p base count : Nat) : State :=
  let b := s.get (Reg.PART_SYNC_SYNC_BASE p)
  let gone := ((s.typedObjs ++ s.host.waiters.map (·.1)).dedup).filter (fun o =>
    decide (b ≤ o ∧ o < b + s.get (Reg.PART_SYNC_SYNC_COUNT p)) && !decide (base ≤ o ∧ o < base + count))
  gone.foldl (fun s o => (s.syncDrain o).resetObj o) s

/-- Hosts bound in one state and not in another. -/
def lostHosts (a b : State) : List Nat :=
  (((List.range 512).filter (fun i => decide (a.get (Reg.CXP_BIND_PARTITION i) ≠ 0))).map (fun i => a.get (Reg.CXP_BIND_PID i))).filter
    (fun pid => !(List.range 512).any (fun i => decide (b.get (Reg.CXP_BIND_PARTITION i) ≠ 0 ∧ b.get (Reg.CXP_BIND_PID i) = pid)))

/-- Copy the fields that the items write in one range entry. -/
def State.copyRange (s : State) (from_ : State) (i : Nat) : State :=
  [Reg.HOME_RANGE_BASE i, Reg.HOME_RANGE_LENGTH i, Reg.HOME_RANGE_PARTITION i, Reg.HOME_RANGE_KIND i, Reg.HOME_RANGE_HOST i,
    Reg.HOME_RANGE_CAN_READ i, Reg.HOME_RANGE_CAN_WRITE i, Reg.HOME_RANGE_REGION i, Reg.HOME_RANGE_STEP_EFFECTIVE i].foldl
    (fun s f => s.set f (from_.get f)) s

/-- A range entry as it was before the amendment. -/
def State.uncopyRange (s : State) (old : State) (i : Nat) : State := s.copyRange old i

/-- What follows the change of one COLL_DESC entry: a collection is created, or retires. -/
def State.collChanged (s : State) (old : State) (step h : Nat) : State :=
  let s := if old.get (Reg.COLL_DESC_PARTITION h) = 0 ∧ s.get (Reg.COLL_DESC_PARTITION h) ≠ 0 then s.newColl h else s
  if s.get (Reg.COLL_DESC_STATE h) = 3 ∧ old.get (Reg.COLL_DESC_STATE h) ≠ 3 then
    { s with cfg := { s.cfg with retiring := s.cfg.retiring ++ [(0, h, step)] } } else s

/-- What follows the change of one EMB_TABLE entry. -/
def State.tableChanged (s : State) (old : State) (step i : Nat) : State :=
  let s := if old.get (Reg.EMB_TABLE_PARTITION i) = 0 ∧ s.get (Reg.EMB_TABLE_PARTITION i) ≠ 0 then
    s.modEmb fun e => { e with nodes := tset [] e.nodes i (Config.shadowNodes (s.get (Reg.EMB_TABLE_NODES i))) } else s
  if s.get (Reg.EMB_TABLE_STATE i) = 3 ∧ old.get (Reg.EMB_TABLE_STATE i) ≠ 3 then
    { s with cfg := { s.cfg with retiring := s.cfg.retiring ++ [(1, i, step)] } } else s

/-- What follows the change of one COLL_SMAP entry (R98): its table was read in the lead; a map whose table could not be read,
or has another digest, is unavailable. -/
def State.mapChanged (s : State) (old : State) (step i : Nat) : State :=
  let live : Bool := decide (s.get (Reg.COLL_SMAP_STATE i) ≠ 0 ∧ s.get (Reg.COLL_SMAP_STATE i) ≠ 3)
  let s : State := match s.cfg.nextMaps.find? (fun m => decide (m.1 = i)) with
    | some m => { s.modSrch (fun k => { k with maps := tset [] k.maps i m.2 }) with
                  cfg := { s.cfg with nextMaps := s.cfg.nextMaps.filter (fun e => decide (e.1 ≠ i)) } }
    | none => s
  let s : State := if s.cfg.badMaps.contains i && live then
    { s.set (Reg.COLL_SMAP_STATE i) 4 with cfg := { s.cfg with badMaps := s.cfg.badMaps.filter (fun j => decide (j ≠ i)) } } else s
  if s.get (Reg.COLL_SMAP_STATE i) = 3 ∧ old.get (Reg.COLL_SMAP_STATE i) ≠ 3 then
    { s with cfg := { s.cfg with retiring := s.cfg.retiring ++ [(3, i, step)] } } else s

/-- What follows the change of one ENC_MODEL entry by a WRITE: it retires. -/
def State.modelChanged (s : State) (old : State) (step i : Nat) : State :=
  if s.get (Reg.ENC_MODEL_STATE i) = 3 ∧ old.get (Reg.ENC_MODEL_STATE i) ≠ 3 then
    { s with cfg := { s.cfg with retiring := s.cfg.retiring ++ [(2, i, step)] } } else s

/-- Apply a WRITE amendment at its step (R421): the registers change together, and then everything that follows from the
change. -/
def State.applyItems (s : State) (step : Nat) (l : List CfgItem) : State :=
  let new := s.writeItems l
  let s1 := (touchedIn l 0x200018).foldl (fun (s : State) i =>
    s.syncRangeLeaves (i + 1) (new.get (Reg.PART_SYNC_SYNC_BASE (i + 1))) (new.get (Reg.PART_SYNC_SYNC_COUNT (i + 1)))) s
  let ranges := touchedIn l 0x1610000
  let s2 := ranges.foldl (fun (t : State) i => t.uncopyRange s i) (s1.writeItems l)
  let s3 := ranges.foldl (fun (t : State) i =>
    t.changeRange i (new.get (Reg.HOME_RANGE_BASE i)) (new.get (Reg.HOME_RANGE_LENGTH i)) (new.get (Reg.HOME_RANGE_PARTITION i))
      (fun u => u.copyRange new i)) s2
  let s4 := (touchedIn l 0x1080000).foldl (fun (t : State) h => t.collChanged s step h) s3
  let s5 := (touchedIn l 0x1510000).foldl (fun (t : State) i => t.tableChanged s step i) s4
  let s6 := (touchedIn l 0x1060000).foldl (fun (t : State) i => t.mapChanged s step i) s5
  let s7 := (touchedIn l 0x1410000).foldl (fun (t : State) i => t.modelChanged s step i) s6
  let s8 := ((touchedIn l 0x301000 ++ touchedIn l 0x302000 ++ touchedIn l 0x304000).dedup).foldl (fun (t : State) i => t.shapeChanged s (i + 1)) s7
  let s9 := (touchedIn l 0x200004).foldl (fun (t : State) i => t.partChanged s step (i + 1)) s8
  let s10 := if (touchedIn l 0x1810000).isEmpty then s9
    else (lostHosts s s9).foldl (fun (t : State) pid => t.beginReset pid false) (partitions.foldl (fun (t : State) p => t.showPart p) s9)
  let s11 := if (touchedGates l).isEmpty then s10
    else s10.setB Reg.SHAPE_STATUS_PENDING (decide (s10.get (Reg.SHAPE_GATE_HDR_TAKEOVER (1 - s10.get Reg.SHAPE_STATUS_ACTIVE_LIST)) ≠ 0))
  let s12 := if (touchedIn l 0x1200014).isEmpty then s11
    else s11.stackTest (s11.get Reg.STACK_TEST_CHANNEL) (s11.flag Reg.STACK_TEST_TEST_REQ)
  let s13 := if (touchedIn l 0x1400020).isEmpty then s12
    else s12.restartRuns ((List.range 64).filter (fun n => bit (s12.get Reg.ENC_ISOLATED) n && !bit (s.get Reg.ENC_ISOLATED) n))
  if (touchedIn l 0x1400200).isEmpty then s13 else s13.showLoft

/-- The partitions that items name: those whose page or entry they write, as it stood before and as it stands after. -/
def partsNamed (old new : State) (l : List CfgItem) : List Nat :=
  let own (r : Nat × Nat × Nat) : List Nat :=
    let both (f : Fld) : List Nat := [old.get f, new.get f]
    if r.1 = 0x1080000 then both (Reg.COLL_DESC_PARTITION r.2.1)
    else if r.1 = 0x1060000 then both (Reg.COLL_SMAP_PARTITION r.2.1)
    else if r.1 = 0x1510000 then both (Reg.EMB_TABLE_PARTITION r.2.1)
    else if r.1 = 0x1410000 then both (Reg.ENC_MODEL_PARTITION r.2.1)
    else if r.1 = 0x1610000 then both (Reg.HOME_RANGE_PARTITION r.2.1)
    else if r.1 = 0x1650000 then both (Reg.HOME_REGION_PARTITION r.2.1)
    else if r.1 = 0x1810000 then both (Reg.CXP_BIND_PARTITION r.2.1)
    else if r.1 = 0x1831000 then both (Reg.CXP_VEC_PARTITION r.2.1)
    else if r.1 = 0x1302000 then both (Reg.GRAN_REGION_PARTITION r.2.1)
    else if (0x200000 ≤ r.1 ∧ r.1 < 0x306000) ∨ (0x400000 ≤ r.1 ∧ r.1 < 0x403000) ∨ r.1 = 0x1814000 ∨ r.1 = 0x1400200 then
      (if r.1 = 0x300000 ∨ r.1 = 0x300008 then [] else [r.2.1 + 1])
    else []
  (((itemRegs l).map own).flatten.filter (fun p => decide (1 ≤ p ∧ p ≤ 64))).dedup

end Sys2Proof.Machine
end

