-- ==== Sys2Proof/Machine/CfgValid.lean ====
section
/-! DEFINITION. The rules of the manual that a configuration must meet (R413 check 5, R419 checks 5 and 9): field ranges,
entries of every table, quotas, and what an amendment may not change. -/

namespace Sys2Proof.Machine

open Sys2Proof

/-! ### Ranges of fields -/

/-- A field's range: its first copy, the strides in bytes and counts of its copies, and the values allowed. -/
structure RangeRule where
  fld : Fld
  dims : List (Nat × Nat)
  ok : Nat → Bool

/-- Values from lo to hi. -/
def within (lo hi v : Nat) : Bool := decide (lo ≤ v ∧ v ≤ hi)

/-- The index of a field's copy at a bit address, by one stride. -/
def copyIdx (f : Fld) (stride n k : Nat) : Option Nat :=
  if f.bit ≤ k ∧ (k - f.bit) % (8 * stride) = 0 ∧ (k - f.bit) / (8 * stride) < n then some ((k - f.bit) / (8 * stride)) else none

/-- A rule covers the field at a bit address. -/
def RangeRule.covers (r : RangeRule) (k : Nat) : Bool :=
  match r.dims with
  | [] => decide (k = r.fld.bit)
  | [(s, n)] => (copyIdx r.fld s n k).isSome
  | (s1, n1) :: (s2, n2) :: _ =>
    decide (r.fld.bit ≤ k ∧ (k - r.fld.bit) / (8 * s1) < n1 ∧ (k - r.fld.bit) % (8 * s1) % (8 * s2) = 0 ∧
      (k - r.fld.bit) % (8 * s1) / (8 * s2) < n2)

/-- Ranges of the STEP, NBU, STACK, GRAN, ENC and EMB blocks. -/
def ranges1 : List RangeRule := [
  ⟨Reg.STEP_WINDOW, [], within 1250 250000⟩, ⟨Reg.STEP_MEMB_CFG, [], within 50000 1250000⟩,
  ⟨Reg.NBU_CFG, [], within 1 15⟩, ⟨Reg.NBU_GOV, [], within 512 12000⟩,
  ⟨Reg.STACK_CFG_SCRUB_HOURS, [], within 1 255⟩, ⟨Reg.STACK_CFG_REBUILD_GBPS, [], within 1 32⟩,
  ⟨Reg.STACK_CFG_REBUILD_FLASH_PCT, [], within 5 50⟩, ⟨Reg.STACK_CFG_UC_BANKS, [], within 1 15⟩,
  ⟨Reg.STACK_CFG_ERASE_MAX, [], within 0 4⟩,
  ⟨Reg.GRAN_CFG_OP_PCT, [], within 10 40⟩, ⟨Reg.GRAN_CFG_CKPT_SECONDS, [], within 60 1000⟩,
  ⟨Reg.GRAN_CFG_RETRY_MAX, [], within 1 15⟩, ⟨Reg.GRAN_CFG_IDX_BATCH, [], within 1 15⟩,
  ⟨Reg.GRAN_CFG_FLUSH_MIB, [], within 8 64⟩,
  ⟨Reg.ENC_CFG_SAT_LOG2, [], within 6 20⟩, ⟨Reg.ENC_CFG_BACKLOG_MAX, [], within 8 4096⟩,
  ⟨Reg.ENC_LOFT_MIN_HALF_A 1, [(4, 64)], within 0 192⟩, ⟨Reg.ENC_LOFT_MIN_HALF_B 1, [(4, 64)], within 0 192⟩,
  ⟨Reg.EMB_CFG_MIG_MAX, [], within 1 255⟩, ⟨Reg.EMB_CFG_LOAD_LAG, [], within 16 65535⟩,
  ⟨Reg.EMB_CFG_UNDO_64MIB, [], within 1 64⟩]

/-- Ranges of the HOME, CXP, OVL and NODE blocks. -/
def ranges2 : List RangeRule := [
  ⟨Reg.HOME_CFG_EXPORT_POS, [], fun v => decide (v ≤ 4094 ∨ v = 0xFFF)⟩, ⟨Reg.HOME_CFG_EXPORTERS, [], within 1 4095⟩,
  ⟨Reg.HOME_CFG_SHARE_64G, [], within 1 64⟩, ⟨Reg.HOME_CFG_RES_GIB, [], within 0 512⟩,
  ⟨Reg.HOME_CFG_WB_SECONDS, [], within 1 255⟩, ⟨Reg.HOME_CFG_HOT_PCT, [], within 0 50⟩,
  ⟨Reg.CXP_CFG_MEM_IDE_MODE, [], within 1 2⟩, ⟨Reg.CXP_VEC_PARTITION 0, [(4, 2048)], within 0 64⟩,
  ⟨Reg.OVL_CFG_ERR_LIMIT, [], within 1 4095⟩, ⟨Reg.OVL_CFG_RETRAIN_MAX, [], within 1 15⟩,
  ⟨Reg.OVL_CLASS_WEIGHT 0, [(8, 11)], within 1 255⟩, ⟨Reg.OVL_CLASS_BUFFERS 0, [(8, 11)], within 32 4096⟩,
  ⟨Reg.NODE_PWR_CFG_CAP_W, [], within 600 1400⟩, ⟨Reg.NODE_PWR_CFG_VMAX_10MV, [], within 65 85⟩]

/-- Ranges of the SHAPE, PART, INTAKE, SAFE and CFG blocks. -/
def ranges3 : List RangeRule := [
  ⟨Reg.SHAPE_ADM_BURST 1, [(32, 64)], within 1 (2 ^ 31 - 1)⟩, ⟨Reg.SHAPE_ADM_OVERHEAD 1, [(32, 64)], within 0 4095⟩,
  ⟨Reg.SHAPE_ADM_MODE 1, [(32, 64)], within 0 1⟩, ⟨Reg.SHAPE_LINK_BURST 1, [(128, 64)], within 1 (2 ^ 31 - 1)⟩,
  ⟨Reg.SHAPE_LINK_OVH 1, [(128, 64)], within 0 4095⟩, ⟨Reg.SHAPE_PORT_BURST 1, [(32, 64)], within 1 (2 ^ 31 - 1)⟩,
  ⟨Reg.SHAPE_PORT_OVH 1, [(32, 64)], within 0 4095⟩, ⟨Reg.SHAPE_GATE_HDR_COUNT 0, [(16, 2)], within 0 16⟩,
  ⟨Reg.SHAPE_GATE_DURATION 0 0, [(256, 2), (16, 16)], within 0 250000⟩,
  ⟨Reg.PART_QUOTA_MAX_INFLIGHT 1, [(4096, 64)], within 1 65535⟩, ⟨Reg.PART_QUOTA_MAX_MODELS 1, [(4096, 64)], within 0 256⟩,
  ⟨Reg.PART_QUOTA_MAX_COLL 1, [(4096, 64)], within 0 4096⟩, ⟨Reg.PART_QUOTA_MAX_TABLES 1, [(4096, 64)], within 0 1024⟩,
  ⟨Reg.PART_SYNC_SYNC_COUNT 1, [(4096, 64)], within 0 131072⟩,
  ⟨Reg.IRING_CTL_LOG2_SIZE 1 0, [(65536, 64), (32, 16)], within 6 16⟩,
  ⟨Reg.SRING_CTL_LOG2_SIZE 1 0, [(65536, 64), (32, 16)], within 2 16⟩,
  ⟨Reg.SRING_CTL_SLOT_UNITS 1 0, [(65536, 64), (32, 16)], within 2 258⟩,
  ⟨Reg.SAFE_POLICY_WDOG_TICKS, [], within 250 50000⟩, ⟨Reg.SAFE_POLICY_FAULT_LIMIT, [], within 1 255⟩,
  ⟨Reg.SAFE_POLICY_READMIT, [], within 0 1⟩, ⟨Reg.SAFE_POLICY_DEBUG, [], within 0 2⟩,
  ⟨Reg.CFG_AMEND_CFG_FORM_WAIT_S, [], within 1 3600⟩, ⟨Reg.CFG_AMEND_CFG_AMEND_LEAD, [], within 64 65535⟩]

/-- Every range of a single field. -/
def rangeRules : List RangeRule := ranges1 ++ ranges2 ++ ranges3

/-- Every listed field is within its range; a field at its default is. HOME_CFG.EXPORTERS has no default and is checked by
itself. -/
def State.rangesOk (s : State) : Bool :=
  s.regs.all (fun e => rangeRules.all (fun r => !r.covers e.1 || r.ok e.2)) && decide (s.get Reg.HOME_CFG_EXPORTERS ≠ 0)

/-! ### Entries of tables -/

/-- The indices of a table whose field is listed, that is, not 0. -/
def State.listed (s : State) (f : Fld) (stride n : Nat) : List Nat := s.regs.filterMap (fun e => copyIdx f stride n e.1)

/-- Collections in use. -/
def State.collsUsed (s : State) : List Nat := s.listed (Reg.COLL_DESC_PARTITION 0) 128 4096
/-- Score maps in use. -/
def State.mapsUsed (s : State) : List Nat := s.listed (Reg.COLL_SMAP_MAP_ID 0) 64 1024
/-- Tables in use. -/
def State.tablesUsed (s : State) : List Nat := s.listed (Reg.EMB_TABLE_PARTITION 0) 64 1024
/-- Models in use. -/
def State.modelsUsed (s : State) : List Nat := s.listed (Reg.ENC_MODEL_MODEL_ID 0) 128 256
/-- Ranges in use. -/
def State.rangesUsed (s : State) : List Nat := s.listed (Reg.HOME_RANGE_LENGTH 0) 64 4096
/-- Regions in use. -/
def State.regionsUsed (s : State) : List Nat := s.listed (Reg.HOME_REGION_PARTITION 0) 32 4096
/-- Bindings in use. -/
def State.bindsUsed (s : State) : List Nat := s.listed (Reg.CXP_BIND_PARTITION 0) 16 512
/-- Granary regions in use. -/
def State.granUsed (s : State) : List Nat := s.listed (Reg.GRAN_REGION_PAGES 0) 16 256

/-- A partition number of an entry in use. -/
def partOk (p : Nat) : Bool := within 1 64 p

/-- The shards of a collection that this node holds. -/
def State.myShards (s : State) (h : Nat) : List Nat :=
  let m := (s.coll h).shardMap
  (List.range m.length).filter (fun n => decide ((m.getD n (0xFFF, 0xFFF)).1 = s.me ∨ (m.getD n (0xFFF, 0xFFF)).2 = s.me))

/-- The score map a collection names (R98): of its partition, and serving no later than it. -/
def State.collMapOk (s : State) (h : Nat) : Bool :=
  let m := s.get (Reg.COLL_DESC_SCORE_MAP h)
  decide (m = 0 ∨ m = 0xFFFFFFFF) ||
    (match s.mapEntry (s.get (Reg.COLL_DESC_PARTITION h)) m with
     | some i => decide (s.get (Reg.COLL_SMAP_STEP_EFFECTIVE i) ≤ s.get (Reg.COLL_DESC_STEP_EFFECTIVE h))
     | none => false)

/-- The encoder a collection names (R220, R261): no base, with the collection's element type and dimension. -/
def State.collEncoderOk (s : State) (h : Nat) : Bool :=
  let e := s.get (Reg.COLL_DESC_ENCODER h)
  decide (e = 0) || ((s.modelsUsed.filter (fun i => decide (s.get (Reg.ENC_MODEL_MODEL_ID i) = e ∧ s.get (Reg.ENC_MODEL_STATE i) ≠ 3))).all (fun i =>
    decide (s.get (Reg.ENC_MODEL_PARTITION i) ≠ 0 ∧ s.get (Reg.ENC_MODEL_OUT_ELEM i) ≠ 3 ∧
      s.get (Reg.ENC_MODEL_OUT_ELEM i) = s.get (Reg.COLL_DESC_ELEM h) ∧ s.get (Reg.ENC_MODEL_OUT_DIM i) = s.get (Reg.COLL_DESC_DIM h))))

/-- A collection descriptor (R59, R85, R212, R469). -/
def State.collOk (s : State) (h : Nat) : Bool :=
  let g (f : Nat → Fld) : Nat := s.get (f h)
  partOk (g Reg.COLL_DESC_PARTITION) && decide (g Reg.COLL_DESC_HANDLE = h ∧ g Reg.COLL_DESC_STATE ≤ 3) &&
  decide (g Reg.COLL_DESC_METRIC ≤ 2 ∧ g Reg.COLL_DESC_ELEM ≤ 2 ∧ g Reg.COLL_DESC_SKETCH_W ≤ 3) &&
  within 32 4096 (g Reg.COLL_DESC_DIM) && decide (g Reg.COLL_DESC_DIM % 32 = 0 ∧ g Reg.COLL_DESC_FILTERS ≤ 16) &&
  decide (g Reg.COLL_DESC_ROUTE_MODE ≤ 1 ∧ (g Reg.COLL_DESC_ROUTE_MODE = 1 ∨ g Reg.COLL_DESC_LISTS ≤ 262144)) &&
  within 1 4095 (g Reg.COLL_DESC_SHARDS) && decide (g Reg.COLL_DESC_ROUTE_SHIFT ≤ 15) && within 8 32 (g Reg.COLL_DESC_GRAPH_DEGREE) &&
  decide (64 ≤ g Reg.COLL_DESC_SPLIT_LEN ∧ 4 * g Reg.COLL_DESC_MERGE_LEN ≤ g Reg.COLL_DESC_SPLIT_LEN) &&
  within 1 255 (g Reg.COLL_DESC_COMPACT_FRAC) && within 1 255 (g Reg.COLL_DESC_REBUILD_FRAC) &&
  decide (1 ≤ g Reg.COLL_DESC_ROUTE_MAXEXP ∧ 16 ≤ g Reg.COLL_DESC_UPKEEP_LAG ∧ 1024 ≤ g Reg.COLL_DESC_GRAPH_LAG) &&
  s.collMapOk h && s.collEncoderOk h &&
  ((s.coll h).shardMap.all (fun o => decide (o.1 ≠ o.2))) &&
  ((s.myShards h).all (fun n => decide (2 ^ 20 ≤ s.ringSlots h n)))

/-- A score-map entry (R98). -/
def State.mapOk (s : State) (i : Nat) : Bool :=
  let g (f : Nat → Fld) : Nat := s.get (f i)
  decide (g Reg.COLL_SMAP_MAP_ID ≠ 0xFFFFFFFF) && partOk (g Reg.COLL_SMAP_PARTITION) && decide (g Reg.COLL_SMAP_STATE ≤ 4) &&
  (fp32.read (g Reg.COLL_SMAP_X0)).isSome &&
  (match fp32.read (g Reg.COLL_SMAP_INV_STEP) with | some v => decide (0 < v) | none => false) &&
  decide (g Reg.COLL_SMAP_SOURCE % 64 = 0) &&
  (s.mapsUsed.all (fun j => decide (j = i) || decide (s.get (Reg.COLL_SMAP_MAP_ID j) ≠ g Reg.COLL_SMAP_MAP_ID)))

/-- Bytes of a table's rows and optimiser state (R275, R276). -/
def State.tableBytes (s : State) (i : Nat) : Nat :=
  (s.get (Reg.EMB_TABLE_ROWS_M1 i) + 1) * s.get (Reg.EMB_TABLE_DIM i) * (if s.get (Reg.EMB_TABLE_OPT i) = 0 then 4 else 12)

/-- A table entry (R274, R276, R295). -/
def State.tableOk (s : State) (i : Nat) : Bool :=
  let g (f : Nat → Fld) : Nat := s.get (f i)
  let ts : Int := sext 8 (g Reg.EMB_TABLE_TSCALE)
  partOk (g Reg.EMB_TABLE_PARTITION) && decide (g Reg.EMB_TABLE_STATE ≤ 3 ∧ g Reg.EMB_TABLE_PLACEMENT ≤ 1 ∧ g Reg.EMB_TABLE_OPT ≤ 2) &&
  within 16 512 (g Reg.EMB_TABLE_DIM) && decide (g Reg.EMB_TABLE_DIM % 16 = 0 ∧ -64 ≤ ts ∧ ts ≤ 63) &&
  decide (g Reg.EMB_TABLE_GFRAC ≤ 63 ∧ g Reg.EMB_TABLE_LR_SHIFT ≤ 127 ∧ g Reg.EMB_TABLE_SQ_SHIFT ≤ 127) &&
  decide (g Reg.EMB_TABLE_OPT ≠ 2 ∨ 1 ≤ g Reg.EMB_TABLE_EPS) &&
  decide (g Reg.EMB_TABLE_PLACEMENT = 1 ∨ s.tableBytes i ≤ s.get Reg.EMB_CAPS_REPL_MIB * 2 ^ 20) &&
  (s.tablesUsed.all (fun j => decide (j = i) || decide (s.get (Reg.EMB_TABLE_TABLE j) ≠ g Reg.EMB_TABLE_TABLE)))

/-- Consecutive nodes of a chain are link neighbours (R232). -/
def State.neighboursInLine (s : State) : List Nat → Bool
  | a :: b :: t => (tget [] s.ovl.neighbours a).contains b && s.neighboursInLine (b :: t)
  | _ => true

/-- A chain field's nodes. -/
def State.chainField (s : State) (i : Nat) (alt : Bool) : List Nat :=
  ((List.range 4).map (fun k => s.get (if alt then Reg.ENC_MODEL_ALT_CHAIN i k else Reg.ENC_MODEL_CHAIN i k))).filter (fun n => decide (n ≠ 0xFFFF))

/-- A base that a delta may name (R220, R272). -/
def State.isBase (s : State) (id : Nat) : Bool :=
  s.modelsUsed.any (fun j => decide (s.get (Reg.ENC_MODEL_MODEL_ID j) = id ∧ s.get (Reg.ENC_MODEL_PARTITION j) = 0 ∧
    s.get (Reg.ENC_MODEL_FORM j) ≠ 3 ∧ s.get (Reg.ENC_MODEL_STATE j) ≠ 3))

/-- A model entry (R220, R232, R235, R272). -/
def State.modelOk (s : State) (i : Nat) : Bool :=
  let g (f : Nat → Fld) : Nat := s.get (f i)
  decide (g Reg.ENC_MODEL_PARTITION ≤ 64 ∧ g Reg.ENC_MODEL_STATE ≤ 4 ∧ g Reg.ENC_MODEL_KIND ≤ 3 ∧ g Reg.ENC_MODEL_FORM ≤ 3) &&
  within 1 4 (g Reg.ENC_MODEL_CHAIN_LEN) && decide (g Reg.ENC_MODEL_OUT_ELEM ≤ 3) &&
  (if g Reg.ENC_MODEL_FORM = 1 then s.isBase (g Reg.ENC_MODEL_BASE_ID) else decide (g Reg.ENC_MODEL_BASE_ID = 0)) &&
  decide (g Reg.ENC_MODEL_PARTITION ≠ 0 ∨ g Reg.ENC_MODEL_FORM ≠ 3) &&
  (decide (g Reg.ENC_MODEL_CHAIN_LEN = 1) || (s.neighboursInLine (s.chainField i false) && s.neighboursInLine (s.chainField i true)))

/-- A range entry (R303, R324). -/
def State.rangeOk (s : State) (i : Nat) : Bool :=
  let g (f : Nat → Fld) : Nat := s.get (f i)
  partOk (g Reg.HOME_RANGE_PARTITION) && decide (g Reg.HOME_RANGE_BASE % 64 = 0 ∧ g Reg.HOME_RANGE_LENGTH % 64 = 0 ∧ g Reg.HOME_RANGE_KIND ≤ 3) &&
  decide (g Reg.HOME_RANGE_KIND ≠ 0 ∨ g Reg.HOME_RANGE_REGION = 0xFFFF) &&
  (s.rangesUsed.all (fun j => decide (j = i) || decide (g Reg.HOME_RANGE_BASE + g Reg.HOME_RANGE_LENGTH ≤ s.get (Reg.HOME_RANGE_BASE j) ∨
    s.get (Reg.HOME_RANGE_BASE j) + s.get (Reg.HOME_RANGE_LENGTH j) ≤ g Reg.HOME_RANGE_BASE)))

/-- A region entry (R318, R324). -/
def State.regionOk (s : State) (i : Nat) : Bool :=
  let g (f : Nat → Fld) : Nat := s.get (f i)
  partOk (g Reg.HOME_REGION_PARTITION) && decide (g Reg.HOME_REGION_STATE ≤ 1 ∧ 1 ≤ g Reg.HOME_REGION_RETAIN) &&
  decide (g Reg.HOME_REGION_DESC_ADDR % 64 = 0 ∧ g Reg.HOME_REGION_LENGTH % 4096 = 0)

/-- A binding entry (R327, R345): no PID twice. -/
def State.bindOk (s : State) (i : Nat) : Bool :=
  partOk (s.get (Reg.CXP_BIND_PARTITION i)) &&
  (s.bindsUsed.all (fun j => decide (j = i) || decide (s.get (Reg.CXP_BIND_PID j) ≠ s.get (Reg.CXP_BIND_PID i))))

/-- A granary region entry (R195, R218). -/
def State.granRegionOk (s : State) (i : Nat) : Bool :=
  let b := s.get (Reg.GRAN_REGION_BASE i)
  let n := s.get (Reg.GRAN_REGION_PAGES i)
  decide (s.get (Reg.GRAN_REGION_KIND i) ≤ 4 ∧ s.get (Reg.GRAN_REGION_PARTITION i) ≤ 64 ∧ b + n ≤ 2 ^ 31) &&
  (s.granUsed.all (fun j => decide (j = i) || decide (b + n ≤ s.get (Reg.GRAN_REGION_BASE j) ∨
    s.get (Reg.GRAN_REGION_BASE j) + s.get (Reg.GRAN_REGION_PAGES j) ≤ b)))

/-- The entries of a gate list that are in use have a duration (R377). -/
def State.gateOk (s : State) (l : Nat) : Bool :=
  (List.range (s.get (Reg.SHAPE_GATE_HDR_COUNT l))).all (fun e => decide (s.get (Reg.SHAPE_GATE_DURATION l e) ≠ 0))

/-- Partitions that hold objects. -/
def State.syncParts (s : State) : List Nat := partitions.filter (fun p => decide (s.get (Reg.PART_SYNC_SYNC_COUNT p) ≠ 0))

/-- The object ranges end at object 131,071 and do not overlap (R370). -/
def State.syncOk (s : State) : Bool :=
  s.syncParts.all (fun p =>
    let b := s.get (Reg.PART_SYNC_SYNC_BASE p)
    let n := s.get (Reg.PART_SYNC_SYNC_COUNT p)
    decide (b + n ≤ 131072) && s.syncParts.all (fun q => decide (q = p) ||
      decide (b + n ≤ s.get (Reg.PART_SYNC_SYNC_BASE q) ∨ s.get (Reg.PART_SYNC_SYNC_BASE q) + s.get (Reg.PART_SYNC_SYNC_COUNT q) ≤ b)))

/-- Every value is in range and every entry valid (R413 check 5, R419 check 5). -/
def State.valuesOk (s : State) : Bool :=
  s.rangesOk && s.collsUsed.all s.collOk && s.mapsUsed.all s.mapOk && s.tablesUsed.all s.tableOk && s.modelsUsed.all s.modelOk &&
  s.rangesUsed.all s.rangeOk && s.regionsUsed.all s.regionOk && s.bindsUsed.all s.bindOk && s.granUsed.all s.granRegionOk &&
  s.gateOk 0 && s.gateOk 1 && s.syncOk &&
  decide (((List.range 11).map (fun c => s.get (Reg.OVL_CLASS_BUFFERS c))).sum = 4096)

/-! ### Quotas -/

/-- Entries of a partition among those in use. -/
def State.usedBy (s : State) (used : List Nat) (part : Nat → Fld) (p : Nat) : Nat := used.countP (fun i => decide (s.get (part i) = p))

/-- The collections, tables and models of a partition (R384, PART_USE). -/
def State.useOf (s : State) (p : Nat) : Nat × Nat × Nat :=
  (s.usedBy s.collsUsed Reg.COLL_DESC_PARTITION p, s.usedBy s.tablesUsed Reg.EMB_TABLE_PARTITION p, s.usedBy s.modelsUsed Reg.ENC_MODEL_PARTITION p)

/-- PART_USE shows the collections, tables and models of every partition. -/
def State.showUse (s : State) : State :=
  partitions.foldl (fun (s : State) p =>
    let u := s.useOf p
    ((s.set (Reg.PART_USE_MAX_COLL p) u.1).set (Reg.PART_USE_MAX_TABLES p) u.2.1).set (Reg.PART_USE_MAX_MODELS p) u.2.2) s

/-- Loft of a half that the reserved minima and the windows of resident bases take, in KiB (R231). -/
def State.loftPlan (s : State) (half : Nat) : Nat :=
  s.loftReserved half + ((s.modelsUsed.filter (fun i => decide (s.get (Reg.ENC_MODEL_PARTITION i) = 0) && s.placedIn i half)).map
    (fun i => s.get (Reg.ENC_MODEL_LOFT_KIB i))).sum

/-- No quota or capacity is exceeded (R231, R370). -/
def State.quotasOk (s : State) : Bool :=
  partitions.all (fun p =>
    let u := s.useOf p
    decide (u.1 ≤ s.get (Reg.PART_QUOTA_MAX_COLL p) ∧ u.2.1 ≤ s.get (Reg.PART_QUOTA_MAX_TABLES p) ∧ u.2.2 ≤ s.get (Reg.PART_QUOTA_MAX_MODELS p))) &&
  decide ((partitions.map (fun p => s.get (Reg.PART_QUOTA_MAX_COLL p))).sum ≤ 4096) &&
  decide ((partitions.map (fun p => s.get (Reg.PART_QUOTA_MAX_TABLES p))).sum ≤ 1024) &&
  decide ((partitions.map (fun p => s.get (Reg.PART_QUOTA_MAX_MODELS p))).sum ≤ 256) &&
  decide (s.loftPlan 0 ≤ loftKib ∧ s.loftPlan 1 ≤ loftKib)

/-! ### What an amendment may not change -/

/-- The fields of a COLL_DESC entry but for STATE. -/
def collFields (h : Nat) : List Fld := ((Reg.map03.find? (fun d => decide (d.off = 0x1080000))).map (fun d => d.fields h 0 0)).getD [] |>.filter
  (fun f => decide (f ≠ Reg.COLL_DESC_STATE h))

/-- The parameters that a collection keeps for its whole life (R59). -/
def collFixed (h : Nat) : List Fld := [Reg.COLL_DESC_HANDLE h, Reg.COLL_DESC_PARTITION h, Reg.COLL_DESC_METRIC h, Reg.COLL_DESC_ELEM h,
  Reg.COLL_DESC_DIM h, Reg.COLL_DESC_SKETCH_W h, Reg.COLL_DESC_ROUTE_MODE h, Reg.COLL_DESC_SHARDS h, Reg.COLL_DESC_ROUTE_SHIFT h,
  Reg.COLL_DESC_FILTERS h]

/-- Two states agree on some fields. -/
def agree (a b : State) (l : List Fld) : Bool := l.all (fun f => decide (a.get f = b.get f))

/-- A STATE that an amendment writes over a serving entry is not 0 or 1 (R57). -/
def stateKept (a b : State) (f : Fld) : Bool := decide (a.get f ≠ 2 ∨ (b.get f ≠ 0 ∧ b.get f ≠ 1))

/-- The change of one collection descriptor is allowed (R57, R59). -/
def collChangeOk (a b : State) (h : Nat) : Bool :=
  decide (a.get (Reg.COLL_DESC_PARTITION h) = 0) ||
    (stateKept a b (Reg.COLL_DESC_STATE h) && agree a b (collFixed h) &&
      (decide (b.get (Reg.COLL_DESC_STATE h) ≠ 3 ∨ a.get (Reg.COLL_DESC_STATE h) = 3) || agree a b (collFields h)))

/-- The change of one score map is allowed (R98): nothing of it changes, and it retires only when no collection names it. -/
def mapChangeOk (a b : State) (i : Nat) : Bool :=
  decide (a.get (Reg.COLL_SMAP_MAP_ID i) = 0) ||
    (stateKept a b (Reg.COLL_SMAP_STATE i) &&
      agree a b [Reg.COLL_SMAP_MAP_ID i, Reg.COLL_SMAP_PARTITION i, Reg.COLL_SMAP_X0 i, Reg.COLL_SMAP_INV_STEP i, Reg.COLL_SMAP_DIGEST i] &&
      (decide (b.get (Reg.COLL_SMAP_STATE i) ≠ 3) || b.collsUsed.all (fun h =>
        decide (b.get (Reg.COLL_DESC_STATE h) = 3 ∨ b.get (Reg.COLL_DESC_SCORE_MAP h) ≠ a.get (Reg.COLL_SMAP_MAP_ID i)))))

/-- The change of one model entry is allowed (R57, R220): a base that a serving model names does not retire. -/
def modelChangeOk (a b : State) (i : Nat) : Bool :=
  decide (a.get (Reg.ENC_MODEL_MODEL_ID i) = 0) ||
    (stateKept a b (Reg.ENC_MODEL_STATE i) &&
      (decide (b.get (Reg.ENC_MODEL_STATE i) ≠ 3 ∨ a.get (Reg.ENC_MODEL_PARTITION i) ≠ 0) || b.modelsUsed.all (fun j =>
        decide (b.get (Reg.ENC_MODEL_STATE j) = 3 ∨ b.get (Reg.ENC_MODEL_FORM j) ≠ 1 ∨
          b.get (Reg.ENC_MODEL_BASE_ID j) ≠ a.get (Reg.ENC_MODEL_MODEL_ID i)))))

/-- The gate lists written are the pending one at the step, with a later take-over (R378). -/
def gateChangeOk (a b : State) (step : Nat) (l : List CfgItem) : Bool :=
  (touchedGates l).all (fun g => decide (g ≠ a.activeList step ∧ step < b.get (Reg.SHAPE_GATE_HDR_TAKEOVER g)))

/-- Every change of a WRITE amendment at a step is allowed against the configuration that will be in force (R419 check 5). -/
def changesOk (a b : State) (step : Nat) (l : List CfgItem) : Bool :=
  (touchedIn l 0x1080000).all (collChangeOk a b) && (touchedIn l 0x1060000).all (mapChangeOk a b) &&
  (touchedIn l 0x1410000).all (modelChangeOk a b) &&
  (touchedIn l 0x1510000).all (fun i => stateKept a b (Reg.EMB_TABLE_STATE i)) && gateChangeOk a b step l

/-- The start-only settings (R433): the TOPOLOGY section's registers, the export settings and receive buffers. -/
def State.startOnly (s : State) : List Nat :=
  [s.get Reg.STEP_ROOTS_CAND0, s.get Reg.STEP_ROOTS_CAND1, s.get Reg.STEP_ROOTS_CAND2, s.get Reg.STEP_ROOTS_CAND3,
    s.get Reg.HOME_CFG_EXPORT_POS, s.get Reg.HOME_CFG_EXPORTERS, s.get Reg.HOME_CFG_SHARE_64G, s.get Reg.HOME_CFG_RES_GIB] ++
  (List.range 11).map (fun c => s.get (Reg.OVL_CLASS_BUFFERS c))

/-- A WRITE touches a start-only setting (R419, R433): it writes a merge tree or a route, or changes one of the others. -/
def touchesStart (a b : State) (l : List CfgItem) : Bool :=
  !(touchedIn l 0x1700500).isEmpty || !(touchedIn l 0x1710000).isEmpty || decide (a.startOnly ≠ b.startOnly)

end Sys2Proof.Machine
end

