-- ==== Sys2Proof/Machine/Image.lean ====
section
/-! DEFINITION. The configuration image (R411 to R413): its header and directory, the checks it must pass, and what a node's
state is once it is in force. What its sections hold comes as an operand, since the manual does not lay their bytes out
(assumption 41). -/

namespace Sys2Proof.Machine

open Sys2Proof

/-! ### Header and directory (R411, R412) -/

/-- A directory entry. -/
structure Section where
  typ : Nat
  off : Nat
  len : Nat
  deriving DecidableEq, Repr

/-- The sections of an image. -/
def imgSections (b : List Byte) : List Section :=
  (List.range (leNat b 7 1)).map (fun k => { typ := leNat b (64 + 16 * k) 2, off := leNat b (68 + 16 * k) 4, len := leNat b (72 + 16 * k) 4 })

/-- The bytes of the section of a type. -/
def imgSection (b : List Byte) (t : Nat) : List Byte :=
  match (imgSections b).find? (fun x => decide (x.typ = t)) with
  | some x => (b.drop x.off).take x.len
  | none => []

/-- Two sections do not share a byte. -/
def sectionsApart (a c : Section) : Bool := decide (a.off + a.len ≤ c.off ∨ c.off + c.len ≤ a.off)

/-- Check 1 of R413: header and directory are well formed, every type but 8 is there once, and sections neither overlap nor
pass IMAGE_BYTES. -/
def imgHeaderOk (b : List Byte) : Bool :=
  let l := imgSections b
  decide (leNat b 0 4 = 0x4D494C54 ∧ leNat b 4 2 = 1 ∧ leNat b 8 4 = b.length ∧ b.length ≤ 2 ^ 26) &&
  decide (1 ≤ l.length ∧ l.length ≤ 32 ∧ 64 + 16 * l.length + 64 ≤ b.length) &&
  (l.map (·.typ)).all (fun t => within 1 10 t) && decide ((l.map (·.typ)).Nodup) &&
  ((List.range 11).filter (fun t => decide (t ≠ 0 ∧ t ≠ 8))).all (fun t => (l.map (·.typ)).contains t) &&
  l.all (fun x => decide (x.off % 64 = 0 ∧ 64 + 16 * l.length ≤ x.off ∧ x.off + x.len ≤ b.length)) &&
  (List.range l.length).all (fun i => (List.range i).all (fun j =>
    match l[i]?, l[j]? with
    | some x, some y => sectionsApart x y
    | _, _ => true))

/-- The digest of a key, by which a signature names it (R411). -/
def keyDigest (key : List Byte) : Digest := Config.sm3 key

/-- The signature in the last 64 bytes verifies over the bytes before it (R411). -/
def endSigned (key b : List Byte) : Bool :=
  Config.sm2Verify (keyDigest key) (b.take (b.length - 64)) (b.drop (b.length - 64))

/-! ### The fields an image names -/

/-- The field at a bit address of the window. -/
def fldAt (k : Nat) : Option Fld :=
  match regFind (k % 2 ^ 32 / 32 * 4) with
  | none => none
  | some (d, i, j) => (d.fields i j 0).find? (fun f => decide (f.bit = k))

/-- A field that an image may set: IMG or SAF (R466). -/
def settable (f : Fld) : Bool := decide (f.acc = .img ∨ f.acc = .saf)

/-- A value the image names lies in an IMG or SAF field. -/
def fieldOk (e : Nat × Nat) : Bool :=
  match fldAt e.1 with
  | some f => settable f && decide (e.2 < 2 ^ f.w)
  | none => false

/-- Set what the image names. -/
def State.setNamed (s : State) (e : Nat × Nat) : State :=
  match fldAt e.1 with
  | some f => s.when (settable f) (fun t => t.set f e.2)
  | none => s

/-- The image names a field. -/
def imgNames (i : Image) (f : Fld) : Bool := i.fields.any (fun e => decide (e.1 = f.bit))

/-- Give a field that the image leaves unnamed its default, where the window's default is that of an unused entry (R7). -/
def State.orDefault (s : State) (i : Image) (f : Fld) (v : Nat) : State := if imgNames i f then s else s.set f v

/-- The defaults of a collection's descriptor (R85). -/
def State.collDefaults (s : State) (i : Image) (h : Nat) : State :=
  let s := (s.orDefault i (Reg.COLL_DESC_GRAPH_DEGREE h) 24).orDefault i (Reg.COLL_DESC_COMPACT_FRAC h) 32
  let s := (s.orDefault i (Reg.COLL_DESC_REBUILD_FRAC h) 8).orDefault i (Reg.COLL_DESC_ROUTE_BEAM h) 2048
  let s := (s.orDefault i (Reg.COLL_DESC_ROUTE_MAXEXP h) 16384).orDefault i (Reg.COLL_DESC_UPKEEP_LAG h) 1024
  let s := s.orDefault i (Reg.COLL_DESC_GRAPH_LAG h) 65536
  s.orDefault i (Reg.COLL_DESC_MERGE_LEN h) (s.get (Reg.COLL_DESC_SPLIT_LEN h) / 16)

/-! ### DRAM layout (R22, R174, R175) -/

/-- The class that the layout planner fixes for a use: 0 rebuildable, 1 coded, 2 privileged. -/
def useClass : DramUse → Nat
  | .planes | .routing | .projections | .rerankCache | .weights => 0
  | .tables | .sharedCache => 1
  | .shadow | .listHeaders | .flashMap | .openParity | .directory | .staging | .pds | .safetyData => 2

/-- Every use is in its class, in a channel that exists, and all fit in 744 GiB. -/
def layoutOk (l : List LayoutEntry) : Bool :=
  l.all (fun e => decide (e.cls = useClass e.use ∧ e.chan < 512)) && decide ((l.map (·.mib)).sum ≤ 761856)

/-- MiB of a channel by class. -/
def allocAdd (a : Nat × Nat × Nat) (e : LayoutEntry) : Nat × Nat × Nat :=
  match e.cls with
  | 2 => (a.1 + e.mib, a.2.1, a.2.2)
  | 1 => (a.1, a.2.1 + e.mib, a.2.2)
  | _ => (a.1, a.2.1, a.2.2 + e.mib)

/-- Bytes of data that the shared space's two regions can hold: seven eighths of their allocation (R175, R298). -/
def sharedBytes (l : List LayoutEntry) : Nat :=
  ((l.filter (fun e => decide (e.use = .sharedCache))).map (·.mib)).sum * 2 ^ 20 * 7 / 8

/-! ### The granary (R192, R195, R198) -/

/-- Channels that a mask names. -/
def maskCount (m : Nat) : Nat := popcount 16 m

/-- The package profile meets R192. -/
def profileOk (p : Profile) : Bool :=
  decide ((p.page = 16384 ∨ p.page = 32768 ∨ p.page = 65536) ∧ 448 * (p.page / 4096) ≤ p.spare ∧
    1 ≤ p.planes ∧ p.planes ≤ 4 ∧ 1 ≤ p.blocks ∧ p.blocks ≤ 65536 ∧ 1 ≤ p.pages ∧ p.pages ≤ 4096)

/-- User capacity in bytes of a number of LUNs (R198). -/
def userBytes (p : Profile) (luns op : Nat) : Nat :=
  (luns * p.planes * p.blocks * p.pages * p.page * 98 / 100 - 64 * 2 ^ 30) * (100 - op) / 100

/-- The profile an image holds. -/
def imgProf (i : Image) : Profile :=
  { page := i.profile.1, spare := i.profile.2.1, planes := i.profile.2.2.1, blocks := i.profile.2.2.2.1,
    pages := i.profile.2.2.2.2.1, cycles := i.profile.2.2.2.2.2 }

/-- Pages allocated to regions. -/
def State.regionPages (s : State) : Nat := (s.granUsed.map (fun n => s.get (Reg.GRAN_REGION_PAGES n))).sum

/-! ### Topology (R354, R357, R364) -/

/-- The far end of a link of a node. -/
def imgFar (i : Image) (n l : Nat) : Option (Nat × Nat) :=
  match i.links.find? (fun e => decide ((e.1 = n ∧ e.2.1 = l) ∨ (e.2.2.1 = n ∧ e.2.2.2 = l))) with
  | some e => if e.1 = n ∧ e.2.1 = l then some e.2.2 else some (e.1, e.2.1)
  | none => none

/-- The nodes that links join to a node. -/
def imgNbrs (i : Image) (n : Nat) : List Nat :=
  ((List.range 8).filterMap (fun l => (imgFar i n l).map (·.1))).dedup

/-- The links are good: each joins two members by link numbers 0 to 7, and no end of one is used twice. -/
def imgLinksOk (i : Image) : Bool :=
  let ends := (i.links.map (fun e => [(e.1, e.2.1), e.2.2])).flatten
  i.links.all (fun e => decide (e.1 ≠ e.2.2.1)) && decide (ends.Nodup) &&
  ends.all (fun e => i.members.contains e.1 && decide (e.2 < 8))

/-- The parent of a node in a candidate's tree. -/
def imgParent (i : Image) (r n : Nat) : Option Nat :=
  match i.trees.find? (fun t => decide (t.1 = r)) with
  | some t => (t.2.find? (fun e => decide (e.1 = n))).map (·.2)
  | none => none

/-- The depth of a node below the root of a tree; none where its parents do not lead there. -/
def imgDepth (i : Image) (r root : Nat) : Nat → Nat → Option Nat
  | 0, _ => none
  | fuel + 1, n => if n = root then some 0
    else match imgParent i r n with
      | some a => (imgDepth i r root fuel a).map (· + 1)
      | none => none

/-- The root candidates that the image names: number and node. -/
def State.candidates (s : State) : List (Nat × Nat) :=
  ([s.get Reg.STEP_ROOTS_CAND0, s.get Reg.STEP_ROOTS_CAND1, s.get Reg.STEP_ROOTS_CAND2, s.get Reg.STEP_ROOTS_CAND3].zipIdx.filter
    (fun e => decide (e.1 ≠ 0xFFF))).map (fun e => (e.2, e.1))

/-- Every member is in a candidate's tree, and every tree edge is a listed link (R364). -/
def imgTreeOk (i : Image) (c : Nat × Nat) : Bool :=
  i.members.contains c.2 && (imgParent i c.1 c.2).isNone &&
  i.members.all (fun n => (imgDepth i c.1 c.2 4096 n).isSome &&
    (match imgParent i c.1 n with | some a => (imgNbrs i n).contains a | none => true))

/-- A hop from a node climbs towards the first candidate's root: the far node lies nearer to it, or as near with a lower
identifier (R357, assumption 42). -/
def imgClimbs (i : Image) (root a b : Nat) : Bool :=
  match imgDepth i 0 root 4096 a, imgDepth i 0 root 4096 b with
  | some x, some y => decide (y < x ∨ (y = x ∧ b < a))
  | _, _ => false

/-- The route of a node to a destination: the primary link first. -/
def imgRoute (i : Image) (n d : Nat) : List Nat :=
  match i.routes.find? (fun e => decide (e.1 = n ∧ e.2.1 = d)) with | some e => e.2.2 | none => []

/-- From a node on, the primary links lead to the destination without a climb after a descent. -/
def imgGoesOn (i : Image) (root d : Nat) : Nat → Nat → Bool → Bool
  | 0, _, _ => false
  | fuel + 1, n, down =>
    if n = d then true
    else match (imgRoute i n d).head? with
      | none => false
      | some l => match imgFar i n l with
        | none => false
        | some (m, _) =>
          let up := imgClimbs i root n m
          if up && down then false else imgGoesOn i root d fuel m (!up)

/-- Every route of a node, primary or alternate, is up/down (R357). -/
def imgRoutesOk (i : Image) (root : Nat) : Bool :=
  i.routes.all (fun e => decide (e.2.2.length ≤ 4) && e.2.2.all (fun l =>
    match imgFar i e.1 l with
    | none => false
    | some (m, _) => imgGoesOn i root e.2.1 4096 m (!imgClimbs i root e.1 m)))

/-! ### The state once an image is in force -/

/-- The fields of a load record's weight header (R270, R422). -/
def headMem (m : ModelMem) (b : List Byte) : ModelMem :=
  { m with vqDim := leNat b 1 1, vqRounds := leNat b 2 1, excTol := leNat b 3 1, statsAddr := leNat b 24 8,
           statsSlots := leNat b 32 4, statsSteps := leNat b 36 4, keySlot := leNat b 40 2 }

/-- A protected model's keys are unwrapped into its slot; when that fails the model reads STATE 4 (R272, R422). -/
def State.unwrap (s : State) (i : Nat) (wrapped : List Byte) : State :=
  if s.get (Reg.ENC_MODEL_FORM i) ≠ 3 then s
  else
    let k := Config.unwrapKeys wrapped
    if k.isEmpty then (s.setB Reg.SEC_STATUS_KEY_UNWRAP_FAIL_EVT true).spoiled i
    else { s with cfg := { s.cfg with keySlots := tset [] s.cfg.keySlots (s.modelMem i).keySlot k } }

/-- Take a load record (R270): the weight header and keys; the entry waits for its first pass. -/
def State.loadModel (s : State) (r : LoadRec) : State :=
  let s := s.modModel r.entry (fun m => headMem m r.head)
  if s.runsModel r.entry then s.unwrap r.entry r.wrapped else s

/-- The credits of a partition's shapers are full after RESET_N (R375). -/
def State.fullCredits (s : State) (p : Nat) : State :=
  let s := s.setI (Reg.SHAPE_ADM_CREDIT p) ((256 * s.get (Reg.SHAPE_ADM_BURST p) : Nat) : Int)
  let s := (List.range 8).foldl (fun (s : State) n => s.setI (Reg.SHAPE_LINK_CREDIT p n) ((256 * s.get (Reg.SHAPE_LINK_BURST p) : Nat) : Int)) s
  (List.range 2).foldl (fun (s : State) n => s.setI (Reg.SHAPE_PORT_CREDIT p n) ((256 * s.get (Reg.SHAPE_PORT_BURST p) : Nat) : Int)) s

/-- Topology and identity of this node (R354, R364, R411). -/
def State.loadTopology (s : State) (i : Image) : State :=
  let me := leNat i.raw 12 2 % 4096
  let s := (s.set Reg.STEP_ROLE_NODE_ID me).set Reg.NODE_IDENT_NODE_ID me
  let s := s.set Reg.OVL_TOPO_DIGEST (leNat (digestBytes (Config.sm3 (imgSection i.raw 3))) 0 8)
  let par : Tab Nat := i.trees.foldl (fun (t : Tab Nat) r => r.2.foldl (fun (t : Tab Nat) e => tput t (4096 * r.1 + e.1) e.2) t) []
  let exp : Tab (Nat × Nat) := (List.range 8).foldl (fun (t : Tab (Nat × Nat)) l => match imgFar i me l with | some f => tput t l f | none => t) []
  let nb : Tab (List Nat) := i.members.foldl (fun (t : Tab (List Nat)) n => tput t n (imgNbrs i n)) []
  { s.modOvl (fun o => { o with treeParent := par, neighbours := nb, expected := exp }) with
    cfg := { s.cfg with topology := i.members } }

/-- The memory that the LAYOUT, BLOCKS and OBJECTS sections give (R174, R192, R276, R296). -/
def State.loadMemory (s : State) (i : Image) : State :=
  let alloc : Tab (Nat × Nat × Nat) := i.layout.foldl (fun (t : Tab (Nat × Nat × Nat)) e =>
    tset (0, 0, 0) t e.chan (allocAdd (tget (0, 0, 0) t e.chan) e)) []
  let s := s.modStk fun k => { k with alloc := alloc, freeMib := 761856 - (i.layout.map (·.mib)).sum }
  let s := s.modGran fun g => { g with profile := (imgProf i), chanMask := i.chanMask }
  let s := s.modEmb fun e => { e with nodes := i.tableNodes.foldl (fun (t : Tab (List Nat)) x => tset [] t x.1 x.2) [] }
  { s with home := { s.home with exports := i.exports,
                                 frameCap := (sharedBytes i.layout - s.get Reg.HOME_CFG_RES_GIB * 2 ^ 30) / 4096 } }

/-- The collections, score maps and models that the image holds. -/
def State.loadObjects (s : State) (i : Image) : State :=
  let s := s.collsUsed.foldl (fun (s : State) h => s.collDefaults i h) s
  let s := s.regionsUsed.foldl (fun (s : State) r => s.orDefault i (Reg.HOME_REGION_RETAIN r) 5000) s
  let s := s.modSrch fun k => { k with
    colls := i.colls.foldl (fun (t : Tab CollInfo) c =>
      tset CollInfo.none t c.handle { CollInfo.none with shardMap := c.shardMap, proj := c.proj, offs := c.offs }) [],
    maps := i.maps.foldl (fun (t : Tab (List Nat)) m => tset [] t m.1 m.2) [] }
  let s := i.colls.foldl (fun (s : State) c => s.makeShards c.handle) s
  i.models.foldl State.loadModel s

/-- Keys, digests and the place of the image in the log (R411, R413, R420, R435). -/
def State.loadKeys (s : State) (i : Image) : State :=
  let base := leNat i.raw 16 8
  let head : Digest := BitVec.ofNat 256 (leNat i.raw 24 32)
  let s := (s.set Reg.SEC_OWNER_DIGEST (keyDigest i.ownerKey).toNat).set Reg.SEC_SAFETY_DIGEST (keyDigest i.safetyKey).toNat
  let s := (s.set Reg.CFG_IMAGE_DIGEST (Config.sm3 i.raw).toNat).set Reg.CFG_HEAD base
  let s := s.set Reg.CFG_HEAD_DIGEST head.toNat
  { s with cfg := { s.cfg with
    ownerKey := i.ownerKey, safetyKey := i.safetyKey, roots := i.roots, certKey := i.certKey, chainDer := i.chainDer,
    partKeys := i.partKeys.foldl (fun (t : Tab (List Byte)) k => tset [] t k.1 k.2) [],
    baseSeq := base, baseHead := head, heads := tput [] base head, logLen := i.logLen } }

/-- The state with an image's configuration in force. -/
def State.loadImage (s : State) (i : Image) : State :=
  let s := i.fields.foldl State.setNamed s
  let s := (s.loadKeys i).loadTopology i
  let s := (s.loadMemory i).loadObjects i
  let s := partitions.foldl (fun (s : State) p => (s.fullCredits p).showPart p) s
  let s := s.set Reg.GRAN_SPACE_ALLOC_GIB (s.regionPages * 16384 / 2 ^ 30)
  (s.showUse.showLoft).setB Reg.HOME_MODE_SWAP_ONLY true

/-! ### Verification (R413) -/

/-- The fields that every image must name (R7). -/
def State.required (s : State) : List Fld :=
  [Reg.STEP_ROOTS_CAND0, Reg.HOME_CFG_EXPORT_POS, Reg.HOME_CFG_EXPORTERS] ++ s.collsUsed.map Reg.COLL_DESC_SPLIT_LEN

/-- Check 5 of R413 on the configuration that the image makes. -/
def imgRulesOk (i : Image) : Bool :=
  let s := State.reset.loadImage i
  i.fields.all fieldOk && s.valuesOk && s.quotasOk && layoutOk i.layout && profileOk (imgProf i) &&
  decide (s.regionPages * 16384 ≤ userBytes (imgProf i) (maskCount i.chanMask * i.lunsPer) (s.get Reg.GRAN_CFG_OP_PCT)) &&
  decide (s.get Reg.HOME_CFG_RES_GIB * 2 ^ 30 ≤ sharedBytes i.layout ∨ s.get Reg.HOME_CFG_EXPORT_POS = 0xFFF) &&
  i.members.all (fun n => decide (n ≤ 4094)) && decide (i.members.Nodup) && imgLinksOk i &&
  s.candidates.all (imgTreeOk i) && imgRoutesOk i (s.get Reg.STEP_ROOTS_CAND0) && s.required.all (imgNames i)

/-- Checks 1 to 5 of R413: the FAIL_REASON of the first that fails. -/
def imgFails (i : Image) : Option Nat :=
  let saf := imgSection i.raw 9
  let me := leNat i.raw 12 2
  if !imgHeaderOk i.raw then some 3
  else if !endSigned i.ownerKey i.raw then some 4
  else if !endSigned i.safetyKey saf then some 5
  else if leNat i.raw 6 1 ≠ 8 ∨ i.members.contains (me % 4096) = false then some 6
  else if !imgRulesOk i then some 7
  else none

/-- What verification of a device's image gives: a FAIL_REASON, or the image. -/
def imgVerify : ImgRead → Nat ⊕ Image
  | .noDevice => .inl 1
  | .badSfdp => .inl 2
  | .image i => match imgFails i with | some r => .inl r | none => .inr i

end Sys2Proof.Machine
end

