-- ==== Sys2Proof/Machine/Amend.lean ====
section
/-! DEFINITION. Amendments (R416 to R423, R433): submission through a stage slot, the root's checks, the log and its chain, and
what each kind does at its step. -/

namespace Sys2Proof.Machine

open Sys2Proof

/-! ### The record (R416) -/

/-- KIND, SIGNER, PARTITION, LENGTH, STEP, NONCE, SEQ and TARGET of a record. -/
def amKind (r : List Byte) : Nat := leNat r 0 2
/-- SIGNER. -/
def amSigner (r : List Byte) : Nat := leNat r 2 1
/-- PARTITION. -/
def amPart (r : List Byte) : Nat := leNat r 3 1
/-- LENGTH. -/
def amLength (r : List Byte) : Nat := leNat r 4 4
/-- STEP. -/
def amStep (r : List Byte) : Nat := leNat r 8 8
/-- NONCE. -/
def amNonce (r : List Byte) : Nat := leNat r 16 8
/-- SEQ, 0 before acceptance. -/
def amSeq (r : List Byte) : Nat := leNat r 24 8
/-- TARGET. -/
def amTarget (r : List Byte) : Nat := leNat r 32 2
/-- The body. -/
def amBody (r : List Byte) : List Byte := (r.drop 40).take (r.length - 104)

/-- The items of a WRITE body; none when it breaks the layout or runs past the window. -/
def amItems : Nat → List Byte → Option (List CfgItem)
  | 0, b => if b.isEmpty then some [] else none
  | fuel + 1, b =>
    if b.isEmpty then some []
    else
      let off := leNat b 0 4
      let n := leNat b 4 2
      let size := cdiv (8 + n) 8 * 8
      if b.length < size ∨ n < 4 ∨ 4096 < n ∨ n % 4 ≠ 0 ∨ off % 4 ≠ 0 ∨ 0x2000000 < off + n then none
      else (amItems fuel (b.drop size)).map (fun l => { off := off, data := (b.drop 8).take n } :: l)

/-- The items of a record: none of another kind. -/
def recItems (r : List Byte) : List CfgItem := if amKind r = 1 then (amItems r.length (amBody r)).getD [] else []

/-- The model entry that a MODEL_LOAD body holds (R422). -/
def recEntry (r : List Byte) : List Byte := (amBody r).take 128
/-- Its weight-header fields FORM to KEY_SLOT. -/
def recHead (r : List Byte) : List Byte := ((amBody r).drop 128).take 42
/-- Its wrapped keys. -/
def recKeys (r : List Byte) : List Byte := ((amBody r).drop 178).take 128

/-- The body of a record has the form of its kind. -/
def bodyOk (r : List Byte) : Bool :=
  let b := amBody r
  match amKind r with
  | 1 => (amItems r.length b).isSome && !b.isEmpty
  | 2 => decide (178 ≤ b.length ∧ (leNat (recEntry r) 7 1 ≠ 3 ∨ 306 ≤ b.length))
  | 3 =>
    let c := Config.storeBody b
    decide (amTarget r ≠ 0xFFFF ∧ c.1 < 2 ∧ c.2.2.2.length ≤ 64512 ∧ c.2.1 + c.2.2.2.length ≤ 2 ^ 26)
  | _ => true

/-- REASON 7: header, LENGTH and item bounds (R416, R419). -/
def recordOk (kind : Nat) (r : List Byte) : Bool :=
  decide (112 ≤ r.length ∧ r.length ≤ 65528 ∧ r.length % 8 = 0 ∧ amLength r = r.length) &&
  decide (amKind r = kind ∧ amSigner r ≤ 2 ∧ (amTarget r ≤ 4094 ∨ amTarget r = 0xFFFF)) &&
  (if amSigner r = 2 then partOk (amPart r) else decide (amPart r = 0)) && bodyOk r

/-- The record as it is signed: SEQ 0 and without the signature (R416). -/
def signedPart (r : List Byte) : List Byte := zeroAt (r.take (r.length - 64)) 24 8

/-- The key of a signer (R417). -/
def State.signerKey (s : State) (r : List Byte) : List Byte :=
  match amSigner r with
  | 0 => s.cfg.ownerKey
  | 1 => s.cfg.safetyKey
  | _ => tget [] s.cfg.partKeys (amPart r)

/-- REASON 1: the signature verifies under SIGNER's key. -/
def State.signedBy (s : State) (r : List Byte) : Bool :=
  let k := s.signerKey r
  !k.isEmpty && Config.sm2Verify (keyDigest k) (signedPart r) (r.drop (r.length - 64))

/-- Changed amendments and records change the configuration part's state. -/
def State.modCfg (s : State) (f : CfgSt → CfgSt) : State := { s with cfg := f s.cfg }

/-! ### Models (R422) -/

/-- A free ENC_MODEL entry. -/
def State.freeModel (s : State) : Option Nat :=
  (List.range 256).find? (fun i => decide (s.get (Reg.ENC_MODEL_MODEL_ID i) = 0 ∧ s.get (Reg.ENC_MODEL_STATE i) = 0))

/-- Write a model entry: pending, and serving no earlier than the record's STEP (R421). -/
def State.putModel (s : State) (i step : Nat) (entry : List Byte) : State :=
  let s := (s.writeItem { off := 0x1410000 + 128 * i, data := entry }).set (Reg.ENC_MODEL_STATE i) 1
  s.set (Reg.ENC_MODEL_STEP_EFFECTIVE i) (max step (s.get (Reg.ENC_MODEL_STEP_EFFECTIVE i)))

/-! ### The configuration that will be in force (R419) -/

/-- The state with the WRITE amendments that wait for their step applied to the registers. -/
def State.pendingConfig (s : State) : State :=
  (s.cfg.log.filter (fun a => !a.applied)).foldl (fun (s : State) a => s.writeItems (recItems a.raw)) s

/-- The state with a record's change in its registers. -/
def State.withRecord (s : State) (r : List Byte) : State :=
  match amKind r with
  | 1 => s.writeItems (recItems r)
  | 2 => match s.freeModel with
    | some i => (s.modModel i (fun m => headMem m (recHead r))).putModel i (amStep r) (recEntry r)
    | none => s
  | _ => s

/-! ### Authority (R417) -/

/-- The access code that a signer's writes need. -/
def signerAcc (signer : Nat) : Acc := if signer = 1 then .saf else .img

/-- Every word of the items lies in a register, and every field of it is one the signer may write. -/
def itemsAcc (signer : Nat) (l : List CfgItem) : Bool :=
  l.all (fun it => it.words.all (fun w => (regFind w.1).isSome && (wordFields w.1).all (fun f => decide (f.acc = signerAcc signer))))

/-- An entry of a table is partition p's: free or p's before, p's after. -/
def entryOf (a b : State) (f : Fld) (p : Nat) : Bool := decide ((a.get f = 0 ∨ a.get f = p) ∧ b.get f = p)

/-- A register that partition p's signer may write: its collections, tables, score maps, ring placement and ring owners. -/
def partMay (a b : State) (p : Nat) (r : Nat × Nat × Nat) : Bool :=
  if r.1 = 0x1080000 then entryOf a b (Reg.COLL_DESC_PARTITION r.2.1) p
  else if r.1 = 0x1510000 then entryOf a b (Reg.EMB_TABLE_PARTITION r.2.1) p
  else if r.1 = 0x1060000 then entryOf a b (Reg.COLL_SMAP_PARTITION r.2.1) p
  else if r.1 = 0x401000 ∨ r.1 = 0x401008 ∨ r.1 = 0x402000 ∨ r.1 = 0x402008 ∨ r.1 = 0x1814000 then decide (r.2.1 + 1 = p)
  else false

/-- REASON 2: every change lies within the signer's authority. -/
def authorised (a b : State) (r : List Byte) : Bool :=
  match amKind r, amSigner r with
  | 1, 2 => itemsAcc 2 (recItems r) && (itemRegs (recItems r)).all (partMay a b (amPart r))
  | 1, g => itemsAcc g (recItems r)
  | 2, 2 => decide (leNat (recEntry r) 4 1 = amPart r)
  | 3, g => decide (g = 0)
  | 4, g => decide (g = 0)
  | 5, g => decide (g = 1)
  | _, _ => false

/-! ### Quotas and capacity (R22, R370) -/

/-- MiB that this node's part of a table takes (R275, R276). -/
def State.tableMib (s : State) (i : Nat) : Nat :=
  let b := s.tableBytes i
  if s.get (Reg.EMB_TABLE_PLACEMENT i) = 0 then cdiv b (2 ^ 20) else cdiv b (2 ^ 20 * max 1 (Config.shadowNodes (s.get (Reg.EMB_TABLE_NODES i))).length)

/-- MiB that an amendment's new tables and model take. -/
def newMib (a b : State) (r : List Byte) : Nat :=
  (((touchedIn (recItems r) 0x1510000).filter (fun i => decide (a.get (Reg.EMB_TABLE_PARTITION i) = 0))).map b.tableMib).sum +
    (if amKind r = 2 then cdiv (leNat (recHead r) 8 8) (2 ^ 20) else 0)

/-- An amendment needs a free entry of a table of score maps, ranges, regions or models, and none is free: it would put
another object over one in use. -/
def needsEntry (a b : State) (r : List Byte) : Bool :=
  let l := recItems r
  let other (f : Fld) : Bool := decide (a.get f ≠ 0 ∧ b.get f ≠ 0 ∧ a.get f ≠ b.get f)
  (decide (a.mapsUsed.length = 1024) && (touchedIn l 0x1060000).any (fun i => other (Reg.COLL_SMAP_MAP_ID i))) ||
  (decide (a.rangesUsed.length = 4096) && (touchedIn l 0x1610000).any (fun i => other (Reg.HOME_RANGE_PARTITION i))) ||
  (decide (a.regionsUsed.length = 4096) && (touchedIn l 0x1650000).any (fun i => other (Reg.HOME_REGION_PARTITION i))) ||
  (decide (amKind r = 2) && a.freeModel.isNone)

/-- A partition's object range stays at least as large as the objects it uses (R370). -/
def syncUseOk (s b : State) : Bool :=
  partitions.all (fun p =>
    decide (s.get (Reg.PART_SYNC_SYNC_COUNT p) ≤ b.get (Reg.PART_SYNC_SYNC_COUNT p)) ||
      decide (s.typedObjs.countP (fun o => decide (s.syncOwner o = p)) ≤ b.get (Reg.PART_SYNC_SYNC_COUNT p)))

/-- REASON 9: no quota or capacity is exceeded. -/
def State.quotaFits (s : State) (a b : State) (r : List Byte) : Bool :=
  b.quotasOk && syncUseOk s b && decide (newMib a b r ≤ s.stk.freeMib)

/-! ### The log (R420) -/

/-- Bytes of a device's log that are erased and not yet programmed: 0 device A, 1 device B. -/
def State.logFree (s : State) (d : Nat) : Nat :=
  if d = 0 then s.cfg.logLen.1 - (s.cfg.logWr.1 - s.cfg.logErased.1) else s.cfg.logLen.2 - (s.cfg.logWr.2 - s.cfg.logErased.2)

/-- CFG_LOG shows the log's use (R434). -/
def State.showLog (s : State) : State :=
  let used := max (s.cfg.logWr.1 - s.cfg.logErased.1) (s.cfg.logWr.2 - s.cfg.logErased.2)
  (s.set Reg.CFG_LOG_FREE_KIB (min (s.logFree 0) (s.logFree 1) / 1024)).set Reg.CFG_LOG_USED_KIB (cdiv used 1024)

/-- A record is meant for this node: every member, or its target (R420). -/
def State.meantHere (s : State) (r : List Byte) : Bool := decide (amTarget r = 0xFFFF ∨ amTarget r = s.me)

/-- A record of the log whose (SIGNER, PARTITION, NONCE) is another's. -/
def sameNonce (r q : List Byte) : Bool := decide (amSigner r = amSigner q ∧ amPart r = amPart q ∧ amNonce r = amNonce q)

/-- The values that a record names outside the window are in range: a link, tallies, and a model's MODEL_ID. -/
def namesOk (r : List Byte) : Bool :=
  match amKind r with
  | 2 => decide (leNat (recEntry r) 0 4 ≠ 0)
  | 4 => decide (Config.linkBody (amBody r) < 8)
  | 5 => (Config.tallyBody (amBody r)).all (fun i => decide (i < ntallyNames.length))
  | _ => true

/-- The acceptance checks of R419 in their order: REASON and status of the first that fails. -/
def State.judge (s : State) (kind : Nat) (r : List Byte) : Option (Nat × Nat) :=
  let a := s.pendingConfig
  let b := a.withRecord r
  let waiting := s.cfg.log.filter (fun x => !x.applied)
  if !recordOk kind r then some (7, 5)
  else if !s.signedBy r then some (1, 5)
  else if !authorised a b r then some (2, 5)
  else if touchesStart a b (recItems r) then some (8, 5)
  else if amSigner r = 2 ∧ s.flag (Reg.PART_CFG_ENABLE (amPart r)) = false then some (0, 4)
  else if amStep r < s.openStep + s.get Reg.CFG_AMEND_CFG_AMEND_LEAD ∨ waiting.any (fun x => decide (amStep r < x.step)) = true then some (3, 5)
  else if s.cfg.log.any (fun x => sameNonce x.raw r) then some (4, 5)
  else if needsEntry a b r then some (9, 3)
  else if !(b.valuesOk && changesOk a b (amStep r) (recItems r) && namesOk r) then some (5, 5)
  else if !s.quotaFits a b r then some (9, 3)
  else if s.logFree 0 < r.length ∨ s.logFree 1 < r.length then some (6, 3)
  else none

/-! ### Stage slots (R418) -/

/-- A stage slot of this node completes. -/
def State.finishSlot (s : State) (d : StageDone) : State :=
  let p := d.slot.part
  let n := d.slot.slot
  let s := (s.set (Reg.CFG_STAGE_STATUS p n) d.status).set (Reg.CFG_STAGE_REASON p n) d.reason
  let s := (s.when (decide (d.status = 0)) (fun t => t.set (Reg.CFG_STAGE_SEQ p n) d.seq)).set (Reg.CFG_STAGE_STEP p n) d.step
  let s := (s.set (Reg.CFG_STAGE_DONE p n) 1).set (Reg.CFG_STAGE_OP p n) 0
  s.event p 12

/-- Tell the entry node of a slot its completion (assumption 38). -/
def State.endSlot (s : State) (d : StageDone) : State :=
  if d.slot.node = s.me then s.finishSlot d
  else s.sendMsg d.slot.part 10 0 d.slot.node 32 (.amendAppendAck d.seq false (some d) s.me)

/-- Slots whose every member has acknowledged complete: OK, or BAD_DESCRIPTOR where a member could not carry the amendment out
(R420, R423). -/
def State.endWaits (s : State) : State :=
  let done := s.cfg.waits.filter (fun w => w.acks.isEmpty)
  let s := s.modCfg fun k => { k with waits := k.waits.filter (fun w => !w.acks.isEmpty) }
  done.foldl (fun (s : State) w =>
    s.endSlot { slot := { node := w.node, part := w.part, slot := w.slot }, status := if w.bad then 5 else 0, reason := 0, seq := w.seq, step := w.step }) s

/-- A member's acknowledgement at the root. -/
def State.gotAppendAck (s : State) (seq src : Nat) (bad : Bool) : State :=
  let got (w : StageWait) : StageWait := { w with acks := w.acks.filter (fun n => decide (n ≠ src)), bad := w.bad || bad }
  (s.modCfg fun k => { k with waits := lmod (fun w => decide (w.seq = seq)) got k.waits }).endWaits

/-- Members that have left are not awaited any more. -/
def State.recheckWaits (s : State) : State :=
  (s.modCfg fun k => { k with waits := k.waits.map (fun w => { w with acks := w.acks.filter s.isMember }) }).endWaits

/-- Acknowledge an amendment to the root. -/
def State.ackAppend (s : State) (seq : Nat) (bad : Bool) : State :=
  if s.flag Reg.STEP_ROLE_IS_ROOT then s.gotAppendAck seq s.me bad
  else s.sendMsg 0 10 0 (s.get Reg.STEP_ROLE_ROOT_ID) 16 (.amendAppendAck seq bad none s.me)

/-- Take an accepted record in its order (R420): the chain advances, a record meant for this node waits to be programmed, and a
model's entry becomes pending (R422). -/
def State.takeAppend (s : State) (r : List Byte) : State :=
  let seq := amSeq r
  if seq ≠ s.get Reg.CFG_HEAD + 1 then s
  else
    let h : Digest := Config.sm3 (natLe 32 (s.get Reg.CFG_HEAD_DIGEST) ++ r)
    let s := (s.set Reg.CFG_HEAD seq).set Reg.CFG_HEAD_DIGEST h.toNat
    let mine := s.meantHere r
    let e : Amend := { seq := seq, step := amStep r, raw := r, applied := false, posA := none, posB := none, appended := !mine, stored := false }
    let s := s.modCfg fun k => { k with heads := tput k.heads seq h, log := k.log ++ [e] }
    if amKind r = 2 ∧ mine = true then
      match s.freeModel with
      | some i => ((s.putModel i (amStep r) (recEntry r)).loadModel { entry := i, head := recHead r, wrapped := recKeys r }).showUse
      | none => s
    else s

/-- The root accepts a record: it gets its SEQ, and every member its copy (R420). -/
def State.acceptRecord (s : State) (r : List Byte) (slot : StageSlot) : State :=
  let r := spliceAt r 24 (natLe 8 (s.get Reg.CFG_HEAD + 1))
  let mine := s.meantHere r
  let acks := s.otherMembers ++ (if mine then [s.me] else [])
  let w : StageWait := { seq := amSeq r, step := amStep r, bad := false, node := slot.node, part := slot.part, slot := slot.slot, acks := acks }
  let s := s.modCfg fun k => { k with waits := k.waits ++ [w] }
  ((s.flood 0 10 r.length none (.amendLogAppend r none [] s.me)).takeAppend r).endWaits

/-- The root judges a record that has reached it; another node passes it to the root (R418, R419). -/
def State.amend (s : State) (kind : Nat) (r : List Byte) (slot : StageSlot) (cmd : Instr) : State :=
  if !s.flag Reg.STEP_ROLE_IS_ROOT then s.sendMsg slot.part 10 0 (s.get Reg.STEP_ROLE_ROOT_ID) r.length cmd
  else match s.judge kind r with
    | none => s.acceptRecord r slot
    | some (reason, status) =>
      let s := (s.stick Reg.CFG_COUNTS_REFUSED 1).when (decide (status = 3 ∧ reason = 9)) (fun t => t.tallyP .SHP_QUOTA_REFUSED slot.part)
      s.endSlot { slot := slot, status := status, reason := reason, seq := 0, step := amStep r }

/-- The command that carries a record of a kind to the root; a record of no kind travels as a WRITE. -/
def amendCmd (r : List Byte) (slot : StageSlot) : Nat × Instr :=
  match amKind r with
  | 2 => (2, .amendModelLoad r slot)
  | 3 => (3, .amendImageStore r slot none)
  | 4 => (4, .amendLinkTrain r slot)
  | 5 => (5, .amendTallyClear r slot)
  | _ => (1, .amendWrite r slot)

/-- Forward a fetched record to the root, or judge it there. -/
def State.forwardRecord (s : State) (p n : Nat) (r : List Byte) : State :=
  let slot : StageSlot := { node := s.me, part := p, slot := n }
  let c := amendCmd r slot
  s.amend c.1 r slot c.2

/-- Records submitted before the node was a member go on (R429). -/
def State.flushSubs (s : State) : State :=
  let l := s.cfg.subs
  l.foldl (fun (s : State) e => s.forwardRecord e.1 e.2.1 e.2.2) (s.modCfg fun k => { k with subs := [] })

/-- Submit the record of a stage slot: the host's bytes come by CXL.io DMA (R418). -/
def State.submitStage (s : State) (h : HostReq) (p n : Nat) (data : List Byte) : State :=
  if 8 ≤ n ∨ s.get (Reg.CFG_STAGE_OP p n) = 1 then s
  else
    let s := ((s.set (Reg.CFG_STAGE_OP p n) 1).set (Reg.CFG_STAGE_STATUS p n) 0).set (Reg.CFG_STAGE_DONE p n) 0
    let s := s.set (Reg.CFG_STAGE_REASON p n) 0
    let len := s.get (Reg.CFG_STAGE_LENGTH p n)
    if len < 112 ∨ 65528 < len ∨ s.get (Reg.CFG_STAGE_ADDR p n) % 64 ≠ 0 then
      s.finishSlot { slot := { node := s.me, part := p, slot := n }, status := 5, reason := 7, seq := 0, step := 0 }
    else
      let s := s.emit (.hostRead h.pid (s.get (Reg.CFG_STAGE_ADDR p n)) len)
      let r := data.take len
      if s.get Reg.CFG_STATUS_STAGE ≠ 6 then s.modCfg fun k => { k with subs := k.subs ++ [(p, n, r)] }
      else s.forwardRecord p n r

/-- CFG_STAGE_SUBMIT (R418): a host writes OP 1 into a slot of its partition's page. -/
def execCfgStageSubmit (h : HostReq) (p slot : Nat) (data : List Byte) (s : State) :=
  hostCmd s (.cfgStageSubmit h p slot data) (fun s => s.ownPage h p (fun s => s.submitStage h p slot data))

/-- AMEND_WRITE (R419). -/
def execAmendWrite (raw : List Byte) (slot : StageSlot) (s : State) := nodeEvt s (fun s => s.amend 1 raw slot (.amendWrite raw slot))

/-- AMEND_MODEL_LOAD (R419, R422). -/
def execAmendModelLoad (raw : List Byte) (slot : StageSlot) (s : State) :=
  nodeEvt s (fun s => s.amend 2 raw slot (.amendModelLoad raw slot))

/-- AMEND_LINK_TRAIN (R352, R416). -/
def execAmendLinkTrain (raw : List Byte) (slot : StageSlot) (s : State) :=
  nodeEvt s (fun s => s.amend 4 raw slot (.amendLinkTrain raw slot))

/-- AMEND_TALLY_CLEAR (R400, R416). -/
def execAmendTallyClear (raw : List Byte) (slot : StageSlot) (s : State) :=
  nodeEvt s (fun s => s.amend 5 raw slot (.amendTallyClear raw slot))

/-! ### Programming the log (R98, R420) -/

/-- Read the table of a score map that an amendment creates (R98): the map's partition may read SOURCE and it is published,
and the table has the digest. -/
def State.readMap (s : State) (mem : List (Nat × List Byte)) (new : State) (i : Nat) : State :=
  let src := new.get (Reg.COLL_SMAP_SOURCE i)
  let b := s.shmRead mem src 32768
  if s.canReadPublished (new.get (Reg.COLL_SMAP_PARTITION i)) none src 32768 && decide ((Config.sm3 b).toNat = new.get (Reg.COLL_SMAP_DIGEST i)) then
    s.modCfg fun k => { k with nextMaps := k.nextMaps ++ [(i, (List.range 4096).map (fun j => leNat b (8 * j) 8))] }
  else s.modCfg fun k => { k with badMaps := k.badMaps ++ [i] }

/-- Read the tables of the score maps that a record creates. -/
def State.readMaps (s : State) (mem : List (Nat × List Byte)) (r : List Byte) : State :=
  let new := s.writeItems (recItems r)
  let made := (touchedIn (recItems r) 0x1060000).filter (fun i =>
    decide (new.get (Reg.COLL_SMAP_MAP_ID i) ≠ 0 ∧ s.get (Reg.COLL_SMAP_MAP_ID i) ≠ new.get (Reg.COLL_SMAP_MAP_ID i)))
  made.foldl (fun (s : State) i => s.readMap mem new i) s

/-- The node has finished programming a record on devices A and B (R420). -/
def State.programmedLog (s : State) (e : Amend) (okA okB : Bool) (mem : List (Nat × List Byte)) : State :=
  let len := e.raw.length
  let e2 : Amend := { e with posA := if okA then some s.cfg.logWr.1 else none, posB := if okB then some s.cfg.logWr.2 else none, appended := true }
  let s := s.modCfg fun k => { k with
    log := lmod (fun x => decide (x.seq = e.seq)) (fun _ => e2) k.log,
    logWr := (k.logWr.1 + (if okA then len else 0), k.logWr.2 + (if okB then len else 0)) }
  let s := (s.showLog).stick Reg.CFG_COUNTS_ACCEPTED 1
  let s := s.when (!okA && !okB) (fun t => (t.setB Reg.CFG_STATUS_LOG_FAIL true).stick Reg.CFG_COUNTS_LOG_FAILS 1)
  let s := s.readMaps mem e.raw
  if amKind e.raw = 3 then s else s.ackAppend e.seq false

/-- AMEND_LOG_APPEND (R420): the root's copy of an accepted record arrives and goes on along the tree; or the node has finished
programming the earliest record that it has not yet appended. -/
def execAmendLogAppend (raw : List Byte) (prog : Option (Bool × Bool)) (mem : List (Nat × List Byte)) (src : Nat) (s : State) :=
  nodeEvt s (fun s =>
    match prog with
    | none =>
      let new : Bool := decide (amSeq raw = s.get Reg.CFG_HEAD + 1)
      let s := (s.flood 0 10 raw.length (some src) (.amendLogAppend raw none [] s.me)).takeAppend raw
      if new && !s.meantHere raw then s.ackAppend (amSeq raw) false else s
    | some (a, b) =>
      match s.cfg.log.find? (fun e => !e.appended) with
      | some e => if e.raw = raw then s.programmedLog e a b mem else s
      | none => s)

/-- AMEND_APPEND_ACK (R418, R420): a member's acknowledgement at the root, or the completion of a slot at its entry node. -/
def execAmendAppendAck (seq : Nat) (bad : Bool) (done : Option StageDone) (src : Nat) (s : State) :=
  nodeEvt s (fun s =>
    match done with
    | some d => if d.slot.node = s.me then s.finishSlot d else s
    | none => s.gotAppendAck seq src bad)

/-! ### Storing an image (R423) -/

/-- The image area of a device. -/
def State.device (s : State) (d : Nat) : List Byte := s.cfg.devices.getD d []

/-- A device holds a valid image with a BASE_SEQ, or none. -/
def State.setImgValid (s : State) (d : Nat) (base : Option Nat) : State :=
  let f := if d = 0 then Reg.CFG_STATUS_IMG_VALID_A else Reg.CFG_STATUS_IMG_VALID_B
  let rest := s.cfg.imgBase.filter (fun e => decide (e.1 ≠ d))
  (s.modCfg fun k => { k with imgBase := match base with | some b => rest ++ [(d, b)] | none => rest }).setB f base.isSome

/-- Where the first record above a SEQ stands in a device's log, or its end. -/
def State.logKeep (s : State) (d x : Nat) : Nat × Bool :=
  let pos (a : Amend) : Option Nat := if d = 0 then a.posA else a.posB
  match ((s.cfg.log.filter (fun a => decide (x < a.seq))).filterMap pos).min? with
  | some p => (p, true)
  | none => (if d = 0 then s.cfg.logWr.1 else s.cfg.logWr.2, false)

/-- Bytes erased of a device's log once records of SEQ x and below are not needed: whole sectors (R423). -/
def State.eraseTo (s : State) (d x : Nat) : Nat :=
  let k := s.logKeep d x
  let sec := max 1 Config.norSector
  if k.2 then k.1 / sec * sec else cdiv k.1 sec * sec

/-- Both devices hold valid images: log sectors that hold only records both contain are erased (R423). -/
def State.eraseLogs (s : State) : State :=
  match (s.cfg.imgBase.find? (fun e => decide (e.1 = 0))).map (·.2), (s.cfg.imgBase.find? (fun e => decide (e.1 = 1))).map (·.2) with
  | some a, some b =>
    let x := min a b
    let ea := max s.cfg.logErased.1 (s.eraseTo 0 x)
    let eb := max s.cfg.logErased.2 (s.eraseTo 1 x)
    let gone (p : Option Nat) (e : Nat) : Option Nat := match p with | some q => if q < e then none else some q | none => none
    (s.modCfg fun k => { k with
      log := k.log.map (fun r => if r.seq ≤ x then { r with posA := gone r.posA ea, posB := gone r.posB eb } else r),
      logErased := (ea, eb), logWr := (max k.logWr.1 ea, max k.logWr.2 eb) }).showLog
  | _, _ => s

/-- A stored image is valid (R423): checks 1 to 5 of R413, and BASE_HEAD is this node's chain digest at BASE_SEQ. -/
def State.storedOk (s : State) (d : Nat) (i : Image) : Bool :=
  decide (i.raw = (s.device d).take i.raw.length) && (imgFails i).isNone &&
  decide (tfind s.cfg.heads (leNat i.raw 16 8) = some (BitVec.ofNat 256 (leNat i.raw 24 32)))

/-- The part of an image that a record carries has been programmed; after the last the image is verified (R423). -/
def State.storedChunk (s : State) (r : List Byte) (stored : Option Image) : State :=
  let c := Config.storeBody (amBody r)
  let d := c.1
  let old := s.device d
  let img := spliceAt (old ++ List.replicate (c.2.1 - old.length) 0xFF#8) c.2.1 c.2.2.2
  let s := s.modCfg fun k => { k with
    devices := (List.range 2).map (fun i => if i = d then img else k.devices.getD i []),
    log := lmod (fun x => decide (x.seq = amSeq r)) (fun x => { x with stored := true }) k.log }
  if !c.2.2.1 then s.ackAppend (amSeq r) false
  else match stored with
    | some i =>
      if s.storedOk d i then ((s.setImgValid d (some (leNat i.raw 16 8))).eraseLogs).ackAppend (amSeq r) false
      else (s.setImgValid d none).ackAppend (amSeq r) true
    | none => (s.setImgValid d none).ackAppend (amSeq r) true

/-- AMEND_IMAGE_STORE (R423): a record on its way to the root; or, with its SEQ, the target has programmed what it carries,
`stored` being the image that then stands on the device. -/
def execAmendImageStore (raw : List Byte) (slot : StageSlot) (stored : Option Image) (s : State) :=
  nodeEvt s (fun s =>
    if amSeq raw = 0 then s.amend 3 raw slot (.amendImageStore raw slot none)
    else if amKind raw = 3 ∧ amTarget raw = s.me ∧
        s.cfg.log.any (fun e => decide (e.raw = raw) && e.appended && !e.stored) = true then s.storedChunk raw stored
    else s)

/-! ### Amendments take effect (R421) -/

/-- Clear node-wide tallies (R400); TALLY_STUCK clears with the tally that stuck (R399). -/
def State.clearNodeTallies (s : State) (l : List Nat) : State :=
  let s := l.foldl (fun (s : State) i => (s.set (Reg.TALLY_PART_COUNT 0 i) 0).set (Reg.TALLY_PART_OVF 0 i) 0) s
  s.setB Reg.SAFE_STATUS_TALLY_STUCK ((List.range ntallyNames.length).any (fun i => s.flag (Reg.TALLY_PART_OVF 0 i)))

/-- The effect of one record at its step. -/
def State.applyRecord (s : State) (a : Amend) : State :=
  let s := s.modCfg fun k => { k with log := lmod (fun x => decide (x.seq = a.seq)) (fun x => { x with applied := true }) k.log }
  if !s.meantHere a.raw then s
  else
    let old := s
    let l := recItems a.raw
    let s := match amKind a.raw with
      | 1 => (s.applyItems a.step l).showUse
      | 4 => s.trainLink (Config.linkBody (amBody a.raw))
      | 5 => s.clearNodeTallies (Config.tallyBody (amBody a.raw))
      | _ => s
    let parts := (partsNamed old s l ++ (if amSigner a.raw = 2 then [amPart a.raw] else [])).dedup
    parts.foldl (fun (s : State) p => s.event p 11) (s.setB Reg.CFG_STATUS_AMEND_EVT true)

/-- Entries whose first step has come serve (R57, R220, R271, R274): a model when its first pass is over. -/
def State.promote (s : State) (t : Nat) : State :=
  let s := s.collsUsed.foldl (fun (s : State) h =>
    if s.get (Reg.COLL_DESC_STATE h) = 1 ∧ s.get (Reg.COLL_DESC_STEP_EFFECTIVE h) ≤ t then s.set (Reg.COLL_DESC_STATE h) 2 else s) s
  let s := s.mapsUsed.foldl (fun (s : State) i =>
    if s.get (Reg.COLL_SMAP_STATE i) = 1 ∧ s.get (Reg.COLL_SMAP_STEP_EFFECTIVE i) ≤ t then s.set (Reg.COLL_SMAP_STATE i) 2 else s) s
  let s := s.tablesUsed.foldl (fun (s : State) i =>
    if s.get (Reg.EMB_TABLE_STATE i) = 1 ∧ s.get (Reg.EMB_TABLE_STEP_EFFECTIVE i) ≤ t then s.set (Reg.EMB_TABLE_STATE i) 2 else s) s
  s.modelsUsed.foldl (fun (s : State) i =>
    if s.get (Reg.ENC_MODEL_STATE i) = 1 ∧ s.get (Reg.ENC_MODEL_STEP_EFFECTIVE i) ≤ t ∧ ((s.modelMem i).passDone || !s.runsModel i) = true then
      s.set (Reg.ENC_MODEL_STATE i) 2 else s) s

/-- The pending gate list takes over at its step (R378). -/
def State.gateTakeover (s : State) (t : Nat) : State :=
  let l := s.get Reg.SHAPE_STATUS_ACTIVE_LIST
  if s.activeList t = l then s
  else
    let s := (s.set Reg.SHAPE_STATUS_ACTIVE_LIST (1 - l)).set (Reg.SHAPE_GATE_HDR_TAKEOVER (1 - l)) 0
    let s := (s.setB Reg.SHAPE_STATUS_PENDING false).setB Reg.SHAPE_STATUS_GATE_TAKEOVER_EVT true
    s.eventAll 10

/-- What amendments do when the node opens step t (R377, R378, R421): those whose STEP has come take effect in SEQ order,
entries begin to serve, and the gate list starts. What they change stays known for the requests of earlier steps (R17). -/
def State.openAmend (s : State) (t : Nat) : State :=
  let due := sortBy (fun (a b : Amend) => decide (a.seq ≤ b.seq)) (s.cfg.log.filter (fun a => !a.applied && decide (a.step ≤ t)))
  let s := if due.isEmpty then s else s.modCfg fun k => { k with was := (t, s.regs) :: k.was }
  let s := due.foldl State.applyRecord s
  let s := (s.promote t).gateTakeover t
  (s.modHost fun h => { h with gateEntry := 0, gateStart := s.now }).flushSubs

/-- An amendment that this node has not appended withholds STEP_DONE(t) before its STEP (R420). -/
def State.amendHolds (s : State) (t : Nat) : Bool := s.cfg.log.any (fun a => !a.appended && decide (a.step ≤ t + 1))

/-! ### Retirement (R57) -/

/-- The fields of an entry of a table, by the table's offset. -/
def entryFields (off i : Nat) : List Fld := ((Reg.map.find? (fun d => decide (d.off = off))).map (fun d => d.fields i 0 0)).getD []

/-- Free an entry: every field reads its default. -/
def State.freeEntry (s : State) (off i : Nat) : State := (entryFields off i).foldl (fun (s : State) f => s.set f f.dflt) s

/-- A retired entry is freed, and its memory released. -/
def State.endRetire (s : State) (e : Nat × Nat × Nat) : State :=
  let i := e.2.1
  let s := s.modCfg fun k => { k with retiring := k.retiring.filter (fun x => decide (x ≠ e)) }
  match e.1 with
  | 0 => (s.dropColl i).freeEntry 0x1080000 i
  | 1 =>
    let t := s.get (Reg.EMB_TABLE_TABLE i)
    let mib := s.tableMib i
    let s := s.modEmb fun k => { k with
      rows := k.rows.filter (fun r => decide (r.1 / 2 ^ 32 ≠ t)), dir := k.dir.filter (fun o => decide (o.table ≠ t)),
      nodes := tset [] k.nodes i [], chain := tset 0 k.chain t 0 }
    (s.modStk fun k => { k with freeMib := min 761856 (k.freeMib + mib) }).freeEntry 0x1510000 i
  | 2 =>
    let kib := cdiv (s.modelKib i) 1024
    let s := s.modEnc fun k => { k with
      models := tset ModelMem.none k.models i ModelMem.none, loft := k.loft.filter (fun w => decide (w.model ≠ i)),
      stats := tset QStats.none k.stats i QStats.none }
    let p := s.modelPart i
    (((s.modStk fun k => { k with freeMib := min 761856 (k.freeMib + kib) }).freeEntry 0x1410000 i).showUnavail p).showLoft
  | _ => (s.modSrch fun k => { k with maps := tset [] k.maps i [] }).freeEntry 0x1060000 i

/-- Retirements below whose step no work remains on the node complete (R57). -/
def State.endRetirements (s : State) : State :=
  let old := s.oldestWork
  let due := s.cfg.retiring.filter (fun e => decide (old = 0 ∨ e.2.2 ≤ old) && decide (e.2.2 ≤ s.get Reg.STEP_COMMITTED))
  if due.isEmpty then s else (due.foldl State.endRetire s).showUse

end Sys2Proof.Machine
end

