-- ==== Sys2Proof/Machine/Rejoin.lean ====
section
/-! DEFINITION. What a node does that hears of its own exclusion, or of a structure it is to join (R48, R51, R52, R430, R431);
and end-to-end acknowledgements at the source (R360). -/

namespace Sys2Proof.Machine

open Sys2Proof

/-- The work of a node that has been excluded is lost: what it admitted, what it held for others, and what it had staged (R48,
R49, R50). -/
def State.loseWork (s : State) : State :=
  let s := (List.range 8).foldl (fun (s : State) c => if (tfind s.enc.runs c).isSome then s.stopCluster c else s) s
  let s := partitions.foldl (fun (s : State) p => if s.get (Reg.INT_INFLIGHT p) = 0 then s else s.setInflight p 0) s
  let s := s.modSrch fun k => { k with
    work := [], adm := [], staged := [], filterOps := [], digests := [], reads := [], fetched := [] }
  let s := s.modEmb fun e => { e with
    dirStaged := [], grads := [], lookups := [], waiting := [], gathers := [], partials := [], unsent := [], relays := [], dirAcks := [],
    updates := [], loads := [], expected := [], digests := [], early := [] }
  let s := s.modEnc fun e => { e with backlog := [], jobs := [], raws := [], arrived := [], sent := [], aggs := [] }
  let s := s.set Reg.ENC_BACKLOG 0
  let s := s.modHome fun h => { h with pubs := [], flushes := [], ends := [] }
  let s := (s.modHost fun h => { h with flushReads := [] }).modCfg fun k => { k with was := [] }
  (s.modStp fun k => { k with ops := [], doneFrom := [], excludes := [], excludeSent := [], stalled := [], joins := [], joinStep := none }).sweep

/-- A node that was excluded, or that finds a structure when it starts, is recovering and is no member (R48, R52, R431): it
catches up in stage 5. -/
def State.becomeRecovering (s : State) (epoch : Nat) : State :=
  let s := s.loseWork.when (decide (s.get Reg.CFG_STATUS_STAGE = 6)) (fun t => t.set Reg.CFG_STATUS_STAGE 5)
  let s := s.set Reg.STEP_EPOCH epoch
  let s := s.setB Reg.STEP_STATUS_SELF_ISOLATED false
  let s := s.setB Reg.STEP_STATUS_RECOVERING true
  let s := s.setB Reg.HOME_MODE_SWAP_ONLY true
  let s := s.setB Reg.HOME_MODE_SERVING false
  let v := s.get Reg.STEP_MEMBERS
  if bit v s.me then s.set Reg.STEP_MEMBERS (v ^^^ 2 ^ s.me) else s

/-- What the EPOCH of a message or INIT tells a node that starts (R430, R431), an isolated node, or one that was excluded
while silent (R48, R51): with its own epoch its isolation ends and it admits from the next STEP_CLOSE; with a later one it
has been excluded. -/
def State.learnEpoch (s : State) (epoch : Nat) : State :=
  if s.heldForReset then s
  else if s.get Reg.CFG_STATUS_STAGE < 6 ∧ s.get Reg.STEP_EPOCH = 0 ∧ epoch ≠ 0 then s.becomeRecovering epoch
  else if s.flag Reg.STEP_STATUS_SELF_ISOLATED then
    if epoch = s.get Reg.STEP_EPOCH then
      { s.setB Reg.STEP_STATUS_SELF_ISOLATED false with stp := { s.stp with waitClose := true } }
    else if s.get Reg.STEP_EPOCH < epoch then s.becomeRecovering epoch else s
  else s

/-! ### A structure that forms (R25, R430) -/

/-- No table has a flash copy: in a structure that forms every row reads 0, and the table chain records this as a load at the
first step (R432). -/
def State.zeroTables (s : State) (first : Nat) : State :=
  s.tablesUsed.foldl (fun (s : State) i =>
    let n := s.get (Reg.EMB_TABLE_TABLE i)
    if !(tget [] s.emb.nodes i).contains s.me then s
    else
      let rows := (List.range (s.get (Reg.EMB_TABLE_ROWS_M1 i) + 1)).filter (fun r => (s.rowNodes i r first).contains s.me)
      let ds := (rows.map (fun _ => digestBytes (rowDigest (s.tableDim n) zeroRow))).flatten
      s.modEmb fun e => { e with
        rows := e.rows.filter (fun r => decide (r.1 / 2 ^ 32 ≠ n)), chainStep := tput e.chainStep n first,
        chain := tput e.chain n (Config.sm3 (digestBytes (tget 0 e.chain n) ++ natLe 8 first ++ ds)) }) s

/-- Take part as a member from a first step on, with what is committed below it, and the amendments in force at it (R25, R37,
R421). -/
def State.takePart (s : State) (first : Nat) : State :=
  let s := (s.startMember first).openAmend first
  (s.modSrch fun k => { k with shards := k.shards.map (fun sh => sh.writeRings (first - 1)) }).sweep

/-- Take part in a structure that has formed (R430, R432). -/
def State.takeFirst (s : State) (first : Nat) : State := (s.takePart first).zeroTables first

/-- The candidate forms the structure: epoch 1, every present node granted, itself the root (R430). -/
def State.form (s : State) : State :=
  let present := s.stp.asked.map (·.1)
  let first := s.firstStep
  let s := s.set Reg.STEP_EPOCH 1
  let s := s.set Reg.STEP_ROLE_ROOT_ID s.me
  let s := s.setB Reg.STEP_ROLE_IS_ROOT true
  let s := s.set Reg.STEP_MEMBERS (present.foldl (fun v n => v ||| 2 ^ n) 0)
  let s := { s with stp := { s.stp with formTick := none, asked := [] } }
  let s := present.foldl (fun t n => if n = t.me then t
    else present.foldl (fun u k => u.sendStep n (.joinGrant (u.stepMsg (first - 1) k 0 0) u.me)) t) s
  (s.tallyN .MEMB_REJOINS present.length).takeFirst first

/-- The candidate may form: this node is the first candidate, none is formed yet, and every node of the topology has
asked, or the formation wait has passed with more than half of them (R430). -/
def State.mayForm (s : State) (expired : Bool) : Bool :=
  decide (s.get Reg.STEP_EPOCH = 0 ∧ s.get Reg.STEP_ROOTS_CAND0 = s.me ∧ s.stp.asked ≠ []) &&
  (s.topology.all (fun n => s.stp.asked.any (fun a => decide (a.1 = n))) ||
    (expired && decide (s.topology.length < 2 * s.stp.asked.length)))

/-- Ask to join a structure that is forming (R430): the first candidate asks itself, and may form at once. -/
def State.askForming (s : State) : State :=
  let s := s.askJoin
  if s.get Reg.STEP_ROOTS_CAND0 = s.me then
    let s := s.modStp fun k => { k with formTick := some (k.formTick.getD s.now) }
    if s.mayForm false then s.form else s
  else s

/-- The links in use that still train or exchange INIT (R354). -/
def State.settling (s : State) : Bool :=
  (List.range 8).any (fun l => bit (s.get Reg.OVL_CFG_LINK_ENABLE) l &&
    decide (s.get (Reg.OVL_LINK_STATE l) = 1 ∨ s.get (Reg.OVL_LINK_STATE l) = 2))

/-- Stage 4 ends once no link is training any more (R428): without a member heard, a structure is forming and the node asks
to join it (R430); else it catches up first (R431). -/
def State.settleLinks (s : State) : State :=
  if s.get Reg.CFG_STATUS_STAGE ≠ 4 ∨ s.settling = true then s
  else
    let s := s.stageTo 5
    if s.flag Reg.STEP_STATUS_RECOVERING then s else s.askForming

/-- JOIN_REQ (R52, R430): a forming candidate collects the requests and forms when all have asked; a root grants a node
once, and not one that is a member. -/
def execJoinReq (m : StepMsg) (_src : Nat) (s : State) :=
  nodeEvt s (fun s =>
    if !m.crcOk then s.tallyN .STEP_BAD_MSG
    else if s.get Reg.STEP_EPOCH = 0 then
      let s1 := s.modStp fun k => { k with
        asked := (m.subject, m.step) :: k.asked.filter (fun a => decide (a.1 ≠ m.subject))
        formTick := some (k.formTick.getD s.now) }
      if s1.mayForm false then s1.form else s1
    else if s.flag Reg.STEP_ROLE_IS_ROOT && !s.isMember m.subject && !s.stp.joins.any (fun j => decide (j.1 = m.subject))
        then
      s.grantJoin m.subject
    else s)

/-- FORMATION_WAIT_EXPIRY (R430): FORM_WAIT has passed since the candidate's first request. -/
def execFormationWaitExpiry (s : State) :=
  nodeEvt s (fun s =>
    match s.stp.formTick with
    | some t =>
      if t + second * s.get Reg.CFG_AMEND_CFG_FORM_WAIT_S ≤ s.now ∧ s.mayForm true then s.form else s
    | none => s)

/-- JOIN_GRANT (R52, R430): in a forming structure the named node is a member from the first step; else the node named
becomes a member with the commit of STEP, and the message is flooded on. -/
def execJoinGrant (m : StepMsg) (src : Nat) (s : State) :=
  nodeEvt s (fun s => s.withStep m (fun s =>
    if s.get Reg.STEP_EPOCH = 0 then
      let s1 := s.set Reg.STEP_MEMBERS (s.get Reg.STEP_MEMBERS ||| 2 ^ m.subject)
      let s1 := s1.set Reg.STEP_ROLE_ROOT_ID m.root
      let s1 := s1.tallyN .MEMB_REJOINS
      if s1.isMember s1.me then ((s1.set Reg.STEP_EPOCH m.epoch).takeFirst (m.step + 1)) else s1
    else if m.epoch = 1 ∧ s.get Reg.STEP_COMMITTED = m.step ∧ !s.isMember m.subject then
      (s.set Reg.STEP_MEMBERS (s.get Reg.STEP_MEMBERS ||| 2 ^ m.subject)).tallyN .MEMB_REJOINS
    else if s.stp.joins.contains (m.subject, m.step) then s
    else
      let s1 := { s with stp := { s.stp with joins := (m.subject, m.step) :: s.stp.joins } }
      if s1.isMember s1.me then s1.flood 0 0 32 (some src) (.joinGrant m s1.me) else s1))

/-! ### Heartbeats, links and acknowledgements -/

/-- LINK_TRAINING_DONE (R349, R354): at four lanes, or at two with DEGRADE_EVT, INIT exchange begins; with fewer the
link stays down. -/
def execLinkTrainingDone (link lanes : Nat) (s : State) :=
  nodeEvt s (fun s =>
    if s.get (Reg.OVL_LINK_STATE link) ≠ 1 ∨ 8 ≤ link then s
    else if lanes = 4 ∨ lanes = 2 then
      let s := (s.set (Reg.OVL_LINK_STATE link) 2).set (Reg.OVL_LINK_WIDTH link) lanes
      let s := s.when (decide (lanes = 2)) (fun t => (t.setB Reg.OVL_STATUS_DEGRADE_EVT true).faultEvent)
      s.emit (.init link lanes (s.get Reg.STEP_EPOCH) (s.flag Reg.STEP_STATUS_RECOVERING))
    else (s.set (Reg.OVL_LINK_STATE link) 0).settleLinks)

/-- HEARTBEAT (R43): the sender is heard; its epoch informs an isolated node (R48), and its ROOT one that is to join. -/
def execHeartbeat (m : StepMsg) (src : Nat) (s : State) :=
  nodeEvt s (fun s => s.withStep m (fun s =>
    let s := (s.linksTo src).foldl (fun t l => t.setLink l { t.link l with heard := t.now }) s
    let s := (s.heardFrom src).learnEpoch m.epoch
    if s.flag Reg.STEP_STATUS_RECOVERING then s.set Reg.STEP_ROLE_ROOT_ID m.root else s))

/-- FLIT_INIT (R354): the link comes up when the far end is the one the topology section names and the topologies
agree; otherwise it stays down, and the refusal is counted. The far end's epoch informs an isolated or recovering node
(R48, R430, R431). -/
def execFlitInit (link : Nat) (raw : List Byte) (fec : Option Nat) (s : State) :=
  nodeEvt s (fun s => s.onFlit link 3 raw fec (fun s _ =>
    let rec_ := raw.drop 6
    if s.get (Reg.OVL_LINK_STATE link) = 2 then
      if tget (0, 0) s.ovl.expected link = (leNat rec_ 0 2 % 4096, leNat rec_ 2 1) ∧
          (tfind s.ovl.expected link).isSome ∧ leNat rec_ 8 8 = s.get Reg.OVL_TOPO_DIGEST then
        ((s.linkBringUp link rec_).learnEpoch (leNat rec_ 4 4)).settleLinks
      else
        (((s.set (Reg.OVL_LINK_STATE link) 0).tallyN .OVL_MISWIRED).setB Reg.OVL_STATUS_MISWIRE_EVT true).faultEvent.settleLinks
    else (s.setLink link { s.link link with heard := s.now }).heardFrom (s.peer link) |>.learnEpoch (leNat rec_ 4 4)))

/-- E2E_ACK (R129, R360, R361, R473): kept messages of the stream up to SEQ are done with; merge buffers whose output has
reached the parent are released, and operations whose every request has arrived. -/
def execE2eAck (src cls route seq : Nat) (s : State) :=
  nodeEvt s (fun s =>
    let hit (m : Msg) : Bool := decide (m.dst = src ∧ m.cls = cls ∧ m.route = route ∧ m.seq ≠ 0 ∧ m.seq ≤ seq) && !m.acked
    let sent := (s.ovl.msgs.filter hit).filterMap (fun m => match m.cargo with
      | .cmd (.transit id _ sh _ _) => if sh.rerun.isNone then some id else none
      | _ => none)
    (sent.foldl State.releaseMerge (s.ackMsgs src cls route seq)).releaseDue)

end Sys2Proof.Machine
end

