-- ==== Sys2Proof/Machine/Agree.lean ====
section
/-! DEFINITION. The agreement on a step (R27 to R30, R40, R41, R45, R47, R56): closing it, what withholds STEP_DONE, STEP_DONE
up the tree, and exclusions that the coming STEP_COMMIT carries. -/

namespace Sys2Proof.Machine

open Sys2Proof

/-! ### The structure as the coming STEP_COMMIT leaves it -/

/-- The node's view of the structure once the exclusions it knows of have taken effect (R45, R47, R470): the members
without those nodes, and the next root candidate as root when the root is one of them. -/
def State.ahead (s : State) : State :=
  let v := s.stp.excludes.foldl (fun (v : Nat) y => if bit v y then v ^^^ 2 ^ y else v) (s.get Reg.STEP_MEMBERS)
  let t := s.set Reg.STEP_MEMBERS v
  let root := s.get Reg.STEP_ROLE_ROOT_ID
  if s.stp.excludes.contains root then
    match t.nextRoot root with
    | some c => t.set Reg.STEP_ROLE_ROOT_ID c
    | none => t
  else t

/-- This node acts as the root: it is it, or the candidate that takes the place of an excluded one (R28, R47). -/
def State.actsRoot (s : State) : Bool :=
  decide (s.ahead.get Reg.STEP_ROLE_ROOT_ID = s.me) && s.ahead.isMember s.me && !s.flag Reg.STEP_STATUS_NO_ROOT &&
    !s.flag Reg.STEP_STATUS_SELF_ISOLATED

/-- The parent that this node reports to (R29). -/
def State.stepParent (s : State) : Option Nat := s.ahead.parent

/-- The children whose STEP_DONE this node awaits (R29). -/
def State.stepChildren (s : State) : List Nat := s.ahead.childrenOf s.me

/-- Flood a step message over the tree of that structure (R28, R361). -/
def State.floodStep (s : State) (from_ : Option Nat) (i : Instr) : State :=
  s.sendEach 0 0 1 32 i (s.ahead.treeNbrs.filter (fun n => decide (some n ≠ from_)))

/-! ### Closing a step -/

/-- Step t is open: admission into it begins, and what waits for the opening of a step takes place (R27, R258, R377, R421). -/
def State.openNext (s : State) (t : Nat) : State :=
  let s := (s.set Reg.STEP_OPEN t).modStp fun k => { k with closeTick := s.now, waitClose := false }
  (s.satTest).openAmend t

/-- STEP_CLOSE (R27, R28, R30): the node opens the next step and forwards the message to its children; a close of a step that
is closed here already is discarded without a count. -/
def execStepClose (m : StepMsg) (src : Nat) (s : State) :=
  nodeEvt s (fun s => s.withStep m (fun s =>
    if !s.isMember s.me || decide (m.step < s.openStep) then s
    else (s.floodStep (some src) (.stepClose m s.me)).openNext (m.step + 1)))

/-- ADMISSION_WINDOW_EXPIRY (R28): the root closes its open step tADM after its last STEP_CLOSE, if the step before is
committed. -/
def execAdmissionWindowExpiry (s : State) :=
  nodeEvt s (fun s =>
    let t := s.openStep
    if s.actsRoot && decide (t = s.get Reg.STEP_COMMITTED + 1 ∧ s.stp.closeTick + s.get Reg.STEP_WINDOW ≤ s.now) then
      (s.floodStep none (.stepClose (s.ahead.stepMsg t 0xFFFF 0 0) s.me)).openNext (t + 1)
    else s)

/-! ### Conditions 1 to 4 of R29 -/

/-- Condition 1: step t is closed here, and it is the next to be committed. -/
def State.closedHere (s : State) (t : Nat) : Bool := decide (t = s.get Reg.STEP_COMMITTED + 1 ∧ t < s.openStep)

/-- Operations whose staging R29 waits for: filter operations, mutations and gradient updates. -/
def stagesOp (op : Nat) : Bool := decide (op = 2 ∨ op = 3 ∨ op = 0x10 ∨ op = 0x11 ∨ op = 0x12 ∨ op = 0x21)

/-- Condition 2: everything admitted here at t or before is staged at every holder that stays a member, and acknowledged. -/
def State.stagedAll (s : State) (t : Nat) : Bool :=
  let up (n : Nat) : Bool := s.ahead.isMember n
  !(s.srch.adm.any (fun a => stagesOp a.opcode && decide (a.id.step ≤ t) && a.acks.any up)) &&
  !(s.emb.unsent.any (fun u => decide (u.2.due ≤ t) && up u.1)) &&
  !(s.ovl.msgs.any (fun m => !m.acked && up m.dst && (match m.cargo with
    | .cmd (.gradStage r _) => decide (r.due ≤ t)
    | _ => false))) &&
  !(s.emb.dirAcks.any (fun a => decide (a.2 ≤ t) && up a.1))

/-- Condition 3: every member child has reported step t. -/
def State.childrenDone (s : State) (t : Nat) : Bool :=
  s.stepChildren.all (fun c => s.stp.doneFrom.any (fun d => decide (d.1 = t ∧ d.2.1 = c)))

/-- Condition 4: every ANNOUNCE of an operation admitted here at t or before is acknowledged (R473). -/
def State.announced (s : State) (t : Nat) : Bool :=
  !(s.ovl.msgs.any (fun m => !m.acked && s.ahead.isMember m.dst && (match m.cargo with
    | .cmd (.announce id _ _) => decide (id.admitter = s.me ∧ id.step ≤ t)
    | _ => false)))

/-- Conditions 1 to 4. -/
def State.agreed (s : State) (t : Nat) : Bool := s.closedHere t && s.stagedAll t && s.childrenDone t && s.announced t

/-! ### Holds, condition 5 of R29 -/

/-- Deletes that the commit of step t adds to the pending-delete set at most (R40). -/
def State.stagedDeletes (s : State) (t : Nat) : Nat :=
  s.srch.staged.countP (fun g => decide (g.m.id.step ≤ t ∧ (g.m.op = 0x11 ∨ g.m.op = 0x12)))

/-- A shard has upkeep, a rebuild or a filter placement that the commit of t awaits (R74, R76, R148). -/
def upkeepHolds (t : Nat) (sh : Shard) : Bool :=
  sh.upkeep.any (fun u => !u.built && decide (u.due ≤ t)) ||
  (match sh.rebuild with | some b => b.done.isNone && decide (b.serves ≤ t + 1) | none => false) ||
  sh.filters.any (fun f => !f.2.placed && !f.2.completed && decide (f.2.due ≤ t))

/-- Partitions whose collections hold STEP_DONE(t). -/
def State.upkeepParts (s : State) (t : Nat) : List Nat :=
  ((s.srch.shards.filter (upkeepHolds t)).map (fun sh => s.get (Reg.COLL_DESC_PARTITION sh.coll))).dedup

/-- Bytes of committed data that the commit of t adds at most: a record and 32 bytes of index for each staged mutation, and
the renewals that may go with them (R150, R215). -/
def State.commitBytes (s : State) (t : Nat) : Nat :=
  let due := s.srch.staged.filter (fun g => decide (g.m.id.step ≤ t))
  let one (g : Staged) : Nat := 32 + (if g.m.vec.isEmpty then 0 else s.recordBytes g.m.handle)
  let renew (sh : Shard) : Nat :=
    if sh.renewalNow s.srch.pds then
      min (due.countP (fun g => decide (g.m.handle = sh.coll ∧ s.shardOfRecord sh.coll g.m.record = sh.num)) + 1) 64 * (32 + s.recordBytes sh.coll)
    else 0
  (due.map one).sum + (s.srch.shards.map renew).sum

/-- The holds that apply to STEP_DONE(t), by cause, with the partition charged or 0: 0 horizon (R41), 1 pending-delete set
(R40), 2 upkeep (R74, R76, R148), 3 granary (R205, R215), 4 undo set (R289), 5 table loads (R290), 6 first passes (R271), 7
amendments (R420), 8 load reports (R291), 9 a catch-up that has not reached the step of this node's join (R52, assumption
46). -/
def State.holds (s : State) (t : Nat) : List (Nat × Nat) :=
  let only (c : Nat) (b : Bool) : List (Nat × Nat) := if b then [(c, 0)] else []
  let parts (c : Nat) (l : List Nat) : List (Nat × Nat) := l.map (fun p => (c, p))
  let loads := (s.emb.loads.filter (fun l => !l.done && decide (l.due ≤ t + 1))).map (·.info.part)
  only 0 (s.stp.ops.any (fun o => decide (o.step + 15 ≤ t))) ++
  only 1 (decide (2 ^ 20 < s.srch.pds.length + s.stagedDeletes t)) ++
  parts 2 (s.upkeepParts t) ++
  only 3 (!s.flashReady t || decide (s.get Reg.GRAN_CFG_FLUSH_MIB * 2 ^ 20 < s.gran.unprog + s.commitBytes t)) ++
  (if s.undoHolds t then parts 4 (((s.dueRows t).map (fun k => s.tablePart (k / 2 ^ 32))).dedup) else []) ++
  (if s.loadHolds t then parts 5 loads.dedup else []) ++
  parts 6 ((s.passHolds t).map s.modelPart).dedup ++
  only 7 (s.amendHolds t) ++ only 8 (s.ahead.reportHolds t) ++ only 9 s.stp.joinStep.isSome

/-- Count a hold the first time it withholds the closed step. -/
def State.countHold (s : State) (h : Nat × Nat) : State :=
  if s.stp.stalled.contains h then s
  else
    let s := s.modStp fun k => { k with stalled := h :: k.stalled }
    match h.1 with
    | 0 => s.tallyN .STEP_HORIZON_STALLS
    | 1 => s.tallyN .STEP_PDS_STALLS
    | 2 => s.tallyP .COLL_UPKEEP_STALLS h.2
    | 3 => s.tallyN .GRAN_FLUSH_STALLS
    | 4 => s.tallyP .EMB_UNDO_STALLS h.2
    | 5 => s.tallyP .EMB_LOAD_STALLS h.2
    | 6 => s.tallyP .QNT_BUILD_STALLS h.2
    | 7 => s.stick Reg.CFG_COUNTS_STALLS 1
    | _ => s

/-- The stall bits show the holds that withhold STEP_DONE now. -/
def State.showHolds (s : State) (hs : List (Nat × Nat)) : State :=
  let any (c : Nat) : Bool := hs.any (fun h => decide (h.1 = c))
  let s := (s.setB Reg.STEP_STATUS_STALL_HORIZON (any 0)).setB Reg.STEP_STATUS_STALL_PDS (any 1)
  let s := partitions.foldl (fun (s : State) p =>
    let b := hs.contains (2, p)
    if s.flag (Reg.COLL_STATUS_UPKEEP_STALL p) = b then s else s.setB (Reg.COLL_STATUS_UPKEEP_STALL p) b) s
  let s := (s.setB Reg.GRAN_STATUS_FLUSH_STALL (any 3)).setB Reg.EMB_STATUS_UNDO_STALL (any 4)
  (s.setB Reg.EMB_STATUS_LOAD_STALL (any 5)).setB Reg.CFG_STATUS_APPLY_STALL (any 7)

/-- Conditions 1 to 4 hold for the closed step: what still withholds it is shown and counted (R40, R41, R55). -/
def State.checkHolds (s : State) : State :=
  let t := s.get Reg.STEP_COMMITTED + 1
  if s.agreed t then (s.holds t).foldl State.countHold (s.showHolds (s.holds t)) else s.showHolds []

/-- All five conditions of R29 hold for step t. -/
def State.stepDone (s : State) (t : Nat) : Bool := s.agreed t && (s.holds t).isEmpty

/-! ### STEP_DONE -/

/-- Members that report in this node's subtree (R32). -/
def State.subtree (s : State) (t : Nat) : Nat :=
  1 + ((s.stp.doneFrom.filter (fun d => decide (d.1 = t) && s.stepChildren.contains d.2.1)).map (·.2.2)).sum

/-- SEND_STEP_DONE (R29): when every condition holds for the closed step, the node reports it to its parent, once to each
parent that the tree gives it (R470). -/
def execSendStepDone (s : State) :=
  nodeEvt s (fun s =>
    let s := s.checkHolds
    let t := s.get Reg.STEP_COMMITTED + 1
    match s.stepParent with
    | none => s
    | some p =>
      if s.actsRoot || !s.isMember s.me || !s.stepDone t || s.flag Reg.STEP_STATUS_SELF_ISOLATED || decide (s.stp.doneSent = t ∧ s.stp.doneTo = some p) then s
      else
        let s1 := s.modStp fun k => { k with doneSent := t, doneTo := some p, doneTick := s.now }
        s1.sendStep p (.stepDone (s1.ahead.stepMsg t 0xFFFF (s1.subtree t) 0) s1.me))

/-- STEP_DONE (R29, R32): a child's report, kept until the step is committed. -/
def execStepDone (m : StepMsg) (src : Nat) (s : State) :=
  nodeEvt s (fun s => s.withStep m (fun s =>
    if m.step ≤ s.get Reg.STEP_COMMITTED then s
    else s.modStp fun k => { k with
      doneFrom := (m.step, src, m.count) :: k.doneFrom.filter (fun d => decide (¬ (d.1 = m.step ∧ d.2.1 = src))) }))

/-- The greatest agreement time, 6 µs, in ticks (R32). -/
def tAGR : Nat := 150

/-- STEP_WAIT_TIMEOUT (R56): STEP_DONE was sent, and its STEP_COMMIT has not come within the greatest agreement time. -/
def execStepWaitTimeout (s : State) :=
  nodeEvt s (fun s =>
    if s.stp.doneSent = s.get Reg.STEP_COMMITTED + 1 ∧ s.stp.doneTo.isSome = true ∧ s.stp.doneTick + tAGR < s.now then
      s.setB Reg.STEP_STATUS_STALL_WAIT true
    else s)

end Sys2Proof.Machine
end

