-- ==== Sys2Proof/Machine/Bulk.lean ====
section
/-! DEFINITION. The BULK messages (R356): records and pages that one node sends another to recover or rebuild what it has
lost (R99, R182, R209). CHUNKS is with the stacked memory. -/

namespace Sys2Proof.Machine

open Sys2Proof

/-- A recovered frame is written again through stream 4, and its old block is queued for collection (R209). -/
def State.rewritePage (s : State) (l : Nat) : State :=
  match tfind s.gran.map l with
  | none => s
  | some w =>
    let b := mapBlock w
    s.modGran fun g => { g with
      rewrite := if g.rewrite.contains (4, FlashUnit.moved l) then g.rewrite else g.rewrite ++ [(4, FlashUnit.moved l)]
      collecting := if g.collecting.contains b then g.collecting else g.collecting ++ [b] }

/-- BULK_RECORD_READ (R99): the far node of a shard asks for a record; it is answered with it, or with its failure. -/
def execBulkRecordRead (coll shard slot src : Nat) (s : State) :=
  nodeEvt s (fun s =>
    let ok := match s.shard? coll shard with | some sh => (tfind sh.store slot).isSome | none => false
    s.sendMsg 0 9 0 src (if ok then 16 + s.recordBytes coll else 16) (.bulkRecordReply coll shard slot ok))

/-- BULK_RECORD_REPLY (R99, R209): the record is there for gleaning, and its frame is written again. -/
def execBulkRecordReply (coll shard slot : Nat) (ok : Bool) (s : State) :=
  nodeEvt s (fun s =>
    let e := (coll, shard, slot, ok)
    let s := s.modSrch fun k => { k with fetched := if k.fetched.contains e then k.fetched else k.fetched ++ [e] }
    match (if ok then s.slotPage coll shard slot else none) with
    | some x => s.rewritePage x.1
    | none => s)

/-- INDEX_PAGE (R209): a record index page from the shard's other node, or its failure, after which no holder can read it. -/
def execIndexPage (coll shard lpage : Nat) (ok : Bool) (s : State) :=
  nodeEvt s (fun s =>
    if (s.shard? coll shard).isNone then s
    else if ok then (s.idxRead lpage true).rewritePage lpage else s.idxRead lpage false)

/-- FILTER_BITS (R182): the filter bits of a list for its rebuild; bits that cannot be copied fail the queries that name the
filter, until it is loaded again. -/
def execFilterBits (coll shard list fslot : Nat) (ok : Bool) (s : State) :=
  nodeEvt s (fun s =>
    let e := (coll, shard, list, fslot)
    if ok || (s.shard? coll shard).isNone || s.srch.lostBits.contains e then s
    else s.modSrch fun k => { k with lostBits := k.lostBits ++ [e] })

/-- Every record of a model that runs or waits here fails. -/
def State.failModel (s : State) (i : Nat) : State :=
  let runs := s.enc.runs.filter (fun e => decide (e.2.r.model = i))
  let s := runs.foldl (fun (s : State) e => s.failRun e.1 e.2 10) s
  (s.enc.backlog.filter (fun r => decide (r.model = i))).foldl (fun (s : State) r =>
    s.endRecord r 10 (outBytes 10 0 0 0 0 []) 0 0 []) s

/-- WEIGHTS (R209): model weights from another node that holds the same model, named by digest; without them its jobs
complete with FAILED. -/
def execWeights (model lpage : Nat) (ok : Bool) (s : State) :=
  nodeEvt s (fun s =>
    if 256 ≤ model ∨ s.get (Reg.ENC_MODEL_STATE model) = 0 then s
    else if ok then s.rewritePage lpage else s.failModel model)

end Sys2Proof.Machine
end

