-- ==== Sys2Proof/Machine/ShardCommit.lean ====
section
/-! DEFINITION. What the commit of a step does to a shard (R33 to R39, R74 to R83, R139 to R150, R212 to R215, R425): filter
operations, mutations in key order, renewal, upkeep, the committed lengths, and the commit chain. -/

namespace Sys2Proof.Machine

open Sys2Proof

/-! ### The pure part -/

/-- Mutations in the key order of R33. -/
def keyOrder (a b : Staged) : Bool :=
  decide (a.m.record < b.m.record ∨ (a.m.record = b.m.record ∧ (a.m.id.admitter < b.m.id.admitter ∨
    (a.m.id.admitter = b.m.id.admitter ∧ a.m.id.seq ≤ b.m.id.seq))))

/-- Filter operations in the order of R33, as far as it names them. -/
def filterOrder (a b : FilterOp) : Bool :=
  decide (a.id.admitter < b.id.admitter ∨ (a.id.admitter = b.id.admitter ∧ a.id.seq ≤ b.id.seq))

/-- Apply one mutation (R140, R141), unless every page of the shard's record index is full (R213). -/
def Shard.applyCap (cap : Option Nat) (t : Nat) (sh : Shard) (pds : List PdsPair) (g : Staged) :
    Shard × List PdsPair × MutOutcome :=
  let full : Bool := match cap with | some n => decide (n ≤ sh.index.length) | none => false
  if full && !g.withheld && decide (g.m.op ≠ 0x11) && (tfind sh.index g.m.record).isNone then (sh, pds, MutOutcome.notApplied 3)
  else sh.applyOne pds t g

/-- Apply the staged mutations of a step, each against what those before it left. -/
def Shard.applyAll (cap : Option Nat) (t : Nat) : List Staged → Shard → List PdsPair →
    Shard × List PdsPair × List (Staged × MutOutcome)
  | [], sh, pds => (sh, pds, [])
  | g :: gs, sh, pds =>
    let r := sh.applyCap cap t pds g
    let q := Shard.applyAll cap t gs r.1 r.2.1
    (q.1, q.2.1, (g, r.2.2) :: q.2.2)

/-- The bytes of a filter's bitmap. -/
def FilterObj.bytes (o : FilterObj) : List Byte := natLe (cdiv o.op.slotCount 8) o.bitmap

/-- Slots below SLOT_COUNT whose bitmap bit is 1 (R80). -/
def FilterObj.allowed (o : FilterObj) : Nat :=
  (List.range (o.bitmap.log2 + 1)).countP (fun i => decide (i < o.op.slotCount) && bit o.bitmap i)

/-- A FILTER_LOAD of step t reaches its shard: refused when the slot is not free or SLOT_COUNT too large (R76). -/
def Shard.beginLoad (sh : Shard) (due : Nat) (f : FilterOp) : Shard × Bool :=
  if (tfind sh.filters f.fslot).isSome ∨ sh.tail + 2 ^ 32 < f.slotCount then (sh, false)
  else
    let o : FilterObj := { op := f, due := due, bitmap := 0, placed := false, status := 0, completed := false, retiredAt := none }
    ({ sh with filters := tput sh.filters f.fslot o }, true)

/-- A FILTER_RETIRE of step t reaches the shard (R79). -/
def Shard.beginRetire (sh : Shard) (t : Nat) (f : FilterOp) : Shard :=
  { sh with filters := tmod sh.filters f.fslot (fun o => { o with retiredAt := some (o.retiredAt.getD t) }) }

/-- Loads due at the commit of t complete (R76, R80): their bits are placed, or nothing is and the slot is free. -/
def Shard.endLoads (sh : Shard) (t : Nat) : Shard × List (Nat × FilterObj) :=
  let due := sh.filters.filter (fun f => !f.2.completed && decide (f.2.due ≤ t))
  (due.foldl (fun (a : Shard) f =>
    if f.2.status = 0 then
      let a := a.placeFilter f.1 f.2
      { a with filters := tmod a.filters f.1 (fun o => { o with completed := true }) }
    else { a with filters := tdel a.filters f.1 }) sh, due)

/-- What the commit of a step did to a shard. -/
structure ShardCommit where
  sh : Shard
  pds : List PdsPair
  /-- Mutations with their outcomes -/
  outs : List (Staged × MutOutcome)
  /-- Filter loads that completed -/
  loads : List (Nat × FilterObj)
  /-- Renewals made (R150) -/
  renewed : Nat
  /-- Upkeep actions that took effect -/
  acts : List Upkeep
  /-- Splits suppressed under R83 -/
  suppressed : Nat
  /-- A graph rebuild took effect -/
  rebuilt : Bool
  deriving DecidableEq, Repr

/-- The chain entry of a mutation (R425). -/
def chainOf (x : Staged × MutOutcome) : List Byte :=
  natLe 8 x.1.m.record ++ natLe 1 x.1.m.op ++ natLe 1 x.2.outcome ++ natLe 8 x.2.newSlot ++ digestBytes x.1.digest

/-- The chain entry of a filter operation (R425). -/
def chainFilter (slot op : Nat) (o : FilterObj) : List Byte := natLe 1 slot ++ natLe 1 op ++ digestBytes (Config.sm3 o.bytes)

/-- The chain after the commit of t (R425): unchanged when nothing was applied. -/
def Shard.chained (sh : Shard) (t : Nat) (ms : List (List Byte)) : Shard :=
  if ms.isEmpty then sh
  else { sh with chain := Config.sm3 (digestBytes sh.chain ++ natLe 8 t ++ ms.flatten), chainStep := t }

/-- Renewals at a commit (R150): as many as the host appended, plus 1, and at most 64, while renewal is in force. -/
def Shard.renewal (sh : Shard) (c : CollCfg) (pds : List PdsPair) (t appends : Nat) : Shard × List PdsPair × Nat :=
  if sh.renewalNow pds then
    let r := Shard.renew c t (min (appends + 1) 64) sh pds
    ({ r.1 with renewing := true }, r.2)
  else ({ sh with renewing := false }, pds, 0)

/-- An outcome that appended a record. -/
def hasAppended (o : MutOutcome) : Bool := decide (o.outcome = 0 ∨ o.outcome = 1)

/-- The filter operations of a step reach shard n in order: the shard, and the loads it refuses (R76, R79). -/
def Shard.takeFilters (sh : Shard) (t lag : Nat) (fops : List FilterOp) : Shard × List FilterOp :=
  fops.foldl (fun (a : Shard × List FilterOp) f =>
    if f.shard = some sh.num then
      let r := a.1.beginLoad (t + lag) f
      (r.1, if r.2 then a.2 else a.2 ++ [f])
    else if f.shard = none then (a.1.beginRetire t f, a.2) else a) (sh, [])

/-- The commit of step t on one shard (R140): loads due, host mutations in key order, renewal, upkeep and rebuilds that take
effect, the committed lengths for step t + 1, the upkeep it triggers, and the chain. -/
def Shard.commit (sh : Shard) (c : CollCfg) (cap : Option Nat) (pds : List PdsPair) (t : Nat) (gs : List Staged)
    (retires : List FilterOp) : ShardCommit :=
  let ld := sh.endLoads t
  let ap := Shard.applyAll cap t (sortBy keyOrder gs) ld.1 pds
  let rn := ap.1.renewal c ap.2.1 t (ap.2.2.countP (fun x => hasAppended x.2))
  let up := rn.1.upkeepDue c rn.2.1 t
  let rb := up.1.rebuildDue t
  let ev := (rb.1.writeRings t).evaluate c rn.2.1 t
  let ms := (ld.2.filter (fun f => decide (f.2.status = 0))).map (fun f => chainFilter f.1 2 f.2) ++
    retires.filterMap (fun f => (tfind sh.filters f.fslot).map (fun o => chainFilter f.fslot 3 o)) ++
    (ap.2.2.filter (fun x => decide (x.2.outcome < 7))).map chainOf
  { sh := (ev.1.rebuildCheck c t).chained t ms, pds := rn.2.1, outs := ap.2.2, loads := ld.2, renewed := rn.2.2, acts := up.2,
    suppressed := ev.2, rebuilt := rb.2 }

/-! ### On the node -/

/-- One more update of a dirty index page (R213). -/
def dirtyPage (h n pg t : Nat) (l : List (Nat × Nat × Nat × Nat × Nat)) : List (Nat × Nat × Nat × Nat × Nat) :=
  if l.any (fun d => decide (d.1 = h ∧ d.2.1 = n ∧ d.2.2.1 = pg)) then
    lmod (fun d => decide (d.1 = h ∧ d.2.1 = n ∧ d.2.2.1 = pg)) (fun d => (h, n, pg, d.2.2.2.1 + 1, d.2.2.2.2)) l
  else l ++ [(h, n, pg, 1, t)]

/-- Committed records and index updates wait to be programmed (R146, R213, R215); logical pages below the oldest slot still
referenced are trimmed (R212). -/
def State.toFlash (s : State) (h n t : Nat) (old new : Shard) (pds0 pds : List PdsPair) (outs : List (Staged × MutOutcome)) : State :=
  let host := outs.filterMap (fun x => if hasAppended x.2 then some (x.2.newSlot, x.1.m.id.admitter, mutUnits x.1.m) else none)
  let slots := (List.range (new.tail - old.tail)).map (fun i => old.tail + i)
  let recs := slots.map (fun k => match host.find? (fun x => decide (x.1 = k % 2 ^ 40)) with
    | some x => (h, n, k, x.2.1, x.2.2)
    | none => (h, n, k, s.me, 0))
  let ids := ((new.idxWas.filter (fun w => decide (w.2.1 = t))).map (·.1)).dedup
  let pages := (s.idxRegion h n).getD 1
  let s := s.modSrch fun k => { k with unflushed := k.unflushed ++ recs }
  let s := s.modGran fun g => { g with idxDirty := ids.foldl (fun l id => dirtyPage h n (bucketPage pages id) t l) g.idxDirty }
  let s := s.setUnprog (s.gran.unprog + slots.length * s.recordBytes h + 32 * ids.length)
  let a := old.oldestSlot pds0
  let b := new.oldestSlot pds
  let gone := (((List.range (b - a)).filterMap (fun i => (s.slotPage h n (a + i)).map (·.1))).dedup).filter
    (fun l => decide ((s.slotPage h n b).map (·.1) ≠ some l))
  s.modGran fun g => { g with rewrite := g.rewrite ++ gone.map (fun l => (5, FlashUnit.trim l)) }

/-- Count and show the upkeep that took effect (R74, R83, R84). -/
def State.countUpkeep (s : State) (p : Nat) (r : ShardCommit) : State :=
  let n (f : UpkeepKind → Bool) : Nat := r.acts.countP (fun u => f u.kind)
  let splits := n (fun k => match k with | .split .. => true | _ => false)
  let merges := n (fun k => match k with | .merge .. => true | _ => false)
  let s := ((s.tallyP .COLL_SPLITS p splits).tallyP .COLL_MERGES p merges).tallyP .COLL_COMPACTIONS p
    (n (fun k => match k with | .compact => true | _ => false))
  let s := s.tallyP .COLL_SPLIT_SUPPRESSED p (n (fun k => match k with | .suppress _ => true | _ => false) + r.suppressed)
  let s := (s.tallyP .COLL_REBUILDS p (b2n r.rebuilt)).tallyP .MUT_RENEWED p r.renewed
  let s := s.when (decide (0 < splits)) (fun s => (s.setB (Reg.COLL_STATUS_SPLIT_EVT p) true).event p 1)
  let s := s.when (decide (0 < merges)) (fun s => (s.setB (Reg.COLL_STATUS_MERGE_EVT p) true).event p 1)
  s.when r.rebuilt (fun s => (s.setB (Reg.COLL_STATUS_REBUILD_EVT p) true).event p 1)

/-- An applied outcome of a holder that commits alone reads DEGRADED (R143). -/
def State.aloneOutcome (s : State) (h n : Nat) (o : MutOutcome) : MutOutcome :=
  if o.status = 0 ∧ (s.holderList h n).any (fun x => !s.ahead.isMember x) = true then { o with status := 8 } else o

/-- The commit of step t on shard n of collection h, its outcomes to the admitting nodes (R143, R144), and credit that comes
back (R137). A mutation whose index entry no holder can read is not applied: FAILED (R145). -/
def State.commitShard (s : State) (t h n : Nat) (fops : List FilterOp) : State :=
  match s.shard? h n with
  | none => s
  | some sh =>
    let c := s.cfgAt t h
    let p := s.get (Reg.COLL_DESC_PARTITION h)
    let fops := fops.filter (fun f => decide (f.handle = h))
    let all := s.srch.staged.filter (fun g => decide (g.m.handle = h ∧ g.m.id.step ≤ t ∧ s.shardOfRecord h g.m.record = n))
    let gs := all.filter (fun g => g.withheld || !s.idxLost h n g.m.record)
    let failed := (all.filter (fun g => !g.withheld && s.idxLost h n g.m.record)).map (fun g => (g, MutOutcome.notApplied 10))
    let tf := sh.takeFilters t c.lag fops
    let r := tf.1.commit c ((s.idxRegion h n).map (· * 511)) s.srch.pds t gs (fops.filter (fun f => f.shard.isNone))
    let oldest := r.sh.oldestSlot r.pds
    let new := { r.sh with store := r.sh.store.filter (fun e => decide (oldest ≤ e.1)) }
    let pds0 := s.srch.pds
    let s := (s.modSrch fun k => { k with pds := r.pds }).modShard h n (fun _ => new)
    let s := (s.toFlash h n t sh new pds0 r.pds r.outs).countUpkeep p r
    let s := (r.outs ++ failed).foldl (fun (s : State) x =>
      let s := if hasAppended x.2 then s else s.returnCredit x.1.m.id.admitter (mutUnits x.1.m)
      s.sendOutcome x.1.m.id x.1.m.part (s.aloneOutcome h n x.2)) s
    let s := tf.2.foldl (fun (s : State) f => s.sendOutcome f.id f.part (MutOutcome.notApplied 5)) s
    r.loads.foldl (fun (s : State) f =>
      s.sendOutcome f.2.op.id f.2.op.part { MutOutcome.notApplied f.2.status with newSlot := f.2.allowed }) s

/-- What every node notes of the filter operations of step t (R79): retirements, and loads but those that a holder here knows
to be refused. A load admitted here is due at the commit of t and the UPKEEP_LAG in force then, kept above the filter slot
and the shard in its record field. -/
def State.noteFilters (s : State) (t : Nat) (fops : List FilterOp) : State :=
  fops.foldl (fun (s : State) f =>
    let lag := (s.inForce t).get (Reg.COLL_DESC_UPKEEP_LAG f.handle)
    let info := s.coll f.handle
    let refused (n : Nat) : Bool := match s.shard? f.handle n with
      | some sh => !(sh.beginLoad (t + lag) f).2
      | none => false
    let info := match f.shard with
      | some n => if refused n then info else { info with loads := info.loads ++ [(f.fslot, n, t, t + lag)] }
      | none => { info with retires := info.retires ++ [(f.fslot, t)] }
    let s := if f.shard.isSome then s.modAdm f.id (fun a => { a with record := a.record % 2 ^ 24 + 2 ^ 24 * (t + lag) }) else s
    s.modSrch fun k => { k with colls := tset CollInfo.none k.colls f.handle info }) s

/-- The commit of step t on every shard held here. -/
def State.commitShards (s : State) (t : Nat) : State :=
  let fops := sortBy filterOrder (s.srch.filterOps.filter (fun f => decide (f.id.step ≤ t)))
  let s := s.noteFilters t fops
  let s := (s.srch.shards.map (fun sh => (sh.coll, sh.num))).foldl (fun (s : State) x => s.commitShard t x.1 x.2 fops) s
  s.modSrch fun k => { k with
    staged := k.staged.filter (fun g => decide (t < g.m.id.step)),
    filterOps := k.filterOps.filter (fun f => decide (t < f.id.step)),
    digests := k.digests.filter (fun d => decide (t < d.1.step)) }

/-- Filter loads and retirements that nothing needs any more: the slot is free again (R77, R79). -/
def State.pruneFilters (s : State) : State :=
  let old := s.oldestWork
  let com := s.get Reg.STEP_COMMITTED
  s.modSrch fun k => { k with colls := k.colls.map (fun c =>
    let gone (l : Nat × Nat × Nat × Nat) : Bool := decide (l.2.2.2 ≤ com) &&
      c.2.retires.any (fun r => decide (r.1 = l.1 ∧ l.2.2.1 ≤ r.2 ∧ r.2 ≤ com ∧ r.2 < old))
    let loads := c.2.loads.filter (fun l => !gone l)
    (c.1, { c.2 with loads := loads, retires := c.2.retires.filter (fun r => loads.any (fun l => decide (l.1 = r.1)) || decide (com ≤ r.2 + 16)) })) }

end Sys2Proof.Machine
end

