-- ==== Sys2Proof/Machine/Leave.lean ====
section
/-! DEFINITION. A node that leaves (R42, R45, R47, R49, R50, R100, R122, R470): what the node does once it knows of the coming
exclusion, and what the exclusion does when it takes effect. -/

namespace Sys2Proof.Machine

open Sys2Proof

/-! ### Once the exclusion is known -/

/-- A mutation staged here whose other holder leaves: this holder acknowledges alone, as for an unmirrored shard (R143, R469).
The mutations that the leaving node admitted are treated by R50. -/
def State.stageAlone (s : State) : State :=
  s.srch.staged.foldl (fun (s : State) g =>
    if g.acked || g.peer.isSome || s.stp.excludes.contains g.m.id.admitter ||
        (s.ahead.farHolder g.m.handle (s.shardOfRecord g.m.handle g.m.record)).isSome then s
    else
      (s.modSrch fun k => { k with
        staged := lmod (fun x => decide (x.m.id = g.m.id)) (fun x => { x with peer := some x.digest }) k.staged }).compareDigests g.m.id none) s

/-- Nothing more is awaited from y's link layer: what was sent to it counts as acknowledged, so that floods that passed to
it are acknowledged in their turn (R361). -/
def State.forgetNode (s : State) (y : Nat) : State :=
  let nums := (s.ovl.msgs.filter (fun m => decide (m.dst = y))).map (·.num)
  (s.modOvl fun o => { o with
    msgs := lmod (fun m => decide (m.dst = y)) (fun m => { m with acked := true }) o.msgs
    floodAwait := (o.floodAwait.map (fun e => (e.1, e.2.1, e.2.2.filter (fun n => !nums.contains n)))).filter
      (fun e => !e.2.2.isEmpty) }).forget

/-- Floods that the leaving node may not have passed on go to the tree neighbours that the repair gives in its place: those
not acknowledged by it, and the operations and queries held here (assumption 43). -/
def State.mendFloods (s : State) (y : Nat) : State :=
  let new := s.ahead.treeNbrs.filter (fun n => !s.treeNbrs.contains n)
  let lost := s.ovl.msgs.filter (fun m => decide (m.dst = y ∧ m.route = 1) && !m.acked)
  let s := lost.foldl (fun (s : State) m => match m.cargo with
    | .cmd i => s.sendEach m.part m.cls 1 (m.bytes - 16) i new
    | .raw _ => s) s
  let s := s.srch.work.foldl (fun (s : State) w => s.sendEach w.q.part 1 1 (s.distBytes w.q) (.queryDist w.q s.me) new) s
  s.stp.ops.foldl (fun (s : State) o =>
    let id : OpId := { step := o.step, seq := o.seq, admitter := o.admitter }
    let s := s.sendEach 0 1 1 24 (.announce id o.opcode s.me) new
    if o.released then s.sendEach 0 1 1 24 (.release id o.opcode s.me) new else s) s

/-- The exclusion of a node at the coming commit is past the horizon of a step's queries (R42). -/
def State.pastHorizon (s : State) (step : Nat) : Bool := decide (step + 15 ≤ s.get Reg.STEP_COMMITTED + 1)

/-- A pass that was asked of y cannot be had: the query fails (R157). -/
def State.farLost (s : State) (y : Nat) : State :=
  s.srch.work.foldl (fun (s : State) w =>
    w.shards.foldl (fun (s : State) x =>
      x.passes.foldl (fun (s : State) p =>
        if p.far = some y then
          (s.modPass w.q.id x.shard p.list (fun p => { p with far := none, stook := some [] })).spoil w.q.id 10
        else s) s) s) s

/-- Work that only y can still deliver to a query past its horizon is not awaited: the query completes with HORIZON (R42). -/
def State.horizonNow (s : State) (y : Nat) : State :=
  let qs := s.srch.work.filter (fun w => s.pastHorizon w.q.id.step && w.await.contains y)
  let s := qs.foldl (fun (s : State) w =>
    (s.modWork w.q.id (fun x => { x with await := x.await.erase y, bad := worse x.bad 7 })).tryEmit w.q.id) s
  let ls := s.emb.lookups.filter (fun l => s.pastHorizon l.id.step && l.await.contains y)
  let s := ls.foldl (fun (s : State) (l : Lookup) => s.finishLookup { l with await := [], bad := worse l.bad 7 }) s
  let rs := s.enc.sent.filter (fun r => s.pastHorizon r.r.id.step && (s.chainOf r.r.model).contains y)
  rs.foldl (fun (s : State) r => s.restartChain (r.r.id.step + 16) r) s

/-- What the node holds of operations that y admitted is dropped: their results are lost with it (R49). -/
def State.dropOps (s : State) (y : Nat) (hit : Nat → Bool) : State :=
  let mine (id : OpId) : Bool := decide (id.admitter = y) && hit id.step
  let s := s.modSrch fun k => { k with work := k.work.filter (fun w => !mine w.q.id) }
  let s := s.modEmb fun e => { e with
    waiting := e.waiting.filter (fun x => !mine x.id), gathers := e.gathers.filter (fun x => !mine x.id),
    partials := e.partials.filter (fun x => !mine x.id) }
  let s := ((s.enc.runs.map (·.2) ++ s.enc.arrived).filter (fun r => mine r.r.id)).foldl (fun (s : State) r => s.dropRun r.r.id r.r.pos) s
  (s.modStp fun k => { k with ops := k.ops.filter (fun o => !(decide (o.admitter = y) && hit o.step)) }).regrant

/-- The node awaits nothing more of y, which the coming STEP_COMMIT excludes (R45, R49). -/
def State.awaitNothing (s : State) (y : Nat) : State :=
  let s := s.modStp fun k => { k with excludes := k.excludes ++ [y] }
  let s := ((s.stageAlone.mendFloods y).forgetNode y).farLost y
  let s := (s.horizonNow y).dropOps y s.pastHorizon
  (s.srch.work.map (·.q.id)).foldl State.tryEmit s

/-- EXCLUDE (R45, R47): the node awaits nothing more of the subject. The acting root tells the other members, so that they
report over the repaired tree (assumption 43). With no candidate left in place of an excluded root there is no root. -/
def execExclude (m : StepMsg) (_src : Nat) (s : State) :=
  nodeEvt s (fun s => s.withStep m (fun s =>
    let y := m.subject
    if !s.isMember y || decide (y = s.me) || s.stp.excludes.contains y then s
    else if y = s.get Reg.STEP_ROLE_ROOT_ID ∧ (s.nextRoot y).isNone = true then s.noRoot
    else
      let s := s.awaitNothing y
      if s.actsRoot then
        s.sendEach 0 0 0 32 (.exclude (s.ahead.stepMsg s.openStep y 0 0) s.me) (s.otherMembers.filter (fun n => !s.stp.excludes.contains n))
      else s))

/-! ### When the exclusion takes effect -/

/-- A mutation that y admitted stays at the commit of t (R50): it was admitted at t, its digests agree, and every other
holder that stays names it. -/
def State.keepsStaged (s : State) (t y : Nat) (far : List (OpId × Nat × Nat)) (g : Staged) : Bool :=
  decide (g.m.id.admitter ≠ y) ||
  (decide (g.m.id.step = t ∧ g.peer = some g.digest) && !g.withheld &&
    ((s.holderList g.m.handle (s.shardOfRecord g.m.handle g.m.record)).filter (fun n => decide (n ≠ s.me ∧ n ≠ y) && s.isMember n)).all
      (fun n => far.contains (g.m.id, 0, n)))

/-- A gradient record that y admitted stays, likewise, by the step at which it is due. -/
def State.keepsGrad (s : State) (t y : Nat) (far : List (OpId × Nat × Nat)) (r : GradRec) : Bool :=
  decide (r.id.admitter ≠ y) ||
  (decide (r.due = t) && ((s.gradNodes r.table r.row r.id.step).filter (fun n => decide (n ≠ s.me ∧ n ≠ y))).all
    (fun n => far.contains (r.id, r.pos, n)))

/-- What y admitted at t without agreement, or above t, is discarded and counted (R50). Its filter operations go with it. -/
def State.discardOf (s : State) (t y : Nat) (far : List (OpId × Nat × Nat)) : State :=
  let gone := s.srch.staged.countP (fun g => !s.keepsStaged t y far g) + s.emb.grads.countP (fun r => !s.keepsGrad t y far r)
  let st := s.srch.staged.filter (s.keepsStaged t y far)
  let gr := s.emb.grads.filter (s.keepsGrad t y far)
  let s := s.modSrch fun k => { k with
    staged := st, filterOps := k.filterOps.filter (fun f => decide (f.id.admitter ≠ y)),
    reads := k.reads.filter (fun m => decide (m.id.admitter ≠ y)) }
  (s.modEmb fun e => { e with grads := gr, dirStaged := e.dirStaged.filter (fun d => decide (t ≤ d.1)) }).tallyN .MEMB_DISCARDED gone

/-- The mirror of shards that an excluded node owned re-runs that node's share of a running query (R49, R122); hit says whose
shards. -/
def State.rerunShares (s : State) (hit : Nat → Bool) (w : QWork) : State :=
  let mine := (s.srch.shards.filter (fun sh => decide (sh.coll = w.q.handle ∧ sh.mirror = s.me) && hit sh.owner &&
    !w.shards.any (fun x => decide (x.shard = sh.num)))).map (·.num)
  if mine.isEmpty then s
  else
    ((s.modWork w.q.id (fun x => { x with shards := x.shards ++ mine.map (fun n => ShardWork.fresh n true), stookRes := none })).holdOp
      w.q.id 1).modStp fun k => { k with ops := lmod (·.is w.q.id) (fun o => { o with released := true }) k.ops }

/-- The nodes of y's subtree in a view of the tree, y not among them. -/
def State.below (s : State) (y : Nat) : Nat → List Nat
  | 0 => []
  | fuel + 1 =>
    let c := s.treeNodes.filter (fun n => decide (s.rawParent n = some y))
    c ++ (c.map (fun n => s.below n fuel)).flatten

/-- A node serves a shard of a collection (R24, R49). -/
def State.servesAny (s : State) (h n : Nat) : Bool :=
  (s.coll h).shardMap.any (fun o => decide (o.1 = n) || (decide (o.2 = n) && !s.isMember o.1))

/-- The repair of one running query when y, not the root, leaves (R470). `was` is the state with the membership until then:
the nearest member ancestor of y awaits, in place of y's input, the node sheaf of every member of y's subtree that serves
the collection; those members abandon their stage and send theirs to it. -/
def State.mendQuery (s : State) (y : Nat) (was : State) (w : QWork) : State :=
  let sub := (was.below y 64).filter (fun n => s.isMember n)
  let anc := was.parentOf y 4096
  let s :=
    if w.await.contains y then
      let more := sub.filter (fun n => (s.forStep w.q.id.step).isMember n && was.servesAny w.q.handle n)
      s.modWork w.q.id (fun x => { x with await := x.await.erase y ++ more })
    else s
  let s :=
    if sub.contains s.me then
      s.modWork w.q.id (fun x => { x with direct := anc, await := [], inputs := [], emitted := false })
    else s
  s.tryEmit w.q.id

/-- A running query's merge is formed again along a new root's tree (R100). Past its horizon it completes with HORIZON (R42). -/
def State.reform (s : State) (t : Nat) (w : QWork) : State :=
  let late := decide (w.q.id.step + 15 ≤ t)
  let s := s.modWork w.q.id (fun x => { x with
    await := (s.forStep w.q.id.step).childrenOf s.me, inputs := [], reruns := [], emitted := false, direct := none, mergeRes := none,
    bad := if late then worse x.bad 7 else x.bad })
  (s.holdOp w.q.id 1).modStp fun k => { k with ops := lmod (·.is w.q.id) (fun o => { o with released := true }) k.ops }

/-- What the exclusion of y at the commit of t does to running queries; `was` is the state before it. -/
def State.queriesLose (s : State) (t y : Nat) (was : State) : State :=
  let s := (s.dropOps y (fun _ => true)).farLost y
  let near (w : QWork) : Bool := decide (t < w.q.id.step + 15)
  if y = was.get Reg.STEP_ROLE_ROOT_ID then
    let s := s.srch.work.foldl (fun (s : State) w => s.reform t w) s
    let s := (s.srch.work.filter near).foldl (fun (s : State) w => s.rerunShares (fun o => !s.isMember o) w) s
    s.regrant
  else
    let s := (s.srch.work.filter near).foldl (fun (s : State) w => s.rerunShares (fun o => decide (o = y)) w) s
    let s := (s.srch.work.filter near).foldl (fun (s : State) w => s.mendQuery y was w) s
    let s := (s.srch.work.filter (fun w => !near w && w.await.contains y)).foldl (fun (s : State) w =>
      (s.modWork w.q.id (fun x => { x with await := x.await.erase y, bad := worse x.bad 7 })).tryEmit w.q.id) s
    s.regrant

end Sys2Proof.Machine
end

