-- ==== Sys2Proof/Machine/Report.lean ====
section
/-! DEFINITION. State reports (R425, R427, R435): what a host asks of a SEC_REPORT slot, and the report that the entry node
assembles, signs and writes after the commit of the step before the one asked for. -/

namespace Sys2Proof.Machine

open Sys2Proof

/-- The members at step t, as far as this node still knows. -/
def State.membersAt (s : State) (t : Nat) : Nat :=
  match s.stp.was.reverse.find? (fun w => decide (t < w.1)) with
  | some w => w.2
  | none => s.get Reg.STEP_MEMBERS

/-- A chain as a report of step t shows it: its value, and the step of its latest change. -/
structure ChainView where
  value : Digest
  last : Nat
  /-- Neither holder was a member: the value reads as zeros -/
  dead : Bool
  deriving DecidableEq, Repr

/-- The chain of shard n of collection h in a report of step t; `now` says that the commit of t − 1 is the present state. -/
def State.shardChain (s : State) (h n t : Nat) (now : Bool) : ChainView :=
  if !(s.holderList h n).any (fun k => bit (s.membersAt (t - 1)) k) then { value := 0, last := 0, dead := true }
  else match (if now then s.srch.shards.find? (fun x => decide (x.coll = h ∧ x.num = n)) else none) with
    | some sh => { value := sh.chain, last := sh.chainStep, dead := false }
    | none => { value := Config.farChain h n t, last := Config.farChange h n t, dead := false }

/-- The chain of a table in a report of step t: this node's own if it keeps the table. -/
def State.tableChain (s : State) (i t : Nat) (now : Bool) : ChainView :=
  let n := s.get (Reg.EMB_TABLE_TABLE i)
  if now && (tget [] s.emb.nodes i).contains s.me then
    { value := tget 0 s.emb.chain n, last := tget 0 s.emb.chainStep n, dead := false }
  else { value := Config.farChain (2 ^ 32 + n) 0 t, last := Config.farChange (2 ^ 32 + n) 0 t, dead := false }

/-- A state report entry (R427). -/
def reportEntry (kind id last : Nat) (d : Digest) : List Byte :=
  natLe 1 kind ++ natLe 3 0 ++ natLe 4 id ++ natLe 8 last ++ digestBytes d

/-- The entries of a report of step t for partition p, and whether a shard had no holder. -/
def State.reportEntries (s : State) (p t : Nat) (now : Bool) : List (List Byte) × Bool :=
  let colls := s.collsUsed.filter (fun h => decide (s.get (Reg.COLL_DESC_PARTITION h) = p))
  let cs := colls.map (fun h => (h, (List.range (s.get (Reg.COLL_DESC_SHARDS h))).map (fun n => s.shardChain h n t now)))
  let tabs := s.tablesUsed.filter (fun i => decide (s.get (Reg.EMB_TABLE_PARTITION i) = p))
  let mods := s.modelsUsed.filter (fun i => decide (s.get (Reg.ENC_MODEL_PARTITION i) = p ∧ s.get (Reg.ENC_MODEL_STATE i) = 2))
  (cs.map (fun c => reportEntry 0 c.1 ((c.2.map (·.last)).foldl max 0) (Config.sm3 ((c.2.map (fun v => digestBytes v.value)).flatten))) ++
    tabs.map (fun i => reportEntry 1 (s.get (Reg.EMB_TABLE_TABLE i)) (s.tableChain i t now).last
      (Config.sm3 (digestBytes (s.tableChain i t now).value))) ++
    mods.map (fun i => reportEntry 2 (s.get (Reg.ENC_MODEL_MODEL_ID i)) (s.get (Reg.ENC_MODEL_STEP_EFFECTIVE i))
      (BitVec.ofNat 256 (s.get (Reg.ENC_MODEL_DIGEST i)))),
    cs.any (fun c => c.2.any (·.dead)))

/-- The last amendment in force at step t, and the chain digest at its SEQ. -/
def State.headAt (s : State) (t : Nat) : Nat × Digest :=
  let n := ((s.cfg.log.filter (fun a => decide (a.step ≤ t))).map (·.seq)).foldl max s.cfg.baseSeq
  (n, if n = s.cfg.baseSeq then s.cfg.baseHead else tget 0 s.cfg.heads n)

/-- The header of a report (R427). -/
def State.reportHeader (s : State) (w : ReportWait) (entries : Nat) : List Byte :=
  let hd := s.headAt w.step
  natLe 8 w.step ++ natLe 2 s.me ++ natLe 1 w.part ++
    natLe 1 (s.get Reg.CFG_STATUS_STRAP_G1 + 2 * s.get (Reg.PART_CFG_COMPAT w.part)) ++ natLe 4 entries ++
    natLe 32 (s.get Reg.CFG_IMAGE_DIGEST) ++ natLe 8 hd.1 ++ digestBytes hd.2 ++ natLe 8 w.nonce ++ natLe 32 0

/-- The signed report: header, entries and the signature of both. -/
def State.reportBytes (s : State) (w : ReportWait) (now : Bool) : List Byte :=
  let es := (s.reportEntries w.part w.step now).1
  let b := s.reportHeader w es.length ++ es.flatten
  b ++ natLe 64 (leNat (Config.sm2Sign b) 0 64)

/-- Complete a slot: its status and length stand before DONE. -/
def State.endReport (s : State) (w : ReportWait) (status : Nat) (data : List Byte) : State :=
  let s := (s.set (Reg.SEC_REPORT_STATUS w.part w.slot) status).set (Reg.SEC_REPORT_LENGTH w.part w.slot) data.length
  if data.isEmpty then s.reportDone w.part w.slot
  else s.submitWrite { part := w.part, pid := w.pid, addr := w.dst, data := data, done := .report w.part w.slot }

/-- Assemble, sign and write a report (R427): BAD_DESCRIPTOR when it does not fit, DEGRADED when a shard had no holder. -/
def State.makeReport (s : State) (now : Bool) (w : ReportWait) : State :=
  let b := s.reportBytes w now
  if w.cap < b.length then s.endReport w 5 []
  else (s.modCfg fun k => { k with lastReport := Config.sm3 b }).endReport w (if (s.reportEntries w.part w.step now).2 then 8 else 0) b

/-- The commit of step t: reports of step t + 1 are made. -/
def State.reportsDue (s : State) (t : Nat) : State :=
  let due := s.cfg.reports.filter (fun w => decide (w.step ≤ t + 1))
  due.foldl (fun (s : State) w => s.makeReport (decide (w.step = t + 1)) w)
    (s.modCfg fun k => { k with reports := k.reports.filter (fun w => decide (t + 1 < w.step)) })

/-- A slot of a partition's page is asked for a report (R427): a step out of range or a DST that is no multiple of 64
completes it with BAD_DESCRIPTOR. A slot that is busy takes no second request. -/
def State.askReport (s : State) (h : HostReq) (p n : Nat) : State :=
  if 4 ≤ n ∨ s.get (Reg.SEC_REPORT_OP p n) = 1 then s
  else
    let w : ReportWait := { part := p, slot := n, pid := h.pid, step := s.get (Reg.SEC_REPORT_STEP p n), dst := s.get (Reg.SEC_REPORT_DST p n),
                            nonce := s.get (Reg.SEC_REPORT_NONCE p n), cap := s.get (Reg.SEC_REPORT_CAPACITY p n) }
    let s := ((s.set (Reg.SEC_REPORT_OP p n) 1).set (Reg.SEC_REPORT_STATUS p n) 0).set (Reg.SEC_REPORT_DONE p n) 0
    let s := s.set (Reg.SEC_REPORT_LENGTH p n) 0
    if w.step < s.openStep + 2 ∨ s.openStep + 2 ^ 20 < w.step ∨ w.dst % 64 ≠ 0 then s.endReport w 5 []
    else s.modCfg fun k => { k with reports := k.reports ++ [w] }

/-- SEC_REPORT_REQUEST (R427, R435): a host writes OP 1 into a slot of its partition's page. -/
def execSecReportRequest (h : HostReq) (p slot : Nat) (s : State) :=
  hostCmd s (.secReportRequest h p slot) (fun s => s.ownPage h p (fun s => s.askReport h p slot))

end Sys2Proof.Machine
end

