-- ==== Sys2Proof/Machine/Commit.lean ====
section
/-! DEFINITION. STEP_COMMIT (R30, R45, R47, R50, R52): how a step is committed on a node, what changes with the membership,
and what goes on with the step after it. -/

namespace Sys2Proof.Machine

open Sys2Proof

/-! ### Filter operations that complete (R76, R79, R80) -/

/-- Complete a filter operation admitted here once it is due: a retirement at the commit of its step, a load at the commit of
its step and UPKEEP_LAG, with its owner's notice, or its mirror's while the owner is no member. -/
def State.tryFilter (s : State) (id : OpId) : State :=
  match s.adm? id with
  | none => s
  | some a =>
    let com := s.get Reg.STEP_COMMITTED
    let n := a.record / 256 % 65536
    let fslot := a.record % 256
    let done (status live allowed : Nat) (s : State) : State := s.completeAdm a status (filterRecord status a.dlv.phase a.handle
      a.dlv.tag id.step a.opcode fslot (if a.opcode = 2 then n else 0xFFFF) live allowed id.admitter id.seq)
    if a.opcode = 3 then (if id.step ≤ com then done 0 (id.step + 1) 0 s else s)
    else if a.opcode = 2 then
      let due := if a.record < 2 ^ 24 then id.step + s.get (Reg.COLL_DESC_UPKEEP_LAG a.handle) else a.record / 2 ^ 24
      let hs := s.holderList a.handle n
      if com < due then s
      else if !hs.any s.isMember then done 8 0 0 s
      else
        let ho := s.holdersOf a.handle n
        match a.notices.find? (fun x => decide (x.1 = if s.isMember ho.1 then ho.1 else ho.2)) with
        | none => s
        | some x =>
          let ended := (s.coll a.handle).retires.any (fun r => decide (r.1 = fslot ∧ id.step ≤ r.2 ∧ r.2 ≤ due))
          let short := decide (a.holders.length < hs.length) || hs.any (fun h => !s.isMember h)
          if x.2.status ≠ 0 then done x.2.status 0 0 s
          else
            let s := done (if short then 8 else 0) (if ended then 0 else due + 1) (if short then 0 else x.2.newSlot) s
            if ended then s
            else ((s.tallyP .COLL_FILTER_LOADS a.dlv.part).setB (Reg.COLL_STATUS_FILTER_READY_EVT a.dlv.part) true).event a.dlv.part 1
    else s

/-- OUTCOME (R76, R142, R144): a holder's notice to the admitting node. -/
def execOutcome (id : OpId) (o : MutOutcome) (src : Nat) (s : State) :=
  nodeEvt s (fun s => (s.takeOutcome id o src).tryFilter id)

/-! ### The membership from the next step on -/

/-- Make node n a member, or not. -/
def State.setMember (s : State) (n : Nat) (b : Bool) : State :=
  let v := s.get Reg.STEP_MEMBERS
  if bit v n = b then s else s.set Reg.STEP_MEMBERS (v ^^^ 2 ^ n)

/-- The epoch advances at each exclusion and each join (STEP_EPOCH). -/
def State.nextEpoch (s : State) : State := s.set Reg.STEP_EPOCH (s.get Reg.STEP_EPOCH + 1)

/-- The membership in force until now stays known for 16 steps more, for the queries of those steps (R119). -/
def State.keepWas (s : State) (t v : Nat) : State :=
  if s.get Reg.STEP_MEMBERS = v then s
  else s.modStp fun k => { k with was := (t + 1, v) :: k.was.filter (fun w => decide (t < w.1 + 16)) }

/-- Node y is excluded, and a new root takes over if it was the root (R45, R47). -/
def State.excludeNow (s : State) (y root : Nat) : State :=
  let s := (s.setMember y false).nextEpoch.tallyN .MEMB_EXCLUSIONS
  let s := ((s.setB Reg.STEP_STATUS_EXCLUDE_EVT true).eventAll 0).setSuspect y false
  let s := s.modStp fun k => { k with
    excludes := k.excludes.erase y, excludeSent := k.excludeSent.erase y, joins := k.joins.filter (fun j => decide (j.1 ≠ y)),
    suspects := k.suspects.filter (fun x => decide (x.subject ≠ y ∧ x.by_ ≠ y)) }
  let s := s.modSrch fun k => { k with adm := k.adm.map (fun a => { a with acks := a.acks.erase y }) }
  let s := s.modEmb fun e => { e with
    unsent := e.unsent.filter (fun u => decide (u.1 ≠ y)), dirAcks := e.dirAcks.filter (fun a => decide (a.1 ≠ y)) }
  (s.set Reg.STEP_ROLE_ROOT_ID root).setB Reg.STEP_ROLE_IS_ROOT (decide (root = s.me))

/-- A granted node joins (R52). -/
def State.joinNow (s : State) (n : Nat) : State :=
  let s := ((s.setMember n true).nextEpoch.tallyN .MEMB_REJOINS).setB Reg.STEP_STATUS_JOIN_EVT true
  (s.eventAll 0).modStp fun k => { k with joins := k.joins.filter (fun j => decide (j.1 ≠ n)) }

/-- Nodes granted at step t or before that are no members yet. -/
def State.granted (s : State) (t : Nat) : List Nat :=
  ((s.stp.joins.filter (fun j => decide (j.2 ≤ t) && !s.isMember j.1)).map (·.1)).dedup

/-- Granted nodes join at the commit of t; models whose chain is whole again serve (R52, R233). -/
def State.joinAll (s : State) (t : Nat) : State :=
  let l := s.granted t
  if l.isEmpty then s else (l.foldl State.joinNow s).encJoined

/-! ### The commit -/

/-- Pass a STEP_COMMIT on along the tree that the message leaves in force, without the node it came from (R30, R47, R361). -/
def State.passCommit (s : State) (m : StepMsg) (src : Option Nat) : State :=
  let view := s.ahead.set Reg.STEP_ROLE_ROOT_ID m.root
  s.sendEach 0 0 1 32 (.stepCommit m [] s.me) (view.treeNbrs.filter (fun n => decide (some n ≠ src)))

/-- Step t is committed and step t + 1 begins (R30). -/
def State.beginStep (s : State) (t : Nat) : State :=
  let s := (s.set Reg.STEP_COMMITTED t).set Reg.STEP_EXEC (t + 1)
  let s := s.modStp fun k => { k with stalled := [], doneTo := none, doneFrom := k.doneFrom.filter (fun d => decide (t < d.1)) }
  ((s.showHolds []).setB Reg.STEP_STATUS_STALL_WAIT false).setB Reg.STEP_STATUS_STALL_MEMB false

/-- Operations admitted here that wait for the step before their own begin (R31, R279, R319). -/
def State.startOp (s : State) (a : Admitted) : State :=
  if a.opcode = 1 then s.startQuery a
  else if a.opcode = 0x13 then s.startRead a
  else if a.opcode = 0x2C then (s.modAdm a.id (fun x => { x with started := true })).announceOp a.id 0x2C
  else s

/-- What waits for a commit begins or completes: operations of step t + 1, record reads, mutations and filter operations
(R31, R142, R143, R144). -/
def State.resume (s : State) (t : Nat) : State :=
  let ops := s.srch.adm.filter (fun a => !a.started && decide (a.id.step ≤ t + 1))
  let s := ops.foldl State.startOp s
  let reads := s.srch.reads.filter (fun m => decide (m.id.step ≤ t + 1))
  let s := reads.foldl State.serveRead (s.modSrch fun k => { k with reads := k.reads.filter (fun m => decide (t + 1 < m.id.step)) })
  let none_ (a : Admitted) : Bool := !(s.holderList a.handle (s.shardOfRecord a.handle a.record)).any s.isMember
  s.srch.adm.foldl (fun (s : State) a =>
    if a.opcode = 2 ∨ a.opcode = 3 then s.tryFilter a.id
    else if 0x10 ≤ a.opcode ∧ a.opcode ≤ 0x12 ∧ a.id.step ≤ t then
      (if none_ a then s.completeMut a (MutOutcome.notApplied 8) else s.tryMut a.id)
    else s) s

/-- What a step boundary does beyond shards and membership: the embedding service, shared memory, the encoder, host resets,
rebuilds, isolation, amendments and synchronisation objects of TYPE 2. -/
def State.boundary (s : State) (t : Nat) : State :=
  let s := (((s.embCommit t).shmCommit).encCommit).appendLogs t
  let s := (s.runResets.applyRebuilds).queueLease
  let cores := s.safe.isoPending.filterMap (fun u => if u.1 = .core then some u.2 else none)
  let s := (s.applyIso.restartRuns cores).recheckWaits
  s.typedObjs.foldl (fun (s : State) o => if s.get (Reg.SYNC_TYPE o) = 2 then s.serveSync o else s) s

/-- The configuration of steps that no request here is of any more is forgotten (R17). -/
def State.pruneWas (s : State) : State :=
  if s.cfg.was.isEmpty then s
  else
    let old := s.oldestWork
    s.modCfg fun k => { k with was := k.was.filter (fun w => decide (old < w.1)) }

/-- What no later work needs is let go of (R17, R39, R57, R77, R148, R473). -/
def State.letGo (s : State) : State := ((s.finishOps.sweep).endRetirements).pruneFilters.pruneWas

/-- The exclusion of y at the commit of t acts on what is in progress (R49, R100, R233, R276, R317, R470); `was` is the state
before it. -/
def State.loseNode (s : State) (t y : Nat) (was : State) : State :=
  let s := (s.exporterLost y).encExcluded y (t + 1)
  (s.embExcluded y (t + 1) (was.get Reg.STEP_MEMBERS)).queriesLose t y was

/-- The node that a STEP_COMMIT excludes, if it is a member. -/
def State.leaving (s : State) (m : StepMsg) : Option Nat :=
  if m.flags % 2 = 1 ∧ m.subject ≠ 0xFFFF ∧ s.isMember m.subject = true then some m.subject else none

/-- Commit step m.step (R30): the step closes if it has not, what an excluded node left without agreement is discarded, the
shards commit, step + 1 begins with its membership, and what waited for it goes on. -/
def State.commitStep (s : State) (m : StepMsg) (far : List (OpId × Nat × Nat)) (src : Option Nat) : State :=
  let t := m.step
  let s : State := if s.openStep = t then s.openNext (t + 1) else s
  let out := s.leaving m
  let s : State := match out with | some y => (if s.stp.excludes.contains y then s else s.awaitNothing y) | none => s
  let was := s
  let s := s.passCommit m src
  let s : State := match out with | some y => s.discardOf t y far | none => s
  let s := (s.commitShards t).beginStep t
  let s : State := match out with | some y => s.excludeNow y m.root | none => s
  let s := (s.joinAll t).keepWas t (was.get Reg.STEP_MEMBERS)
  let s : State := match out with | some y => s.loseNode t y was | none => s
  (((s.boundary t).reportsDue t).resume t).letGo

/-- A recovering node becomes a member with the commit after its grant (R52): it takes part from the step after. It serves
once its catch-up has reached this commit (assumption 46); its cache of shared lines starts empty (R317). -/
def State.joinHere (s : State) (m : StepMsg) : State :=
  let t := m.step
  let s : State := match s.leaving m with | some y => (s.setMember y false).nextEpoch | none => s
  let s := s.set Reg.STEP_EPOCH (m.epoch + b2n (decide (m.flags % 2 = 1 ∧ m.subject ≠ 0xFFFF)))
  let s := (s.granted t).foldl State.joinNow s
  let s := (s.set Reg.STEP_ROLE_ROOT_ID m.root).setB Reg.STEP_ROLE_IS_ROOT false
  let reached := decide (t ≤ s.get Reg.STEP_COMMITTED)
  let s := (s.homeDiscard).takePart (t + 1)
  (s.modStp fun k => { k with joinStep := if reached then none else some t }).encJoined

/-- STEP_COMMIT (R30): a member commits the next step to be committed; one that the message excludes is out (R48); a recovering
node that has been granted joins (R52). Any other is not this node's to commit. -/
def execStepCommit (m : StepMsg) (far : List (OpId × Nat × Nat)) (src : Nat) (s : State) :=
  nodeEvt s (fun s => s.withStep m (fun s =>
    if s.isMember s.me then
      if m.step ≠ s.get Reg.STEP_COMMITTED + 1 then s
      else if m.flags % 2 = 1 ∧ m.subject = s.me then s.becomeRecovering (m.epoch + 1)
      else s.commitStep m far (some src)
    else if s.flag Reg.STEP_STATUS_RECOVERING && (s.granted m.step).contains s.me then s.joinHere m
    else s))

/-- The STEP_COMMIT that the acting root sends for step t (R30, R45, R47): it names one node that leaves, an excluded root
first, and keeps the epoch that the change will advance (assumption 45). -/
def State.commitMsg (s : State) (t : Nat) : StepMsg :=
  let root := s.get Reg.STEP_ROLE_ROOT_ID
  let y := if s.stp.excludes.contains root then root else s.stp.excludes.headD 0xFFFF
  { s.stepMsg t y 0 (b2n (decide (y ≠ 0xFFFF) || !(s.granted t).isEmpty)) with root := s.me }

/-- ROOT_SEND_COMMIT (R30, R47): every condition of R29 holds at the root, or at the candidate that acts for an excluded one:
it sends STEP_COMMIT along the tree, to the nodes that join as well, and commits the step itself. -/
def execRootSendCommit (far : List (OpId × Nat × Nat)) (s : State) :=
  nodeEvt s (fun s =>
    let s := s.checkHolds
    let t := s.get Reg.STEP_COMMITTED + 1
    if s.actsRoot && s.stepDone t then
      let m := s.commitMsg t
      (s.sendEach 0 0 0 32 (.stepCommit m [] s.me) ((s.granted t).filter (fun n => decide (n ≠ s.me)))).commitStep m far none
    else s)

end Sys2Proof.Machine
end

