-- ==== Sys2Proof/Machine/Ticks.lean ====
section
/-! DEFINITION. The oscillator's tick: time, the refill of credits and what they release, and the tallies of waits
(R14, R375, R377, R379, R380, R382). -/

namespace Sys2Proof.Machine

open Sys2Proof

/-! ### Refill -/

/-- A credit after a tick (R375): BURST × 256 for an unshaped one, else RATE more up to BURST × 256. -/
def refilled (rate burst : Nat) (credit : Int) : Int :=
  if rate = 0 then 256 * (burst : Int) else min (credit + (rate : Int)) (256 * (burst : Int))

/-- Refill one credit; one that does not change is left as it is. -/
def State.refill (s : State) (rate burst credit : Fld) : State :=
  let c := s.getI credit
  let d := refilled (s.get rate) (s.get burst) c
  if d = c then s else s.setI credit d

/-- Refill every credit of a partition: admission, eight links, two ports (R375, R379, R380). -/
def State.refillPart (s : State) (p : Nat) : State :=
  let s := s.refill (Reg.SHAPE_ADM_RATE p) (Reg.SHAPE_ADM_BURST p) (Reg.SHAPE_ADM_CREDIT p)
  let s := (List.range 8).foldl (fun (s : State) l =>
    s.refill (Reg.SHAPE_LINK_RATE p) (Reg.SHAPE_LINK_BURST p) (Reg.SHAPE_LINK_CREDIT p l)) s
  (List.range 2).foldl (fun (s : State) n =>
    s.refill (Reg.SHAPE_PORT_RATE p) (Reg.SHAPE_PORT_BURST p) (Reg.SHAPE_PORT_CREDIT p n)) s

/-- Let the held messages and host writes pass that their credits now let through (R379, R380). -/
def State.drainAll (s : State) : State :=
  let links := s.ovl.linkHeld.map (fun e => (e.1, e.2.length))
  let s := links.foldl (fun (s : State) e => s.drainLink (e.1 / 8) (e.1 % 8) e.2) s
  let ports := s.host.portHeld.map (fun e => (e.1, e.2.length))
  ports.foldl (fun (s : State) e => s.drainPort (e.1 / 2) (e.1 % 2) e.2) s

/-! ### Waits -/

/-- Some fetched head of partition p satisfies f. -/
def State.anyHead (s : State) (p : Nat) (f : Nat → List Byte → Bool) : Bool :=
  (List.range 16).any (fun n => match s.head? p n with | some h => f n h.data | none => false)

/-- The gate is closed to a ready descriptor of partition p (R373, R383). -/
def State.gateWait (s : State) (p : Nat) : Bool :=
  s.flag (Reg.PART_CFG_ENABLE p) && (s.pickRing p).isSome && !s.gateOpen p

/-- A ready descriptor of partition p waits for admission credit, the gate open (R373, R383). -/
def State.creditWait (s : State) (p : Nat) : Bool :=
  s.flag (Reg.PART_CFG_ENABLE p) && (s.pickRing p).isSome && s.gateOpen p && !s.creditOpen p

/-- A descriptor of partition p waits for a sheaf slot (R92). -/
def State.ringWait (s : State) (p : Nat) : Bool := s.anyHead p (fun _ d => !s.slotReady p d)

/-- A descriptor of partition p waits for encoder backlog room (R221). -/
def State.backlogWait (s : State) (p : Nat) : Bool := s.anyHead p (fun n d => !s.backlogReady p n d)

/-- Count the waits of partition p's descriptors in this tick (R92, R137, R221, R383). -/
def State.countWaits (s : State) (p : Nat) : State :=
  let s := s.when (s.creditWait p) (fun t => t.tallyP .SHP_CREDIT_WAIT_TICKS p)
  let s := s.when (s.gateWait p) (fun t => t.tallyP .SHP_GATE_WAIT_TICKS p)
  let s := s.when (s.ringWait p) (fun t => t.tallyP .INT_RING_WAIT_TICKS p)
  let s := s.when (s.anyHead p (fun n d => !s.creditReady p n d)) (fun t => t.tallyP .MUT_CREDIT_WAIT_TICKS p)
  s.when (s.backlogWait p) (fun t => t.tallyP .ENC_ADMIT_WAIT_TICKS p)

/-- Count the tick for every partition whose messages or host writes a shaper holds (R363, R380). -/
def State.countHeld (s : State) : State :=
  let links := (s.ovl.linkHeld.map (fun e => e.1 / 8)).dedup
  let ports := (s.host.portHeld.map (fun e => e.1 / 2)).dedup
  let s := links.foldl (fun (s : State) p => s.tallyP .OVL_SHAPE_HOLD_TICKS p) s
  ports.foldl (fun (s : State) p => s.tallyP .SHP_PORT_HOLD_TICKS p) s

/-- A query waits on this node for a pool (R130). -/
def QWork.waitsPool (w : QWork) : Bool := w.mergeRes.isNone || (w.stookRes.isNone && w.allRouted && !w.shards.isEmpty)

/-- Count the tick for every partition with a query that waits for a pool, a look-up that waits for a migrating row, or a
snoop that waits for a hold (R130, R292, R308). -/
def State.countWork (s : State) : State :=
  let pools := ((s.srch.work.filter (·.waitsPool)).map (fun w => w.q.dlv.part)).dedup
  let rows := ((s.emb.waiting.filter (fun e => s.emb.expected.any (fun x => decide (x.1 = rowKey e.table e.row ∧ x.2 < e.id.step)))).map
    (fun e => s.tablePart e.table)).dedup
  let holds := ((s.home.snoops.filter (fun w => match s.nodeLine w.line with | some k => s.holdOn k | none => false)).map
    (fun w => s.rangePart (64 * w.line))).dedup
  let s := pools.foldl (fun (s : State) p => s.tallyP .WIN_RESERVE_WAIT_TICKS p) s
  let s := rows.foldl (fun (s : State) p => s.tallyP .EMB_MIG_WAIT_TICKS p) s
  holds.foldl (fun (s : State) p => s.tallyP .SHM_HOLD_WAIT_TICKS p) s

/-- The record that waits for loft space, while one does (R231). -/
def State.loftWaiter (s : State) : Option EncRec :=
  if s.flag Reg.ENC_STATUS_LOFT_WAIT then leastRec ((s.enc.backlog.filter s.recReady) ++ s.enc.arrived.map (·.r)) else none

/-- Count a stall of each cluster by its cause, to the partition of its record (R230), and a wait for loft space (R231). -/
def State.countStalls (s : State) : State :=
  let one (s : State) (e : Nat × EncRun) : State :=
    match s.clusterStall e.1 with
    | 1 => s.tallyP .ENC_STALL_DRAM_TICKS e.2.r.part
    | 2 => s.tallyP .ENC_STALL_LOFT_TICKS e.2.r.part
    | 3 => s.tallyP .ENC_STALL_CHAIN_TICKS e.2.r.part
    | _ => s
  let s := s.enc.runs.foldl one s
  match s.loftWaiter with
  | some r => s.tallyP .ENC_STALL_LOFT_TICKS r.part
  | none => s

/-- The closed step waits for a child that this node suspects (R44, R46). -/
def State.membStall (s : State) : Bool :=
  let t := s.get Reg.STEP_COMMITTED + 1
  s.closedHere t && s.stepChildren.any (fun c => s.suspected c && !s.stp.doneFrom.any (fun d => decide (d.1 = t ∧ d.2.1 = c)))

/-- Count the ticks of the step's stalls (R41, R45, R55) and of the hot band (R188). -/
def State.countNode (s : State) : State :=
  let s := s.checkHolds
  let s := s.when (s.flag Reg.STEP_STATUS_STALL_HORIZON) (fun t => t.tallyN .STEP_HORIZON_TICKS)
  let b := s.membStall
  (s.setB Reg.STEP_STATUS_STALL_MEMB b).when b (fun t => t.tallyN .STEP_MEMB_STALL_TICKS)

/-- Some stack is in the hot band. -/
def State.anyHot (s : State) : Bool := (List.range 8).any (fun k => s.flag (Reg.STACK_TEMP_HOT k))

/-- A tick while frozen (R402): timers and credits stand still, the stacks' sensors go on, and the tick is counted. -/
def State.frozenTick (s : State) : State :=
  let s := (s.tallyN .DBG_FREEZE_TICKS).when s.anyHot (fun t => t.tallyN .STK_HOT_TICKS)
  s.modStk fun k => { k with coolFrom := k.coolFrom.map (fun e => (e.1, max 1 (e.2 - 1))) }

/-- A tick of a node that runs. -/
def State.runTick (s : State) : State :=
  let s : State := { s with now := s.now + 1 }
  let s := (partitions.foldl State.refillPart s).drainAll
  let s := (partitions.foldl State.countWaits s).countHeld
  let s := s.countWork.countStalls.countNode
  (s.when s.anyHot (fun t => t.tallyN .STK_HOT_TICKS)).withdrawHeld

/-- CREDIT_REFILL_TICK (R14, R375, R379, R380): one tick of the 25 MHz oscillator. -/
def execCreditRefillTick (s : State) :=
  anyEvt s (fun s => if !s.awake then s else if s.frozen then s.frozenTick else s.runTick)

/-- GATE_ENTRY_EXPIRY (R377): the entry in force has run for its DURATION and another follows it. -/
def execGateEntryExpiry (s : State) :=
  nodeEvt s (fun s =>
    let l := s.get Reg.SHAPE_STATUS_ACTIVE_LIST
    let e := s.host.gateEntry
    let d := s.get (Reg.SHAPE_GATE_DURATION l e)
    if e + 1 < s.get (Reg.SHAPE_GATE_HDR_COUNT l) ∧ s.host.gateStart + d ≤ s.now then
      s.modHost fun h => { h with gateEntry := e + 1, gateStart := h.gateStart + d }
    else s)

end Sys2Proof.Machine
end

