-- ==== Sys2Proof/Machine/View.lean ====
section
/-! DEFINITION. Reading the control window (R403, R461, R462): registers that show what the node holds elsewhere, and the
32-bit words and 64-byte units as the debug port reads them. -/

namespace Sys2Proof.Machine

open Sys2Proof

/-! ### Registers that show other state -/

/-- The step of the oldest query this node holds work for, 0 for none (STEP_OLDEST). -/
def State.oldestQuery (s : State) : Nat := ((s.stp.ops.map (·.step)).min?).getD 0

/-- The shards of a collection that this node holds. -/
def State.shardsHeld (s : State) (h : Nat) : List Shard := s.srch.shards.filter (fun sh => decide (sh.coll = h))

/-- Lists of a shard that queries of the next step see and whose centroid is no tombstone. -/
def Shard.liveNow (sh : Shard) (t : Nat) : List LList := sh.lists.filter (fun l => l.visible t && !l.tomb)

/-- A load of a filter slot is on its way: not yet live on every shard, nor retired (R79). -/
def State.filterLoading (s : State) (h f t : Nat) : Bool :=
  let c := s.coll h
  !s.filterLive h f t &&
  (s.srch.filterOps.any (fun o => decide (o.handle = h ∧ o.fslot = f) && o.shard.isSome) ||
    c.loads.any (fun l => decide (l.1 = f) && !c.retires.any (fun r => decide (r.1 = f ∧ l.2.2.1 ≤ r.2))))

/-- The bits of the filter slots below 16 that satisfy p. -/
def slotBitsOf (p : Nat → Bool) : Nat := ((List.range 16).map (fun f => b2n (p f) * 2 ^ f)).sum

/-- A collection's COLL_RUN entry (R85): its field at index k. -/
def State.collRun (s : State) (h k : Nat) : Nat :=
  let t := s.get Reg.STEP_COMMITTED + 1
  let held := s.shardsHeld h
  let on := decide (s.get (Reg.COLL_DESC_STATE h) ≠ 0)
  match k with
  | 0 => (held.map (fun sh => ((sh.lists.filter (·.visible t)).map (·.len t)).sum)).sum
  | 1 => (held.map (fun sh => (sh.liveNow t).length)).sum
  | 2 => (held.map (fun sh => sh.lists.countP (·.tomb))).sum
  | 3 => (held.map (·.gen)).sum
  | 4 => slotBitsOf (fun f => on && s.filterLive h f t)
  | 5 => slotBitsOf (fun f => on && s.filterLoading h f t)
  | 6 => s.get (Reg.COLL_DESC_STATE h)
  | _ => b2n (held.any (fun sh => decide (sh.owner = s.me))) + 2 * b2n (held.any (fun sh => decide (sh.mirror = s.me))) +
      4 * b2n (held.any (·.rebuild.isSome))

/-- Collections of a partition in state pending, serving or retiring (COLL_ACTIVE). -/
def State.collActive (s : State) (p : Nat) : Nat :=
  (List.range 4096).countP (fun h => decide (s.get (Reg.COLL_DESC_PARTITION h) = p ∧ s.get (Reg.COLL_DESC_STATE h) ≠ 0 ∧ p ≠ 0))

/-- HELD of a table's EMB_RUN entry: it owns a shard, mirrors one, holds a replica (R276, R295). -/
def State.tableHeld (s : State) (i : Nat) : Nat :=
  let l := s.nodeSet i
  let n := s.get (Reg.EMB_TABLE_SHARDS i)
  if s.get (Reg.EMB_TABLE_STATE i) = 0 then 0
  else if s.sharded i then
    b2n ((List.range n).any (fun k => decide (l[k]? = some s.me))) +
      2 * b2n ((List.range n).any (fun k => decide ((k + 1) % n ≠ k ∧ l[(k + 1) % n]? = some s.me)))
  else 4 * b2n (l.contains s.me)

/-- The index of an entry that lies at a field's place, of a table of n entries. -/
def entryAt (f base : Fld) (stride n : Nat) : Option Nat :=
  let k := (fldPlace f - fldPlace base) / (8 * stride)
  if fldPlace base ≤ fldPlace f ∧ k < n then some k else none

/-- What a COLL_RUN field reads. -/
def State.readCollRun (s : State) (f : Fld) : Option Nat :=
  match entryAt f (Reg.COLL_RUN_ENTRIES 0) 0x20 4096 with
  | none => none
  | some h =>
    let fs := [Reg.COLL_RUN_ENTRIES h, Reg.COLL_RUN_LISTS_LIVE h, Reg.COLL_RUN_TOMBSTONES h, Reg.COLL_RUN_GRAPH_GEN h,
      Reg.COLL_RUN_FILTER_LIVE h, Reg.COLL_RUN_FILTER_LOADING h, Reg.COLL_RUN_STATE h, Reg.COLL_RUN_HELD h]
    match fs.findIdx? (fun g => decide (g = f)) with
    | some k => some (s.collRun h k % 2 ^ f.w)
    | none => none

/-- What HELD and STATE of an EMB_RUN entry read. -/
def State.readEmbRun (s : State) (f : Fld) : Option Nat :=
  match entryAt f (Reg.EMB_RUN_LOAD_LAST 0) 0x20 1024 with
  | none => none
  | some i =>
    if f = Reg.EMB_RUN_HELD i then some (s.tableHeld i)
    else if f = Reg.EMB_RUN_STATE i then some (s.get (Reg.EMB_TABLE_STATE i))
    else none

/-- What the waits of a partition's PART_STATUS and INT_STATUS read (R92, R384). -/
def State.readWaits (s : State) (f : Fld) : Option Nat :=
  match entryAt f (Reg.PART_STATUS_CREDIT_WAIT 1) 0x1000 64, entryAt f (Reg.INT_STATUS_RING_WAIT 1) 0x10000 64 with
  | some k, _ =>
    if f = Reg.PART_STATUS_CREDIT_WAIT (k + 1) then some (b2n (s.creditWait (k + 1)))
    else if f = Reg.PART_STATUS_GATE_WAIT (k + 1) then some (b2n (s.gateWait (k + 1)))
    else none
  | none, some k => if f = Reg.INT_STATUS_RING_WAIT (k + 1) then some (b2n (s.ringWait (k + 1))) else none
  | none, none => none

/-- The merge tree of root candidate entry r is the one in force (R366): the entry names the root. Before an image, and
with no root (R47), none is. -/
def State.treeInForce (s : State) (r : Nat) : Bool :=
  decide (s.rootIndex = r) && !s.cfg.topology.isEmpty && !s.flag Reg.STEP_STATUS_NO_ROOT

/-- The copies that NODE_STATUS shows (R463), and the node-wide registers that show other state. -/
def State.readCopy (s : State) (f : Fld) : Option Nat :=
  if f = Reg.NODE_STATUS_NODE_FAULT then some (s.get Reg.SAFE_STATUS_NODE_FAULT)
  else if f = Reg.NODE_STATUS_FROZEN then some (b2n s.frozen)
  else if f = Reg.NODE_STATUS_MEMBER then some (b2n (bit (s.get Reg.STEP_MEMBERS) s.me))
  else if f = Reg.NODE_STATUS_RECOVERING then some (s.get Reg.STEP_STATUS_RECOVERING)
  else if f = Reg.NODE_STATUS_SWAP_ONLY then some (s.get Reg.HOME_MODE_SWAP_ONLY)
  else if f = Reg.NODE_STATUS_STAGE then some (s.get Reg.CFG_STATUS_STAGE)
  else if f = Reg.STEP_OLDEST then some s.oldestQuery
  else if f = Reg.COLL_ACTIVE (f.bit / 2 ^ 32) then some (s.collActive (f.bit / 2 ^ 32))
  else if f = Reg.ENC_STATUS_BACKLOG_FULL then some (b2n (partitions.any s.backlogWait))
  else match entryAt f (Reg.OVL_TREE_IN_FORCE 0) 16 4 with
    | some r => if f = Reg.OVL_TREE_IN_FORCE r then some (b2n (s.treeInForce r)) else none
    | none => none

/-- What a field reads: a write-only field 0 (R7), a STEP object's VALUE STEP_COMMITTED (R337), a register that shows other
state that state, and any other field what it holds. -/
def State.read (s : State) (f : Fld) : Nat :=
  if f.acc = .wo then 0
  else match s.readCopy f with
    | some v => v
    | none =>
      match entryAt f (Reg.SYNC_VALUE 0) 64 131072 with
      | some o => if f = Reg.SYNC_VALUE o then s.syncValue o else s.get f
      | none => ((s.readCollRun f).orElse (fun _ => (s.readEmbRun f).orElse (fun _ => s.readWaits f))).getD (s.get f)

/-- The part of a field that falls into the 32-bit word at a byte offset. -/
def State.wordPart (s : State) (a : Nat) (f : Fld) : Nat :=
  if 8 * a ≤ fldPlace f then (if fldPlace f < 8 * a + 32 then s.read f * 2 ^ (fldPlace f - 8 * a) % 2 ^ 32 else 0)
  else s.read f / 2 ^ (8 * a - fldPlace f) % 2 ^ 32

/-- The 32-bit word at a byte offset as partition p reads its banked bits, 0 for the debug
port (assumption 3); an unassigned offset reads 0 (R462). -/
def State.windowWord (s : State) (p a : Nat) : Nat :=
  if 0x1950000 ≤ a ∧ a < 0x1958000 then leNat (tallyDir ((a - 0x1950000) / 32)) ((a - 0x1950000) % 32) 4
  else match regFind a with
    | none => 0
    | some (d, i, j) => ((d.fields i j p).map (s.wordPart a)).sum

/-- The 64 bytes at an offset, as one number. -/
def State.windowUnit (s : State) (p a : Nat) : Nat := ((List.range 16).map (fun k => s.windowWord p (a + 4 * k) * 2 ^ (32 * k))).sum

end Sys2Proof.Machine
end

