-- ==== Sys2Proof/Machine/Debug.lean ====
section
/-! DEFINITION. The freeze's pin and latch (R402, R404), and the JTAG instructions (R403, R405, R455). -/

namespace Sys2Proof.Machine

open Sys2Proof

/-- The freeze begins or waits for the end of the present start-up stage (R402); a node in reset takes no freeze (R405). -/
def State.askFreeze (s : State) (f : SafeSt → SafeSt) : State :=
  if !s.awake then s
  else if s.frozen || decide (s.get Reg.CFG_STATUS_STAGE = 6) then s.setFreeze f
  else s.setFreeze (fun k => { f k with freezeWait := true })

/-- A freeze condition ends (R404): the node resumes when the pin is high and the latch clear. -/
def State.endFreeze (s : State) (f : SafeSt → SafeSt) : State :=
  s.setFreeze (fun k =>
    let k := f k
    { k with freezeWait := k.freezeWait && (k.pinLow || k.latch) })

/-- FREEZE_N_FALL (R402). -/
def execFreezeNFall (s : State) := anyEvt s (fun s => s.askFreeze (fun k => { k with pinLow := true }))

/-- FREEZE_N_RISE (R404). -/
def execFreezeNRise (s : State) := anyEvt s (fun s => s.endFreeze (fun k => { k with pinLow := false }))

/-- FREEZE (R402, R405): sets the freeze latch; the data register shows one bit of status. -/
def execFreeze (s : State) :=
  anyEvt s (fun s =>
    let t := s.askFreeze (fun k => { k with latch := true })
    t.emit (.jtag (b2n t.frozen) 0))

/-- RESUME (R404, R405). -/
def execResume (s : State) :=
  anyEvt s (fun s =>
    let t := s.endFreeze (fun k => { k with latch := false })
    t.emit (.jtag (b2n t.frozen) 0))

/-- The block a window offset lies in that the debug port may always read: any control-window block (R403). -/
def dbgSpace (addr : Nat) : Nat := addr / 2 ^ 60

/-- Whether the DEBUG policy opens a debug address space (R403): the window always, on-die SRAM and core state from 1, DRAM
at 2. -/
def State.dbgOpen (s : State) (space : Nat) : Bool :=
  let d := s.get Reg.SAFE_POLICY_DEBUG
  decide (space = 0 ∨ ((space = 1 ∨ space = 3) ∧ 1 ≤ d) ∨ (space = 2 ∧ 2 ≤ d))

/-- DBG_READ (R403, R405, R455): 512 bits of data and a status. Not frozen, status 1 and no data. The window's 64 bytes come
from the registers; what the offsets of the other spaces hold the manual does not lay out, so their data is a free value
(assumption 2), and a space the policy closes gives none (assumption 35). -/
def execDbgRead (addr : Nat) (s : State) :=
  anyEvt s (fun s =>
    if !s.frozen then s.emit (.jtag 0 1)
    else if dbgSpace addr = 0 then s.emit (.jtag (s.windowUnit 0 (addr % 2 ^ 60 / 64 * 64)) 0)
    else if s.dbgOpen (dbgSpace addr) then
      let d := s.draw (2 ^ 512)
      let e := d.2.draw (2 ^ 8)
      e.2.emit (.jtag d.1 e.1)
    else s.emit (.jtag 0 0))

/-- DBG_STATUS (R405): the register DBG_STATUS. -/
def execDbgStatus (s : State) := anyEvt s (fun s => s.emit (.jtag (s.windowWord 0 0x1d0000c) 0))

/-- IDCODE (R405): DBG_IDCODE. -/
def execIdcode (s : State) := anyEvt s (fun s => s.emit (.jtag (s.windowWord 0 0x1d00008) 0))

/-- EXTEST (R405, R455): boundary scan; the lands take the update register's value. -/
def execExtest (value : Nat) (s : State) :=
  anyEvt s (fun s => ({ s with pwr := { s.pwr with bscan := value, extest := true } }).emit (.jtag s.pwr.bscan 0))

/-- SAMPLE_PRELOAD (R405, R455): the lands are sampled and the update register loaded, the lands keep their function; the
sample itself is a free value (assumption 2). -/
def execSamplePreload (value : Nat) (s : State) :=
  anyEvt s (fun s =>
    let d := s.draw (2 ^ 64)
    ({ d.2 with pwr := { d.2.pwr with bscan := value, extest := false } }).emit (.jtag d.1 0))

/-- BYPASS (R405): one bit; every other code acts so. -/
def execBypass (s : State) := anyEvt s (fun s => (({ s with pwr := { s.pwr with extest := false } }).emit (.jtag 0 0)))

end Sys2Proof.Machine
end

