-- ==== Sys2Proof/Machine/NyControl.lean ====
section
/-! DEFINITION. The control slot (R250, R252, R253). -/

namespace Sys2Proof.Machine

open Sys2Proof

/-- The two scalars of a control slot. -/
def SlotCtx.ca (k : SlotCtx) : Nat := k.n.sreg (bits k.x 8 6)
def SlotCtx.cb (k : SlotCtx) : Nat := k.n.sreg (bits k.x 14 6)

/-- A control operation as a command. -/
def State.controlCmd (s : State) (core op : Nat) (body : SlotCtx → SlotRes) : Host.Outcome State Fault Refusal :=
  s.slotCmd core 4 op body

/-- The bundle that TARGET names, if it lies in the program. -/
def State.targetOf (s : State) (k : SlotCtx) : Option Nat :=
  let t : Int := (k.n.pc : Int) + sext 32 (bits k.x 32 32)
  if 0 ≤ t ∧ t < ((s.modelMem k.r.r.model).prog.length : Int) then some t.toNat else none

/-- A branch's condition (R252). -/
def condHolds (c a b : Nat) : Bool :=
  match c with
  | 0 => decide (a = b)
  | 1 => decide (a ≠ b)
  | 2 => decide (sext 64 a < sext 64 b)
  | 3 => decide (sext 64 b ≤ sext 64 a)
  | 4 => decide (a < b)
  | _ => decide (b ≤ a)

/-- BR: to TARGET when SA COND SB holds. -/
def execBr (core : Nat) (s : State) :=
  s.controlCmd core 1 (fun k =>
    match s.targetOf k with
    | none => ([2], [])
    | some t => ([], if condHolds (bits k.x 20 4) k.ca k.cb then [.goto_ t] else []))

/-- JMP: to TARGET. -/
def execJmp (core : Nat) (s : State) :=
  s.controlCmd core 2 (fun k => match s.targetOf k with
    | none => ([2], [])
    | some t => ([], [.goto_ t]))

/-- LOOP: the bundles from the next one to TARGET run SA times; a fifth nested loop raises LOOP. -/
def execLoop (core : Nat) (s : State) :=
  s.controlCmd core 3 (fun k => match s.targetOf k with
    | none => ([2], [])
    | some t => (if 4 ≤ k.n.loops.length ∧ k.ca ≠ 0 then [6] else [], [.enterLoop t k.ca]))

/-- HALT: the core's part of the record ends (R253). -/
def execHalt (core : Nat) (s : State) := s.controlCmd core 4 (fun _ => ([], [.halt]))

/-- BAR: the cluster barrier (R250). -/
def execBar (core : Nat) (s : State) := s.controlCmd core 5 (fun _ => ([], [.bar]))

/-- RXWIN: open a receive window of SB bytes at scratch address SA. -/
def execRxwin (core : Nat) (s : State) :=
  s.controlCmd core 6 (fun k => (if scratchBytes < k.ca + k.cb then [2] else [], [.window k.ca k.cb]))

/-- TRAP: raise PROGRAM. -/
def execTrap (core : Nat) (s : State) := s.controlCmd core 7 (fun _ => ([8], []))

end Sys2Proof.Machine
end

