-- ==== Sys2Proof/Machine/NyScalar.lean ====
section
/-! DEFINITION. The scalar slot (R240, R243, R254). -/

namespace Sys2Proof.Machine

open Sys2Proof

/-- The sources and the destination of a scalar slot. -/
def SlotCtx.ra (k : SlotCtx) : Nat := k.n.sreg (bits k.x 14 6)
def SlotCtx.rb (k : SlotCtx) : Nat := k.n.sreg (bits k.x 20 6)
def SlotCtx.imm (k : SlotCtx) : Nat := bits k.x 32 64

/-- A scalar result in RD, modulo 2^64. -/
def SlotCtx.rd (k : SlotCtx) (v : Nat) : SlotRes := ([], [.sreg (bits k.x 8 6) (v % 2 ^ 64)])

/-- A scalar register as a signed 64-bit integer. -/
def s64 (v : Nat) : Int := sext 64 v

/-- A scalar operation as a command. -/
def State.scalarCmd (s : State) (core op : Nat) (body : SlotCtx → Nat) : Host.Outcome State Fault Refusal :=
  s.slotCmd core 0 op (fun k => k.rd (body k))

/-- FP32 of a scalar register (R243). -/
def f32 (v : Nat) : FV := fp32.value (bits v 0 32)

/-- LI: IMM. -/
def execLi (core : Nat) (s : State) := s.scalarCmd core 0x01 (fun k => k.imm)
/-- ADD: RA + RB. -/
def execAdd (core : Nat) (s : State) := s.scalarCmd core 0x02 (fun k => k.ra + k.rb)
/-- ADDI: RA + IMM. -/
def execAddi (core : Nat) (s : State) := s.scalarCmd core 0x03 (fun k => k.ra + k.imm)
/-- SUB: RA − RB. -/
def execSub (core : Nat) (s : State) := s.scalarCmd core 0x04 (fun k => k.ra + (2 ^ 64 - k.rb))
/-- MUL: the low 64 bits of RA × RB. -/
def execMul (core : Nat) (s : State) := s.scalarCmd core 0x05 (fun k => k.ra * k.rb)
/-- AND. -/
def execAnd (core : Nat) (s : State) := s.scalarCmd core 0x06 (fun k => k.ra &&& k.rb)
/-- OR. -/
def execOr (core : Nat) (s : State) := s.scalarCmd core 0x07 (fun k => k.ra ||| k.rb)
/-- XOR. -/
def execXor (core : Nat) (s : State) := s.scalarCmd core 0x08 (fun k => k.ra ^^^ k.rb)
/-- SHL: RA shifted left by RB mod 64. -/
def execShl (core : Nat) (s : State) := s.scalarCmd core 0x09 (fun k => k.ra * 2 ^ (k.rb % 64))
/-- SHR: RA shifted right by RB mod 64, zeros in. -/
def execShr (core : Nat) (s : State) := s.scalarCmd core 0x0A (fun k => k.ra / 2 ^ (k.rb % 64))
/-- SRA: RA shifted right by RB mod 64, the sign in. -/
def execSra (core : Nat) (s : State) := s.scalarCmd core 0x0B (fun k => untoInt 64 (s64 k.ra / 2 ^ (k.rb % 64)))
/-- SLT: 1 when RA < RB, signed. -/
def execSlt (core : Nat) (s : State) := s.scalarCmd core 0x0C (fun k => b2n (decide (s64 k.ra < s64 k.rb)))
/-- SLTU: 1 when RA < RB, unsigned. -/
def execSltu (core : Nat) (s : State) := s.scalarCmd core 0x0D (fun k => b2n (decide (k.ra < k.rb)))
/-- MIN, signed. -/
def execMin (core : Nat) (s : State) := s.scalarCmd core 0x0E (fun k => if s64 k.rb < s64 k.ra then k.rb else k.ra)
/-- MAX, signed. -/
def execMax (core : Nat) (s : State) := s.scalarCmd core 0x0F (fun k => if s64 k.ra < s64 k.rb then k.rb else k.ra)

/-- A special source (R240). -/
def State.special (s : State) (k : SlotCtx) (i : Nat) : Nat :=
  let cs := s.cores (k.c / 8)
  match i with
  | 0 => cs.findIdx (fun n => decide (n = k.c))
  | 1 => cs.length
  | 2 => leNat k.r.input 8 2
  | 3 => leNat k.r.input 10 2
  | 4 => s.get (Reg.ENC_MODEL_MODEL_ID k.r.r.model)
  | 5 => k.r.chainPos
  | _ => s.get (Reg.ENC_MODEL_CHAIN_LEN k.r.r.model)

/-- MFS: special source IMM[7:0] (R240). -/
def execMfs (core : Nat) (s : State) := s.scalarCmd core 0x10 (fun k => s.special k (k.imm % 256))
/-- FADD: the FP32 sum. -/
def execFadd (core : Nat) (s : State) := s.scalarCmd core 0x11 (fun k => fp32.add (f32 k.ra) (f32 k.rb))
/-- FMUL: the FP32 product. -/
def execFmul (core : Nat) (s : State) := s.scalarCmd core 0x12 (fun k => fp32.mul (f32 k.ra) (f32 k.rb))
/-- FDIV: the FP32 quotient. -/
def execFdiv (core : Nat) (s : State) := s.scalarCmd core 0x13 (fun k => fp32.div (f32 k.ra) (f32 k.rb))
/-- ITOF: signed RA as FP32. -/
def execItof (core : Nat) (s : State) := s.scalarCmd core 0x14 (fun k => fp32.write (fvOfInt (s64 k.ra)))
/-- FTOI: FP32 RA as a signed 64-bit integer. -/
def execFtoi (core : Nat) (s : State) := s.scalarCmd core 0x15 (fun k => untoInt 64 (fvToInt 64 (f32 k.ra)))
/-- QPAR (R254). -/
def execQpar (core : Nat) (s : State) := s.scalarCmd core 0x16 (fun k => qpar k.ra k.rb k.free)

/-- The magnitude of an FP32 pattern, 0 unless it is finite. -/
def finiteMag (v : Nat) : Nat := if v / 2 ^ 23 % 256 = 255 then 0 else v % 2 ^ 31

/-- QSTAT (R254): the larger finite magnitude of RA's pair is offered to layer IMM[7:0]. -/
def execQstat (core : Nat) (s : State) :=
  s.slotCmd core 0 0x17 (fun k => ([], [.stat (k.imm % 256) (max (finiteMag (bits k.ra 0 32)) (finiteMag (bits k.ra 32 32)))]))

end Sys2Proof.Machine
end

