-- ==== Sys2Proof/Machine/NyStream.lean ====
section
/-! DEFINITION. The stream slots (R247 to R251, R260, R263, R280, R282). -/

namespace Sys2Proof.Machine

open Sys2Proof

/-- The address, LEN, second scalar and ARG of a stream slot. -/
def SlotCtx.sa (k : SlotCtx) : Nat := streamAddr k.n k.x
def SlotCtx.len (k : SlotCtx) : Nat := streamLen k.x
def SlotCtx.sb (k : SlotCtx) : Nat := k.n.sreg (bits k.x 18 6)
def SlotCtx.arg (k : SlotCtx) : Nat := bits k.x 96 16

/-- A stream operation as a command. -/
def State.streamCmd (s : State) (core op : Nat) (body : SlotCtx → SlotRes) : Host.Outcome State Fault Refusal :=
  s.slotCmd core 3 op body

/-- VLD: 512 bytes into a vector register. -/
def execVld (core : Nat) (s : State) :=
  s.streamCmd core 0x01 (fun k => scratchSlot 3 k [] [.vreg (bits k.x 24 5) (leNat (k.n.load k.sa 512) 0 512)])
/-- VST: 512 bytes from a vector register. -/
def execVst (core : Nat) (s : State) :=
  s.streamCmd core 0x02 (fun k => scratchSlot 3 k [] [.scratch k.sa (natLe 512 (k.n.vreg (bits k.x 24 5)))])
/-- SLD: 8 bytes into a scalar register. -/
def execSld (core : Nat) (s : State) :=
  s.streamCmd core 0x03 (fun k => scratchSlot 3 k [] [.sreg (bits k.x 24 6) (leNat (k.n.load k.sa 8) 0 8)])
/-- SST: 8 bytes from a scalar register. -/
def execSst (core : Nat) (s : State) :=
  s.streamCmd core 0x04 (fun k => scratchSlot 3 k [] [.scratch k.sa (natLe 8 (k.n.sreg (bits k.x 24 6)))])

/-- A transfer of this core's scratch, under way after the bundle. -/
def SlotCtx.xfer (k : SlotCtx) : SlotWrite := .transfer k.sa k.len false

/-- INCPY: bytes of the input record; those past its end read 0. -/
def execIncpy (core : Nat) (s : State) :=
  s.streamCmd core 0x05 (fun k =>
    let d := (List.range k.len).map (fun i => (k.r.input.drop (k.sb + i)).headD 0)
    scratchSlot 3 k (lenCauses k.x) [.scratch k.sa d, k.xfer])

/-- OUTCPY: bytes of the output record's vector, from byte 32 to its end in FP32 lanes (R260). -/
def execOutcpy (core : Nat) (s : State) :=
  s.streamCmd core 0x06 (fun k =>
    let last := 32 + 4 * s.get (Reg.ENC_MODEL_OUT_DIM k.r.r.model)
    scratchSlot 3 k (lenCauses k.x ++ (if k.sb < 32 ∨ last < k.sb + k.len then [2] else [])) [.output k.sb (k.n.load k.sa k.len), k.xfer])

/-- EMB: the pooled FP32 input of encoder field ARG[5:0]; LEN is 4 × DIM; a field with no codes reads as zeros (R280). -/
def execEmb (core : Nat) (s : State) :=
  s.streamCmd core 0x07 (fun k =>
    match k.r.pooled.find? (fun p => decide (p.1 = k.arg % 64)) with
    | some p => scratchSlot 3 k (if k.len = p.2.length then [] else [2]) [.scratch k.sa p.2, k.xfer]
    | none => scratchSlot 3 k (lenCauses k.x) [.scratch k.sa (List.replicate k.len 0), k.xfer])

/-- WOPEN (R248, R263): open a handle on a segment; with LEN 1,024 the segment's constants go to scratch. -/
def execWopen (core : Nat) (s : State) :=
  s.streamCmd core 0x08 (fun k =>
    let h := bits k.x 8 2
    let seg := k.n.sreg (bits k.x 12 6)
    let layer := k.arg % 256
    match s.segment k.r.r.model layer seg with
    | none => scratchSlot 3 k ([4] ++ (if k.len = 0 ∨ k.len = 1024 then [] else [2])) []
    | some g =>
      let addr := (k.sb + untoInt 64 (sext 32 (bits k.x 32 32))) % 2 ^ 64
      scratchSlot 3 k ((if (tfind k.n.h h).isSome then [4] else []) ++ (if k.len = 0 ∨ k.len = 1024 then [] else [2]))
        (.handle h (some { layer := layer, seg := seg, row := 0 }) ::
          (if k.len = 1024 then [.scratch addr (g.consts ++ List.replicate (1024 - g.consts.length) 0), .transfer addr 1024 false] else [])))

/-- WCLOSE: close a handle. -/
def execWclose (core : Nat) (s : State) := s.streamCmd core 0x09 (fun k => ([], [.handle (bits k.x 8 2) none]))

/-- XCH (R250): bytes to an open receive window of the cluster core of rank ARG[2:0]. -/
def execXch (core : Nat) (s : State) :=
  s.streamCmd core 0x0A (fun k =>
    match (s.cores (core / 8))[k.arg % 8]? with
    | none => scratchSlot 3 k (lenCauses k.x ++ [5]) []
    | some m =>
      let open_ := (s.core m).windows.any (fun w => decide (w.1 ≤ k.sb ∧ k.sb + k.len ≤ w.1 + w.2))
      scratchSlot 3 k (lenCauses k.x ++ (if scratchBytes < k.sb + k.len ∨ k.sb % 64 ≠ 0 then [2] else []) ++ (if open_ then [] else [5]))
        [.exchange m k.sb (k.n.load k.sa k.len), .transfer k.sa k.len true])

/-- ACTO (R251): bytes to the next chain node; ILLEGAL on the last. -/
def execActo (core : Nat) (s : State) :=
  s.streamCmd core 0x0B (fun k =>
    let last := !s.chained k.r.r.model || decide ((s.chainOf k.r.r.model).length ≤ k.r.chainPos + 1)
    scratchSlot 3 k (lenCauses k.x ++ (if last then [1] else [])) [.activation (k.n.load k.sa k.len), k.xfer])

/-- ACTI (R251): the next bytes from the previous chain node; ILLEGAL on CHAIN[0]. -/
def execActi (core : Nat) (s : State) :=
  s.streamCmd core 0x0C (fun k =>
    let first := !s.chained k.r.r.model || decide (k.r.chainPos = 0)
    scratchSlot 3 k (lenCauses k.x ++ (if first then [1] else []))
      [.scratch k.sa ((k.r.inbox.drop (k.r.taken + s.actiAhead (k.c / 8))).take k.len), .takeActivation k.len, k.xfer])

/-- GRAD (R282): gradient records to the embedding service, of models of KIND 3 only. -/
def execGrad (core : Nat) (s : State) :=
  s.streamCmd core 0x0D (fun k =>
    scratchSlot 3 k (lenCauses k.x ++ (if s.get (Reg.ENC_MODEL_KIND k.r.r.model) = 3 then [] else [1]))
      [.gradient (k.n.load k.sa k.len), k.xfer])

/-- SCRZ: zeros. -/
def execScrz (core : Nat) (s : State) :=
  s.streamCmd core 0x0E (fun k => scratchSlot 3 k (lenCauses k.x) [.scratch k.sa (List.replicate k.len 0), k.xfer])

end Sys2Proof.Machine
end

