-- ==== Sys2Proof/Machine/Start.lean ====
section
/-! DEFINITION. Reset, power and start-up (R25, R186, R191, R193, R204, R208, R216, R405, R410 to R414, R423, R428 to R432, R442
to R447): what a reset leaves, and each stage of a start. -/

namespace Sys2Proof.Machine

open Sys2Proof

/-! ### What a reset leaves -/

/-- A shard as a start rebuilds it from the granary (R182, R204, R432): pending deletes are converted, records that were not
programmed are gone, and so are filter objects. -/
def Shard.durable (sh : Shard) (pds : List PdsPair) (lost : List Nat) : Shard :=
  let sh := (pds.filter (fun q => decide (q.coll = sh.coll ∧ q.shard = sh.num))).foldl Shard.convert sh
  { sh with
    lists := sh.lists.map (fun l => { l with
      entries := (l.entries.filter (fun e => !lost.contains e.slot)).map (fun e => { e with allow := 0 }) })
    store := sh.store.filter (fun e => !lost.contains e.1)
    index := sh.index.filter (fun e => !lost.contains e.2.slot)
    filters := [], idxWas := [], oldGraph := none }

/-- The state of a node in reset (R446, R461): every register and queue as State.reset has it, but for what the flash and the
configuration memories hold, the pins, and the commands that wait. -/
def State.doReset (s : State) : State :=
  let r := State.reset
  let lost (sh : Shard) : List Nat := (s.srch.unflushed.filter (fun u => decide (u.1 = sh.coll ∧ u.2.1 = sh.num))).map (·.2.2.1)
  let t : State := { r with
    awake := false, out := s.out, pending := s.pending, freeCtr := s.freeCtr,
    srch := { r.srch with shards := s.srch.shards.map (fun sh => sh.durable s.srch.pds (lost sh)) },
    gran := { r.gran with blocks := s.gran.blocks, map := s.gran.map, seq := s.gran.seq, ckpt := s.gran.ckpt, ckptNext := s.gran.ckptNext },
    cfg := { r.cfg with
      log := (s.cfg.log.filter (fun a => a.posA.isSome || a.posB.isSome)).map (fun a => { a with applied := false }),
      devices := s.cfg.devices, logWr := s.cfg.logWr, logErased := s.cfg.logErased },
    emb := { r.emb with chain := s.emb.chain, chainStep := s.emb.chainStep },
    home := { r.home with flash := s.home.flash },
    pwr := { s.pwr with resetLatched := false, vcore := 850, scanPct := 100, sampleTick := 0 } }
  let keep := [Reg.GRAN_LEASE, Reg.GRAN_AGE_AGE, Reg.NODE_PWR_STATUS_DIE_C] ++ allStacks.map Reg.STACK_TEMP_MAX_C ++
    allStacks.map Reg.STACK_TEMP_HOTTEST_DIE
  keep.foldl (fun (t : State) f => t.set f (s.get f)) t

/-- RESET_N_FALL (R405, R446): the node is reset, frozen or not; while a flush runs the reset is latched. -/
def execResetNFall (s : State) :=
  resetEvt s (fun s =>
    let s := { s with pwr := { s.pwr with resetN := false, releaseHeld := none } }
    if s.awake && s.flag Reg.GRAN_STATUS_FLUSHING then { s with pwr := { s.pwr with resetLatched := true } }
    else if s.awake then s.doReset else s)

/-- RESET_N_RISE (R442, R443, R447): the straps are sampled at the edge; the release may be held inside the module. -/
def execResetNRise (compatG1 cfgSel : Bool) (s : State) :=
  resetEvt s (fun s =>
    if s.pwr.resetN then s
    else ({ s with pwr := { s.pwr with resetN := true, releaseHeld := some (compatG1, cfgSel) } }).tryRelease)

/-- PWR_FAIL_N_RISE (R216, R443): a flushed node does not resume; one held at STAGE 0 goes on. -/
def execPwrFailNRise (s : State) := anyEvt s (fun s => { s with pwr := { s.pwr with pwrFailN := true } })

/-- FLUSH_DONE (R216, R446): the flush has programmed everything; a latched reset is applied. -/
def execFlushDone (s : State) :=
  resetEvt s (fun s =>
    if s.awake && !s.frozen && s.flag Reg.GRAN_STATUS_FLUSHING then
      let s := s.endFlush
      if s.pwr.resetLatched then s.doReset.tryRelease else s
    else s)

/-- RAILS_OFF (R445): below 26 V the module turns its rails off: DRAM, a running flush and the I3C address are lost. -/
def execRailsOff (s : State) :=
  resetEvt s (fun s =>
    let t := if s.awake then s.doReset else s
    { t with pwr := { t.pwr with rails := false, i3cAddr := none, releaseHeld := none, resetN := false } })

/-- RAILS_GOOD (R443): the rails have ramped; a release of RESET_N that came earlier takes effect. -/
def execRailsGood (s : State) := resetEvt s (fun s => ({ s with pwr := { s.pwr with rails := true } }).tryRelease)

/-! ### Identity and image (R410, R413, R414) -/

/-- PUF_DERIVE_DONE (R414): 16,384 response bits are corrected, up to 15 % of them flipped. With PWR_FAIL_N low the node holds
at STAGE 0 (R443). -/
def execPufDeriveDone (flipped : Nat) (ok : Bool) (s : State) :=
  nodeEvt s (fun s =>
    if s.get Reg.CFG_STATUS_STAGE ≠ 0 ∨ s.pwr.pwrFailN = false then s
    else
      let good := ok && decide (flipped ≤ 2457)
      let s := (s.setB Reg.SEC_STATUS_PUF_DONE true).setB Reg.SEC_STATUS_PUF_MARGIN (decide (1638 < flipped))
      let s := if good then s.set Reg.SEC_ID_PUB Config.idPub.toNat else s
      (s.modCfg fun k => { k with pufOk := good }).stageTo 1)

/-- The identity key matches the device certificate (R413 check 6, R414). -/
def State.identityOk (s : State) (i : Image) : Bool := s.cfg.pufOk && decide (i.certKey = natLe 64 Config.idPub.toNat)

/-- The chain digest over the log records that follow the image without a gap (R420, R423). -/
def State.chainLog (s : State) : State :=
  let l := sortBy (fun (a b : Amend) => decide (a.seq ≤ b.seq)) s.cfg.log
  l.foldl (fun (s : State) a =>
    if a.seq ≠ s.get Reg.CFG_HEAD + 1 then s
    else
      let h : Digest := Config.sm3 (natLe 32 (s.get Reg.CFG_HEAD_DIGEST) ++ a.raw)
      ((s.set Reg.CFG_HEAD a.seq).set Reg.CFG_HEAD_DIGEST h.toNat).modCfg fun k => { k with heads := tput k.heads a.seq h }) s

/-- Stage 3 begins (R428): links train while the granary starts. -/
def State.startStage3 (s : State) : State := (List.range 8).foldl (fun (s : State) l => s.trainLink l) (s.stageTo 3)

/-- Channels that failed in training are failed and relocated (R179). -/
def State.failTrained (s : State) : State :=
  (s.cfg.badChans.foldl (fun (s : State) c => if c < 512 ∧ s.get (Reg.STACK_CH_STATE c) = 0 then s.failChannel c else s) s).modCfg
    fun k => { k with badChans := [] }

/-- An image is in force (R411, R423): the log follows it. -/
def State.takeImage (s : State) (device : Nat) (i : Image) : State :=
  let s := s.modCfg fun k => { k with devices := lset (if k.devices.length < 2 then [[], []] else k.devices) device i.raw }
  let s := ((s.loadImage i).setImgValid device (some (leNat i.raw 16 8))).setB Reg.CFG_STATUS_FROM_B (decide (device = 1))
  let s := ((s.setB Reg.SEC_STATUS_ID_OK true).chainLog).showLog
  let s := s.failTrained.stageTo 2
  if s.cfg.trained then s.startStage3 else s

/-- A device's image fails (R410): the other device is read, and FALLBACK set; when both fail the node does not start. -/
def State.imageFails (s : State) (device reason : Nat) : State :=
  let s := s.setImgValid device none
  match s.cfg.firstFail with
  | none => (s.modCfg fun k => { k with firstFail := some reason }).setB Reg.CFG_STATUS_FALLBACK true
  | some first =>
    ((s.set Reg.CFG_STATUS_FAIL_REASON first).setB Reg.SAFE_STATUS_FAULT_N_LOW true).stageTo 7

/-- IMAGE_VERIFY_DONE (R410, R413): the image of a device has been read: CFG_SEL says which device is first. -/
def execImageVerifyDone (device : Nat) (r : ImgRead) (s : State) :=
  nodeEvt s (fun s =>
    let first := s.get Reg.CFG_STATUS_STRAP_CFG_SEL
    if s.get Reg.CFG_STATUS_STAGE ≠ 1 ∨ device ≠ (if s.cfg.firstFail.isNone then first else 1 - first) then s
    else match imgVerify r with
      | .inl reason => s.imageFails device reason
      | .inr i => if s.identityOk i then s.takeImage device i else s.imageFails device 8)

/-- STACK_TRAINING_DONE (R186): every channel is trained, bad vias and rows repaired; channels that failed are relocated once
the image's layout is known. It runs alongside the image (R428). -/
def execStackTrainingDone (failed : List Nat) (vias : List (Nat × Nat)) (rows : List (Nat × Nat × Nat)) (s : State) :=
  nodeEvt s (fun s =>
    let stage := s.get Reg.CFG_STATUS_STAGE
    if s.cfg.trained = true ∨ (stage ≠ 1 ∧ stage ≠ 2) then s
    else
      let s := vias.foldl (fun (s : State) v => s.remapVia v.1 v.2) s
      let s := rows.foldl (fun (s : State) r => s.repairRow r.1 r.2.1 r.2.2) s
      let s := s.modCfg fun k => { k with trained := true, badChans := failed }
      if stage = 2 then s.failTrained.startStage3 else s)

/-! ### The granary and the log (R191, R193, R204, R208, R423) -/

/-- The retired blocks and the highest erase count of a channel. -/
def State.chanBlocks (s : State) (c : Nat) : Nat × Nat :=
  let l := s.gran.blocks.filter (fun b => decide (chanOf b.1 = c))
  (l.countP (fun b => decide (b.2.st = 4)), (l.map (fun b => b.2.erases)).foldl max 0)

/-- Show a channel (R218): channel, mode and rate. -/
def State.showChan (s : State) (luns : List Nat) (x : Nat × Nat × Nat) : State :=
  let c := x.1
  let n := luns.countP (fun l => decide (l / 8 = c))
  let s := (s.set (Reg.GRAN_CH_STATE c) (if n = 0 then 0 else 1)).set (Reg.GRAN_CH_MODE c) x.2.1
  let s := (s.set (Reg.GRAN_CH_MTS c) x.2.2).set (Reg.GRAN_CH_LUNS c) n
  (s.set (Reg.GRAN_CH_BAD_BLOCKS c) (s.chanBlocks c).1).set (Reg.GRAN_CH_MAX_ERASE c) (s.chanBlocks c).2

/-- The map refers to a LUN that is not there (R193). -/
def State.lunMissing (s : State) : Bool := s.gran.map.any (fun e => !s.gran.luns.contains (lunOf (mapBlock e.2)))

/-- FLASH_INIT_DONE (R191, R193, R208, R392): the LUNs present, each channel's mode and rate, and each LUN's estimate of the minutes
without power, none where its reference page cannot be read. -/
def execFlashInitDone (luns : List Nat) (chans : List (Nat × Nat × Nat)) (offline : List (Option Nat)) (s : State) :=
  nodeEvt s (fun s =>
    if s.get Reg.CFG_STATUS_STAGE ≠ 3 ∨ s.flag Reg.GRAN_STATUS_REPLAYING = true ∨ s.flag Reg.GRAN_STATUS_CH_MISSING = true then s
    else
      let use := if s.gran.map.isEmpty then luns.filter (fun l => bit s.gran.chanMask (l / 8)) else luns
      let est := min 5256000 ((offline.map (fun o => o.getD 5256000)).foldl max 0)
      let s := s.modGran fun g => { g with luns := use }
      let s := (chans.filter (fun x => decide (x.1 < 16))).foldl (fun (s : State) x => s.showChan luns x) s
      let s := (s.set Reg.GRAN_AGE_OFFLINE_EST est).stick Reg.GRAN_AGE_AGE est
      let s := s.set Reg.GRAN_SPACE_USER_GIB (userBytes s.gran.profile use.length (s.get Reg.GRAN_CFG_OP_PCT) / 2 ^ 30)
      if s.lunMissing then
        ((s.setB Reg.GRAN_STATUS_CH_MISSING true).setB Reg.STEP_STATUS_RECOVERING true).nodeFault
      else s.setB Reg.GRAN_STATUS_REPLAYING true)

/-- A record of the log comes into force at a start (R423): what it set is set again, and nothing is announced. -/
def State.replayRecord (s : State) (mem : List (Nat × List Byte)) (a : Amend) : State :=
  let s := s.modCfg fun k => { k with log := lmod (fun x => decide (x.seq = a.seq)) (fun x => { x with applied := true }) k.log }
  if s.meantHere a.raw && decide (amKind a.raw = 1) then ((s.readMaps mem a.raw).applyItems a.step (recItems a.raw)).showUse else s

/-- The records of the log above the image (R423): models are loaded; what has come by a step is in force. -/
def State.replayLog (s : State) (mem : List (Nat × List Byte)) (t : Nat) : State :=
  let l := (sortBy (fun (a b : Amend) => decide (a.seq ≤ b.seq)) s.cfg.log).filter
    (fun a => decide (s.cfg.baseSeq < a.seq ∧ a.seq ≤ s.get Reg.CFG_HEAD) && !a.applied)
  l.foldl (fun (s : State) a => if a.step ≤ t then s.replayRecord mem a else s) s

/-- The models that records of the log load (R422, R423). -/
def State.replayModels (s : State) : State :=
  let l := (sortBy (fun (a b : Amend) => decide (a.seq ≤ b.seq)) s.cfg.log).filter
    (fun a => decide (s.cfg.baseSeq < a.seq ∧ a.seq ≤ s.get Reg.CFG_HEAD ∧ amKind a.raw = 2) && s.meantHere a.raw)
  l.foldl (fun (s : State) a => match s.freeModel with
    | some i => ((s.putModel i a.step (recEntry a.raw)).loadModel { entry := i, head := recHead a.raw, wrapped := recKeys a.raw }).showUse
    | none => s) s

/-- MAP_REPLAY_DONE (R204, R205, R423, R429): the map is loaded and replayed. The open step comes from the highest lease mark;
log records of steps that may have been committed take effect at once; links are awaited. -/
def execMapReplayDone (mem : List (Nat × List Byte)) (s : State) :=
  nodeEvt s (fun s =>
    if s.flag Reg.GRAN_STATUS_REPLAYING then
      let s := (s.setB Reg.GRAN_STATUS_REPLAYING false).set Reg.STEP_OPEN (s.get Reg.GRAN_LEASE)
      let s := s.replayModels.replayLog mem (s.get Reg.GRAN_LEASE)
      (s.homeDiscard.stageTo 4).settleLinks
    else s)

/-! ### Catching up (R52, R431) -/

/-- Filter loads and retirements of every shard that the other holders know (R79, R80). -/
def State.takeFilterNotes (s : State) (c : CatchUp) : State :=
  let s := c.loads.foldl (fun (s : State) l =>
    let info := s.coll l.1
    if info.loads.contains l.2 then s
    else s.modSrch fun k => { k with colls := tset CollInfo.none k.colls l.1 { info with loads := info.loads ++ [l.2] } }) s
  c.retires.foldl (fun (s : State) r =>
    let info := s.coll r.1
    if info.retires.contains r.2 then s
    else s.modSrch fun k => { k with colls := tset CollInfo.none k.colls r.1 { info with retires := info.retires ++ [r.2] } }) s

/-- This node's shards and tables as their other holders have them (R431). -/
def State.takeCatchUp (s : State) (c : CatchUp) : State :=
  let mine := c.shards.filter (fun sh => decide (sh.owner = s.me ∨ sh.mirror = s.me))
  let s := s.modSrch fun k => { k with
    shards := (k.shards.filter (fun sh => !mine.any (fun x => decide (x.coll = sh.coll ∧ x.num = sh.num)))) ++ mine, pds := c.pds }
  let s := s.modEmb fun e => { e with rows := c.rows, dir := c.dir, chain := c.tchain, chainStep := c.tchange }
  (s.takeFilterNotes c).set Reg.STEP_PDS c.pds.length

/-- CATCH_UP_DONE (R52, R431): a recovering node has the log records above its own, and its shards and tables as committed up to
a step, with the membership from the step after; it asks to join, and may catch up again until it is granted. A node that has
joined catches up to the commit of its join (assumption 46). -/
def execCatchUpDone (c : CatchUp) (log : List (List Byte)) (mem : List (Nat × List Byte)) (s : State) :=
  nodeEvt s (fun s =>
    let early := s.flag Reg.STEP_STATUS_RECOVERING && decide (s.get Reg.CFG_STATUS_STAGE = 5) && !s.flag Reg.GRAN_STATUS_CH_MISSING
    if !early && s.stp.joinStep.isNone then s
    else
      let s := log.foldl (fun (s : State) r => s.takeAppend r) s
      let s := (s.replayLog mem (c.committed + 1)).takeCatchUp c
      let s := (s.set Reg.STEP_MEMBERS c.members).set Reg.STEP_EPOCH c.epoch
      let s := (s.set Reg.STEP_ROLE_ROOT_ID c.root).setB Reg.STEP_ROLE_IS_ROOT (decide (c.root = s.me))
      if early then
        let s := (s.set Reg.STEP_COMMITTED c.committed).set Reg.STEP_EXEC (c.committed + 1)
        (s.set Reg.STEP_OPEN (c.committed + 1)).askJoin
      else match s.stp.joinStep with
        | some t => if t ≤ c.committed then s.modStp fun k => { k with joinStep := none } else s
        | none => s)

end Sys2Proof.Machine
end

