-- ==== Sys2Proof/Machine/Window.lean ====
section
/-! DEFINITION. A host's write to the control window (R6, R7, R328, R330, R331, R398, R462, R465): the checks every write
passes, the access codes, and, for the registers that have commands of their own, the effects of those. -/

namespace Sys2Proof.Machine

open Sys2Proof

/-! ### Whose entry a register is -/

/-- The partition of an entry of a table that names it in a PARTITION field, by the table's offset. -/
def State.namedOwner (s : State) (off i : Nat) : Option Nat :=
  if off = 0x1040000 ∨ off = 0x1080000 then some (s.get (Reg.COLL_DESC_PARTITION i))
  else if off = 0x1060000 then some (s.get (Reg.COLL_SMAP_PARTITION i))
  else if off = 0x1302000 then some (s.get (Reg.GRAN_REGION_PARTITION i))
  else if off = 0x1410000 then some (s.get (Reg.ENC_MODEL_PARTITION i))
  else if off = 0x1510000 ∨ off = 0x1520000 then some (s.get (Reg.EMB_TABLE_PARTITION i))
  else if off = 0x1610000 then some (s.get (Reg.HOME_RANGE_PARTITION i))
  else if off = 0x1650000 then some (s.get (Reg.HOME_REGION_PARTITION i))
  else if off = 0x1810000 then some (s.get (Reg.CXP_BIND_PARTITION i))
  else if off = 0x1831000 then some (s.get (Reg.CXP_VEC_PARTITION i))
  else none

/-- A register's offset lies in the pages or tables that have an entry for each partition. -/
def perPartition (off : Nat) : Bool :=
  decide ((0x200000 ≤ off ∧ off < 0x300000) ∨ (0x400000 ≤ off ∧ off < 0x800000)) ||
    [0x301000, 0x302000, 0x304000, 0x1400200, 0x1680000, 0x16c0000, 0x1814000, 0x1b10000, 0x1c10000].contains off

/-- A register or entry that hosts of partition p may not touch (R331, R398, R400, R408, R464): another partition's, the
node-wide tallies, the SAFE block, and the cores' exception registers. A free entry is no partition's. -/
def State.foreignTo (s : State) (p : Nat) (d : RegDesc) (i : Nat) : Bool :=
  if 0x1a00000 ≤ d.off ∧ d.off < 0x1b00000 then true
  else if d.off = 0x1d00100 then true
  else if d.off = 0x1900000 then decide (i ≠ p)
  else if perPartition d.off then decide (i + 1 ≠ p)
  else match s.namedOwner d.off i with
    | some q => decide (q ≠ p ∧ q ≠ 0)
    | none => false

/-! ### One word -/


/-- The byte of a register's entry at which a word begins. -/
def entryByte (d : RegDesc) (i j a : Nat) : Nat :=
  a - d.off - (match d.dims with
    | [] => 0
    | [(s1, _)] => i * s1
    | (s1, _) :: (s2, _) :: _ => i * s1 + j * s2)

/-- A word writes a reserved bit with another value than 0 (R6). -/
def rsvdHit (d : RegDesc) (i j a v : Nat) : Bool :=
  d.rsvd.any (fun r => decide (bits (v * 2 ^ (8 * entryByte d i j a)) r.1 r.2 ≠ 0))

/-- The word at an offset of the tally directory, which has no register of its own in the map. -/
def inTallyDir (a : Nat) : Bool := decide (0x1950000 ≤ a ∧ a < 0x1958000)

/-- A field that a command of its own writes: the OP byte of a slot. -/
def isOpField (off : Nat) (f : Fld) (i j : Nat) : Bool :=
  decide ((off = 0x1680000 ∧ f = Reg.HOME_SWAP_OP (i + 1) j) ∨ (off = 0x1b10000 ∧ f = Reg.CFG_STAGE_OP (i + 1) j) ∨
    (off = 0x1c10000 ∧ f = Reg.SEC_REPORT_OP (i + 1) j))

/-- Write a word over a field by its access code (R7): RW takes it, W1C clears where it has ones, any other code ignores it. -/
def State.writeField (s : State) (a v : Nat) (f : Fld) : State :=
  match f.acc with
  | .rw => s.putWord a v f
  | .w1c =>
    let ones := wordInto f 0 a v
    s.set f (s.get f &&& (2 ^ f.w - 1 - ones % 2 ^ f.w))
  | _ => s

/-- Write a word over the fields of its register, except an OP byte. -/
def State.writeFields (s : State) (p a v : Nat) (d : RegDesc) (i j : Nat) : State :=
  ((d.fields i j p).filter (fun f => inWord a f && !isOpField d.off f i j)).foldl (fun (s : State) f => s.writeField a v f) s

/-- Write a word to a register that hosts of partition p may touch. A doorbell rings, the event configuration and a
tally act as their own commands do, and an OP byte starts a page swap or asks for a state report once the rest of the slot is
written; a stage slot's OP 1 comes as CFG_STAGE_SUBMIT, with the host's bytes (assumption 47). -/
def State.writeWord (s : State) (h : HostReq) (p a v : Nat) (d : RegDesc) (i j : Nat) : State :=
  if d.off = 0x40100c then s.ringDoorbell p j (v % 2 ^ 17)
  else if d.off = 0x40200c then s.returnSlots p j (v % 2 ^ 17)
  else if d.off = 0x200038 then s.writeEvtCfg p (v % 2 ^ 11 + bits v 31 1 * 2 ^ 31)
  else if d.off = 0x1900000 then s.clearTally p j 0
  else
    let s := s.writeFields p a v d i j
    if entryByte d i j a ≠ 0 then s
    else if d.off = 0x1680000 ∧ (v % 256 = 1 ∨ v % 256 = 2) then s.startSwap h p j (v % 256)
    else if d.off = 0x1c10000 ∧ v % 256 = 1 then s.askReport h p j
    else s

/-! ### A write -/

/-- A write to the registers of synchronisation objects (R336, R346): the operation of R336, a CTL write, or, on an object of
another partition or of another form at offsets 32 to 63, a refusal. -/
def State.writeSync (s : State) (h : HostReq) (p a bytes v : Nat) : State :=
  let o := (a - 0x800000) / 64
  let off := a % 64
  if 32 ≤ off then
    if off = 32 ∧ bytes = 32 then
      s.syncOp h o (bits v 128 8) (bits v 0 64) (bits v 64 64) (bits v 144 16) (decide (bits v 136 8 ≠ 0 ∨ bits v 160 96 ≠ 0))
    else s.tallyP .SYNC_REFUSED p
  else if !goodShape a bytes then s.tallyN .CXP_BAD_ACCESS
  else if s.syncOwner o ≠ p then s.tallyP .SYNC_REFUSED p
  else
    let ws := writeWords a bytes v
    let hit := ws.any (fun w => (decide (w.1 % 64 = 8) && decide (bits w.2 13 11 ≠ 0 ∨ bits w.2 11 1 ≠ 0)) ||
      (decide (w.1 % 64 = 12) && decide (bits w.2 16 16 ≠ 0)) || decide (24 ≤ w.1 % 64 ∧ w.2 ≠ 0))
    let s := s.when hit (fun t => t.tallyP .CXP_RSVD_WRITES p)
    ws.foldl (fun (s : State) w =>
      if w.1 % 64 = 8 then s.syncCtl p o (bits w.2 24 8 * 2 ^ 24 + bits w.2 12 1 * 2 ^ 12 + bits w.2 0 11) else s) s

/-- A word of a write meets no register (R462). -/
def wordUnassigned (w : Nat × Nat) : Bool := (regFind w.1).isNone && !inTallyDir w.1

/-- A word of a write meets a register or field that is not the writer's (R331, R398). -/
def State.foreignWord (s : State) (p : Nat) (w : Nat × Nat) : Bool :=
  match regFind w.1 with
  | some (d, i, j) => s.foreignTo p d i || ((d.fields i j p).filter (inWord w.1)).any (fun f => decide (f.acc = .saf))
  | none => false

/-- A word of a write has a reserved bit that is not 0. -/
def rsvdWord (w : Nat × Nat) : Bool :=
  match regFind w.1 with
  | some (d, i, j) => rsvdHit d i j w.1 w.2
  | none => inTallyDir w.1 && decide (w.2 ≠ 0) && (decide (w.1 % 32 = 28) || (decide (w.1 % 32 = 24) && decide (bits w.2 8 8 ≠ 0)))

/-- A write of an accepted shape outside the synchronisation objects: an unassigned word is ignored and counted, a foreign
register too, and the rest is written from its last word to its first, so that a slot's command comes last. -/
def State.writeRegs (s : State) (h : HostReq) (p : Nat) (ws : List (Nat × Nat)) : State :=
  let s := s.when (ws.any wordUnassigned) (fun t => t.tallyN .CXP_BAD_ACCESS)
  let s := s.when (ws.any (s.foreignWord p)) (fun t => t.tallyP .CXP_FOREIGN p)
  let mine := ws.filter (fun w => !s.foreignWord p w)
  let s := s.when (mine.any rsvdWord) (fun t => t.tallyP .CXP_RSVD_WRITES p)
  let s := mine.reverse.foldl (fun (s : State) w =>
    match regFind w.1 with
    | some (d, i, j) => s.writeWord h p w.1 w.2 d i j
    | none => s) s
  let hint : Nat := (mine.map (fun w => if w.1 = 0x1600018 then w.2 else if w.1 = 0x160001c then w.2 * 2 ^ 32 else 0)).sum
  s.when (decide (hint ≠ 0)) (fun t => t.writeHint h.pid p hint)

/-- A write of a partition's host to the control window (R330, R331). -/
def State.writeWindow (s : State) (h : HostReq) (p a bytes v : Nat) : State :=
  if 0x800000 ≤ a ∧ a < 0x1000000 then s.writeSync h p a bytes v
  else if !goodShape a bytes then s.tallyN .CXP_BAD_ACCESS
  else if 0x1820000 ≤ a ∧ a < 0x1828000 then
    let i := (a - 0x1820000) / 16
    if s.get (Reg.CXP_VEC_PARTITION i) ≠ p then s.tallyP .CXP_FOREIGN p else s.writeMsix p i (a % 16) bytes v
  else s.writeRegs h p (writeWords a bytes v)

/-- REGISTER_WRITE (R7, R18, R330, R331, R462): `bytes` bytes of `value` at an offset of the control window. -/
def execRegisterWrite (h : HostReq) (addr bytes value : Nat) (s : State) :=
  hostCmd s (.registerWrite h addr bytes value) (fun s =>
    match s.admitHost h with
    | .inr t => t
    | .inl p => s.writeWindow h p addr bytes value)

end Sys2Proof.Machine
end

