-- ==== Sys2Proof/Machine/Dispatch.lean ====
section
/-! DEFINITION. The dispatch: one arm per command of the table, each one direct call of its meaning. -/

namespace Sys2Proof.Machine

def exec (i : Instr) (s : State) : Host.Outcome State Fault Refusal :=
  match i with
  | .iringTailWrite h p n value => Sys2Proof.Machine.execIringTailWrite h p n value s
  | .sringHeadWrite h p n value => Sys2Proof.Machine.execSringHeadWrite h p n value s
  | .descriptorFetch p n data => Sys2Proof.Machine.execDescriptorFetch p n data s
  | .malformedUnit => Sys2Proof.Machine.execMalformedUnit s
  | .query => Sys2Proof.Machine.execQuery s
  | .filterLoad => Sys2Proof.Machine.execFilterLoad s
  | .filterRetire => Sys2Proof.Machine.execFilterRetire s
  | .insert => Sys2Proof.Machine.execInsert s
  | .delete => Sys2Proof.Machine.execDelete s
  | .replace => Sys2Proof.Machine.execReplace s
  | .recordRead => Sys2Proof.Machine.execRecordRead s
  | .embLookup mem lost => Sys2Proof.Machine.execEmbLookup mem lost s
  | .embUpdate mem lost => Sys2Proof.Machine.execEmbUpdate mem lost s
  | .embTableLoad => Sys2Proof.Machine.execEmbTableLoad s
  | .embTableSave => Sys2Proof.Machine.execEmbTableSave s
  | .encRun => Sys2Proof.Machine.execEncRun s
  | .shmPublish => Sys2Proof.Machine.execShmPublish s
  | .shmFlush => Sys2Proof.Machine.execShmFlush s
  | .shmStageReset => Sys2Proof.Machine.execShmStageReset s
  | .syncAdd h obj arg reply tag rsvd => Sys2Proof.Machine.execSyncAdd h obj arg reply tag rsvd s
  | .syncTake h obj arg reply tag rsvd => Sys2Proof.Machine.execSyncTake h obj arg reply tag rsvd s
  | .syncSet h obj arg reply tag rsvd => Sys2Proof.Machine.execSyncSet h obj arg reply tag rsvd s
  | .syncRead h obj arg reply tag rsvd => Sys2Proof.Machine.execSyncRead h obj arg reply tag rsvd s
  | .syncWait h obj arg reply tag rsvd => Sys2Proof.Machine.execSyncWait h obj arg reply tag rsvd s
  | .syncCancel h obj arg reply tag rsvd => Sys2Proof.Machine.execSyncCancel h obj arg reply tag rsvd s
  | .syncBadOp h obj form => Sys2Proof.Machine.execSyncBadOp h obj form s
  | .syncCtlWrite h obj value => Sys2Proof.Machine.execSyncCtlWrite h obj value s
  | .homeHintWrite h value => Sys2Proof.Machine.execHomeHintWrite h value s
  | .pageIn h p slot => Sys2Proof.Machine.execPageIn h p slot s
  | .pageOut h p slot => Sys2Proof.Machine.execPageOut h p slot s
  | .swapDmaDone p slot lines lost => Sys2Proof.Machine.execSwapDmaDone p slot lines lost s
  | .cfgStageSubmit h p slot data => Sys2Proof.Machine.execCfgStageSubmit h p slot data s
  | .secReportRequest h p slot => Sys2Proof.Machine.execSecReportRequest h p slot s
  | .tallyClearWrite h p n value => Sys2Proof.Machine.execTallyClearWrite h p n value s
  | .msixTableWrite h n off bytes value => Sys2Proof.Machine.execMsixTableWrite h n off bytes value s
  | .partEvtCfgWrite h p value => Sys2Proof.Machine.execPartEvtCfgWrite h p value s
  | .registerWrite h addr bytes value => Sys2Proof.Machine.execRegisterWrite h addr bytes value s
  | .hdmDecoderCommit h bank ways size base => Sys2Proof.Machine.execHdmDecoderCommit h bank ways size base s
  | .functionLevelReset h => Sys2Proof.Machine.execFunctionLevelReset h s
  | .hostMemrdShared h hpa => Sys2Proof.Machine.execHostMemrdShared h hpa s
  | .hostMemrdAny h hpa => Sys2Proof.Machine.execHostMemrdAny h hpa s
  | .hostMemrdUncached h hpa => Sys2Proof.Machine.execHostMemrdUncached h hpa s
  | .hostMemwrHeld h hpa data mask => Sys2Proof.Machine.execHostMemwrHeld h hpa data mask s
  | .hostMemwrInvalidating h hpa data mask => Sys2Proof.Machine.execHostMemwrInvalidating h hpa data mask s
  | .bisnpResponse pid line data => Sys2Proof.Machine.execBisnpResponse pid line data s
  | .biTimeout pid line => Sys2Proof.Machine.execBiTimeout pid line s
  | .cxlLinkDown port => Sys2Proof.Machine.execCxlLinkDown port s
  | .cxlLinkUp port width rate pid => Sys2Proof.Machine.execCxlLinkUp port width rate pid s
  | .switchPortDown pid => Sys2Proof.Machine.execSwitchPortDown pid s
  | .ideIntegrityFail port => Sys2Proof.Machine.execIdeIntegrityFail port s
  | .ideKeySet h link => Sys2Proof.Machine.execIdeKeySet h link s
  | .cxlPerst port low => Sys2Proof.Machine.execCxlPerst port low s
  | .getVersion h => Sys2Proof.Machine.execGetVersion h s
  | .getCapabilities h => Sys2Proof.Machine.execGetCapabilities h s
  | .negotiateAlgorithms h offered => Sys2Proof.Machine.execNegotiateAlgorithms h offered s
  | .getDigests h => Sys2Proof.Machine.execGetDigests h s
  | .getCertificate h offset length => Sys2Proof.Machine.execGetCertificate h offset length s
  | .challenge h nonce => Sys2Proof.Machine.execChallenge h nonce s
  | .getMeasurements h index sign nonce => Sys2Proof.Machine.execGetMeasurements h index sign nonce s
  | .keyExchange h data certOk => Sys2Proof.Machine.execKeyExchange h data certOk s
  | .finish h ok => Sys2Proof.Machine.execFinish h ok s
  | .spdmHeartbeat h => Sys2Proof.Machine.execSpdmHeartbeat h s
  | .keyUpdate h => Sys2Proof.Machine.execKeyUpdate h s
  | .endSession h => Sys2Proof.Machine.execEndSession h s
  | .spdmUnsupported h => Sys2Proof.Machine.execSpdmUnsupported h s
  | .admissionWindowExpiry => Sys2Proof.Machine.execAdmissionWindowExpiry s
  | .stepClose m src => Sys2Proof.Machine.execStepClose m src s
  | .sendStepDone => Sys2Proof.Machine.execSendStepDone s
  | .stepDone m src => Sys2Proof.Machine.execStepDone m src s
  | .rootSendCommit far => Sys2Proof.Machine.execRootSendCommit far s
  | .stepCommit m far src => Sys2Proof.Machine.execStepCommit m far src s
  | .stepWaitTimeout => Sys2Proof.Machine.execStepWaitTimeout s
  | .heartbeatTimer => Sys2Proof.Machine.execHeartbeatTimer s
  | .heartbeat m src => Sys2Proof.Machine.execHeartbeat m src s
  | .suspicionTimeout y => Sys2Proof.Machine.execSuspicionTimeout y s
  | .suspect m src => Sys2Proof.Machine.execSuspect m src s
  | .clear m src => Sys2Proof.Machine.execClear m src s
  | .membTimeout y => Sys2Proof.Machine.execMembTimeout y s
  | .quorumAbandon y => Sys2Proof.Machine.execQuorumAbandon y s
  | .exclude m src => Sys2Proof.Machine.execExclude m src s
  | .isolationTimeout => Sys2Proof.Machine.execIsolationTimeout s
  | .joinReq m src => Sys2Proof.Machine.execJoinReq m src s
  | .joinRetryTimeout => Sys2Proof.Machine.execJoinRetryTimeout s
  | .joinGrant m src => Sys2Proof.Machine.execJoinGrant m src s
  | .formationWaitExpiry => Sys2Proof.Machine.execFormationWaitExpiry s
  | .queryDist q src => Sys2Proof.Machine.execQueryDist q src s
  | .announce id opcode src => Sys2Proof.Machine.execAnnounce id opcode src s
  | .release id opcode src => Sys2Proof.Machine.execRelease id opcode src s
  | .notice id status src => Sys2Proof.Machine.execNotice id status src s
  | .confirm id status src => Sys2Proof.Machine.execConfirm id status src s
  | .routingComplete id shard laneFault => Sys2Proof.Machine.execRoutingComplete id shard laneFault s
  | .nbuThresh id shard list fault => Sys2Proof.Machine.execNbuThresh id shard list fault s
  | .nbuGather id bag row fault => Sys2Proof.Machine.execNbuGather id bag row fault s
  | .nbuApply table row step => Sys2Proof.Machine.execNbuApply table row step s
  | .nbuCopy info row e => Sys2Proof.Machine.execNbuCopy info row e s
  | .nbuTest bank ok => Sys2Proof.Machine.execNbuTest bank ok s
  | .chainStookDelivery id shard list winFault => Sys2Proof.Machine.execChainStookDelivery id shard list winFault s
  | .fallbackPassDone id shard list bank ok => Sys2Proof.Machine.execFallbackPassDone id shard list bank ok s
  | .gleanRecordArrival id shard slot gsrc unitFault => Sys2Proof.Machine.execGleanRecordArrival id shard slot gsrc unitFault s
  | .transit id src sh crcOk winFault => Sys2Proof.Machine.execTransit id src sh crcOk winFault s
  | .sheafFlushReadDone id => Sys2Proof.Machine.execSheafFlushReadDone id s
  | .stook id shard list entries => Sys2Proof.Machine.execStook id shard list entries s
  | .stookReq id shard list floor src q failed => Sys2Proof.Machine.execStookReq id shard list floor src q failed s
  | .stage g src again => Sys2Proof.Machine.execStage g src again s
  | .digest id digest src again => Sys2Proof.Machine.execDigest id digest src again s
  | .stageAck id fwd src => Sys2Proof.Machine.execStageAck id fwd src s
  | .outcome id o src => Sys2Proof.Machine.execOutcome id o src s
  | .credit src units => Sys2Proof.Machine.execCredit src units s
  | .gradStage rec src => Sys2Proof.Machine.execGradStage rec src s
  | .entries id table entries fwd src => Sys2Proof.Machine.execEntries id table entries fwd src s
  | .partials id sums fwd onto bad src => Sys2Proof.Machine.execPartials id sums fwd onto bad src s
  | .loadReport step table load src => Sys2Proof.Machine.execLoadReport step table load src s
  | .directory entry src => Sys2Proof.Machine.execDirectory entry src s
  | .rowMove table row step data src => Sys2Proof.Machine.execRowMove table row step data src s
  | .rowDigest table row step digest src => Sys2Proof.Machine.execRowDigest table row step digest src s
  | .rds line src => Sys2Proof.Machine.execRds line src s
  | .rdo line src => Sys2Proof.Machine.execRdo line src s
  | .upg line src => Sys2Proof.Machine.execUpg line src s
  | .wbm line data src => Sys2Proof.Machine.execWbm line data src s
  | .evs line src => Sys2Proof.Machine.execEvs line src s
  | .invWrite line data mask tag src => Sys2Proof.Machine.execInvWrite line data mask tag src s
  | .cas id region expect base pid src => Sys2Proof.Machine.execCas id region expect base pid src s
  | .snpdata line fwd src => Sys2Proof.Machine.execSnpdata line fwd src s
  | .snpinv line fwd src => Sys2Proof.Machine.execSnpinv line fwd src s
  | .cohRspData line st data src => Sys2Proof.Machine.execCohRspData line st data src s
  | .grant line src => Sys2Proof.Machine.execGrant line src s
  | .snpRsp line data sent src => Sys2Proof.Machine.execSnpRsp line data sent src s
  | .casRsp id ok version pubStep src => Sys2Proof.Machine.execCasRsp id ok version pubStep src s
  | .cohDone line tag src => Sys2Proof.Machine.execCohDone line tag src s
  | .holdExpiry line => Sys2Proof.Machine.execHoldExpiry line s
  | .granuleFillDone granule lost => Sys2Proof.Machine.execGranuleFillDone granule lost s
  | .writebackTimer granule => Sys2Proof.Machine.execWritebackTimer granule s
  | .publishSealDone id prevRelease => Sys2Proof.Machine.execPublishSealDone id prevRelease s
  | .lostLog entries src => Sys2Proof.Machine.execLostLog entries src s
  | .reset pid step src => Sys2Proof.Machine.execReset pid step src s
  | .resetConfirm pid step src => Sys2Proof.Machine.execResetConfirm pid step src s
  | .actRecord r src => Sys2Proof.Machine.execActRecord r src s
  | .activation r data last src => Sys2Proof.Machine.execActivation r data last src s
  | .actOutput id pos status out sat quant nan grads src => Sys2Proof.Machine.execActOutput id pos status out sat quant nan grads src s
  | .bulkRecordRead coll shard slot src => Sys2Proof.Machine.execBulkRecordRead coll shard slot src s
  | .bulkRecordReply coll shard slot ok => Sys2Proof.Machine.execBulkRecordReply coll shard slot ok s
  | .indexPage coll shard lpage ok => Sys2Proof.Machine.execIndexPage coll shard lpage ok s
  | .filterBits coll shard list fslot ok => Sys2Proof.Machine.execFilterBits coll shard list fslot ok s
  | .chunks chan priv coded reb => Sys2Proof.Machine.execChunks chan priv coded reb s
  | .weights model lpage ok => Sys2Proof.Machine.execWeights model lpage ok s
  | .e2eAck src cls route seq => Sys2Proof.Machine.execE2eAck src cls route seq s
  | .e2eNak src cls route seq => Sys2Proof.Machine.execE2eNak src cls route seq s
  | .e2eAckTimer => Sys2Proof.Machine.execE2eAckTimer s
  | .flitData link raw fec => Sys2Proof.Machine.execFlitData link raw fec s
  | .flitNak link raw fec => Sys2Proof.Machine.execFlitNak link raw fec s
  | .flitInit link raw fec => Sys2Proof.Machine.execFlitInit link raw fec s
  | .flitIdle link raw fec => Sys2Proof.Machine.execFlitIdle link raw fec s
  | .replayTimeout link => Sys2Proof.Machine.execReplayTimeout link s
  | .fastRetrainStart link => Sys2Proof.Machine.execFastRetrainStart link s
  | .fastRetrainDone link => Sys2Proof.Machine.execFastRetrainDone link s
  | .linkTrainingDone link lanes => Sys2Proof.Machine.execLinkTrainingDone link lanes s
  | .freezePatternRx link => Sys2Proof.Machine.execFreezePatternRx link s
  | .creditRefillTick => Sys2Proof.Machine.execCreditRefillTick s
  | .gateEntryExpiry => Sys2Proof.Machine.execGateEntryExpiry s
  | .encRecordDispatch mem remote lost => Sys2Proof.Machine.execEncRecordDispatch mem remote lost s
  | .loftFillDone model half layer => Sys2Proof.Machine.execLoftFillDone model half layer s
  | .streamTransferDone core n => Sys2Proof.Machine.execStreamTransferDone core n s
  | .firstPassDone model src => Sys2Proof.Machine.execFirstPassDone model src s
  | .li core => Sys2Proof.Machine.execLi core s
  | .add core => Sys2Proof.Machine.execAdd core s
  | .addi core => Sys2Proof.Machine.execAddi core s
  | .sub core => Sys2Proof.Machine.execSub core s
  | .mul core => Sys2Proof.Machine.execMul core s
  | .and core => Sys2Proof.Machine.execAnd core s
  | .or core => Sys2Proof.Machine.execOr core s
  | .xor core => Sys2Proof.Machine.execXor core s
  | .shl core => Sys2Proof.Machine.execShl core s
  | .shr core => Sys2Proof.Machine.execShr core s
  | .sra core => Sys2Proof.Machine.execSra core s
  | .slt core => Sys2Proof.Machine.execSlt core s
  | .sltu core => Sys2Proof.Machine.execSltu core s
  | .min core => Sys2Proof.Machine.execMin core s
  | .max core => Sys2Proof.Machine.execMax core s
  | .mfs core => Sys2Proof.Machine.execMfs core s
  | .fadd core => Sys2Proof.Machine.execFadd core s
  | .fmul core => Sys2Proof.Machine.execFmul core s
  | .fdiv core => Sys2Proof.Machine.execFdiv core s
  | .itof core => Sys2Proof.Machine.execItof core s
  | .ftoi core => Sys2Proof.Machine.execFtoi core s
  | .qpar core => Sys2Proof.Machine.execQpar core s
  | .qstat core => Sys2Proof.Machine.execQstat core s
  | .vadd core => Sys2Proof.Machine.execVadd core s
  | .vsub core => Sys2Proof.Machine.execVsub core s
  | .vmul core => Sys2Proof.Machine.execVmul core s
  | .vfma core => Sys2Proof.Machine.execVfma core s
  | .vmax core => Sys2Proof.Machine.execVmax core s
  | .vmin core => Sys2Proof.Machine.execVmin core s
  | .vexp core => Sys2Proof.Machine.execVexp core s
  | .vrcp core => Sys2Proof.Machine.execVrcp core s
  | .vrsqrt core => Sys2Proof.Machine.execVrsqrt core s
  | .vsplat core => Sys2Proof.Machine.execVsplat core s
  | .vcmp core => Sys2Proof.Machine.execVcmp core s
  | .vsel core => Sys2Proof.Machine.execVsel core s
  | .vcvt core => Sys2Proof.Machine.execVcvt core s
  | .vrsum core => Sys2Proof.Machine.execVrsum core s
  | .vrmax core => Sys2Proof.Machine.execVrmax core s
  | .vrmin core => Sys2Proof.Machine.execVrmin core s
  | .vtrd core residueOk => Sys2Proof.Machine.execVtrd core residueOk s
  | .vtwr core => Sys2Proof.Machine.execVtwr core s
  | .qmm core => Sys2Proof.Machine.execQmm core s
  | .qcvt core => Sys2Proof.Machine.execQcvt core s
  | .qdq core => Sys2Proof.Machine.execQdq core s
  | .mma core => Sys2Proof.Machine.execMma core s
  | .tclr core => Sys2Proof.Machine.execTclr core s
  | .tst core residueOk => Sys2Proof.Machine.execTst core residueOk s
  | .vld core => Sys2Proof.Machine.execVld core s
  | .vst core => Sys2Proof.Machine.execVst core s
  | .sld core => Sys2Proof.Machine.execSld core s
  | .sst core => Sys2Proof.Machine.execSst core s
  | .incpy core => Sys2Proof.Machine.execIncpy core s
  | .outcpy core => Sys2Proof.Machine.execOutcpy core s
  | .emb core => Sys2Proof.Machine.execEmb core s
  | .wopen core => Sys2Proof.Machine.execWopen core s
  | .wclose core => Sys2Proof.Machine.execWclose core s
  | .xch core => Sys2Proof.Machine.execXch core s
  | .acto core => Sys2Proof.Machine.execActo core s
  | .acti core => Sys2Proof.Machine.execActi core s
  | .grad core => Sys2Proof.Machine.execGrad core s
  | .scrz core => Sys2Proof.Machine.execScrz core s
  | .br core => Sys2Proof.Machine.execBr core s
  | .jmp core => Sys2Proof.Machine.execJmp core s
  | .loop core => Sys2Proof.Machine.execLoop core s
  | .halt core => Sys2Proof.Machine.execHalt core s
  | .bar core => Sys2Proof.Machine.execBar core s
  | .rxwin core => Sys2Proof.Machine.execRxwin core s
  | .trap core => Sys2Proof.Machine.execTrap core s
  | .nop core => Sys2Proof.Machine.execNop core s
  | .flashReadDone lpage retries soft ok => Sys2Proof.Machine.execFlashReadDone lpage retries soft ok s
  | .flashProgramDone stream at_ units ok => Sys2Proof.Machine.execFlashProgramDone stream at_ units ok s
  | .superblockVerify stream bad => Sys2Proof.Machine.execSuperblockVerify stream bad s
  | .flashEraseDone block ok => Sys2Proof.Machine.execFlashEraseDone block ok s
  | .gcTrigger lun => Sys2Proof.Machine.execGcTrigger lun s
  | .checkpointTimer => Sys2Proof.Machine.execCheckpointTimer s
  | .ageTick => Sys2Proof.Machine.execAgeTick s
  | .lunTempSample lun temp => Sys2Proof.Machine.execLunTempSample lun temp s
  | .refreshDue bank time busy => Sys2Proof.Machine.execRefreshDue bank time busy s
  | .scrubDue a burst cls redo => Sys2Proof.Machine.execScrubDue a burst cls redo s
  | .stackThermalReading stack dies => Sys2Proof.Machine.execStackThermalReading stack dies s
  | .hotBandExit stack => Sys2Proof.Machine.execHotBandExit stack s
  | .stackTimerCrosscheck stack periods ticks => Sys2Proof.Machine.execStackTimerCrosscheck stack periods ticks s
  | .scanGovernorTick stack demand => Sys2Proof.Machine.execScanGovernorTick stack demand s
  | .viaRemap chan via => Sys2Proof.Machine.execViaRemap chan via s
  | .channelFail chan cause => Sys2Proof.Machine.execChannelFail chan cause s
  | .channelRebuildDone chan => Sys2Proof.Machine.execChannelRebuildDone chan s
  | .rowRepair chan bank row => Sys2Proof.Machine.execRowRepair chan bank row s
  | .graphRebuildDone coll shard edges entry => Sys2Proof.Machine.execGraphRebuildDone coll shard edges entry s
  | .upkeepBuildDone coll shard list => Sys2Proof.Machine.execUpkeepBuildDone coll shard list s
  | .filterPlacementDone coll shard fslot bitmap status => Sys2Proof.Machine.execFilterPlacementDone coll shard fslot bitmap status s
  | .rollingTest cls unit ok last => Sys2Proof.Machine.execRollingTest cls unit ok last s
  | .watchdogExpiry cls unit waited outside ops => Sys2Proof.Machine.execWatchdogExpiry cls unit waited outside ops s
  | .invalidCodeword cls unit ops => Sys2Proof.Machine.execInvalidCodeword cls unit ops s
  | .safetyReaction mech cls unit reaction ops detail => Sys2Proof.Machine.execSafetyReaction mech cls unit reaction ops detail s
  | .lockstepMismatch => Sys2Proof.Machine.execLockstepMismatch s
  | .faultNRelease => Sys2Proof.Machine.execFaultNRelease s
  | .freezeNFall => Sys2Proof.Machine.execFreezeNFall s
  | .freezeNRise => Sys2Proof.Machine.execFreezeNRise s
  | .freeze => Sys2Proof.Machine.execFreeze s
  | .resume => Sys2Proof.Machine.execResume s
  | .dbgRead addr => Sys2Proof.Machine.execDbgRead addr s
  | .dbgStatus => Sys2Proof.Machine.execDbgStatus s
  | .idcode => Sys2Proof.Machine.execIdcode s
  | .extest value => Sys2Proof.Machine.execExtest value s
  | .samplePreload value => Sys2Proof.Machine.execSamplePreload value s
  | .bypass => Sys2Proof.Machine.execBypass s
  | .pwrOkRise => Sys2Proof.Machine.execPwrOkRise s
  | .pwrOkFall => Sys2Proof.Machine.execPwrOkFall s
  | .resetNFall => Sys2Proof.Machine.execResetNFall s
  | .resetNRise compatG1 cfgSel => Sys2Proof.Machine.execResetNRise compatG1 cfgSel s
  | .pwrFailNFall => Sys2Proof.Machine.execPwrFailNFall s
  | .pwrFailNRise => Sys2Proof.Machine.execPwrFailNRise s
  | .flushDone => Sys2Proof.Machine.execFlushDone s
  | .undervoltage => Sys2Proof.Machine.execUndervoltage s
  | .railsOff => Sys2Proof.Machine.execRailsOff s
  | .powerLimiterSample avgW vin => Sys2Proof.Machine.execPowerLimiterSample avgW vin s
  | .dieThermalReading temp => Sys2Proof.Machine.execDieThermalReading temp s
  | .i3cEntdaa addr => Sys2Proof.Machine.execI3cEntdaa addr s
  | .i3cRead => Sys2Proof.Machine.execI3cRead s
  | .pufDeriveDone flipped ok => Sys2Proof.Machine.execPufDeriveDone flipped ok s
  | .imageVerifyDone device r => Sys2Proof.Machine.execImageVerifyDone device r s
  | .stackTrainingDone failed vias rows => Sys2Proof.Machine.execStackTrainingDone failed vias rows s
  | .flashInitDone luns chans offline => Sys2Proof.Machine.execFlashInitDone luns chans offline s
  | .mapReplayDone mem => Sys2Proof.Machine.execMapReplayDone mem s
  | .catchUpDone c log mem => Sys2Proof.Machine.execCatchUpDone c log mem s
  | .amendWrite raw slot => Sys2Proof.Machine.execAmendWrite raw slot s
  | .amendModelLoad raw slot => Sys2Proof.Machine.execAmendModelLoad raw slot s
  | .amendImageStore raw slot stored => Sys2Proof.Machine.execAmendImageStore raw slot stored s
  | .amendLinkTrain raw slot => Sys2Proof.Machine.execAmendLinkTrain raw slot s
  | .amendTallyClear raw slot => Sys2Proof.Machine.execAmendTallyClear raw slot s
  | .amendLogAppend raw prog mem src => Sys2Proof.Machine.execAmendLogAppend raw prog mem src s
  | .amendAppendAck seq bad done src => Sys2Proof.Machine.execAmendAppendAck seq bad done src s
  | .railsGood => Sys2Proof.Machine.execRailsGood s
  | .spanZeroingDone range => Sys2Proof.Machine.execSpanZeroingDone range s
  | .tableLoadFinished info => Sys2Proof.Machine.execTableLoadFinished info s

end Sys2Proof.Machine
end

