-- ==== Sys2Proof/Machine/Step.lean ====
section
/-! DEFINITION. One step: the command at the front of the queue, or, with none waiting, the oldest host request that a
freeze held. -/

namespace Sys2Proof.Machine

open Sys2Proof

/-- The queue is empty (assumption 34): a node that is not frozen serves the oldest request that a freeze held, as it
would have been served without the freeze (R402), and a node without one idles (assumption 48). -/
def serveHeld (s : State) : Host.Outcome State Fault Refusal :=
  if s.frozen then .next s
  else match s.held with
    | [] => .next s
    | c :: rest =>
      match exec c { s with held := [] } with
      | .next t => .next { t with held := rest ++ t.held }
      | o => o

/-- One step of the node: the command at the front of its queue runs with the queue's rest. -/
def step (s : State) : Host.Outcome State Fault Refusal :=
  match s.pending with
  | c :: rest => exec c { s with pending := rest }
  | [] => serveHeld s

/-- The state with the command that a word spells put at the front of its queue. -/
def State.withFetchWord (s : State) (nbits w : Nat) : State :=
  match decodeTableWord nbits w with
  | some c => { s with pending := c :: s.pending }
  | none => s

end Sys2Proof.Machine
end

