-- ==== Sys2Proof/Safety.lean ====
section
/-! DEFINITION. What a safe run is, in the terms that claims use: when a command acts, what a node holds, and the conditions
under which an engine's command is the one that runs next. -/

namespace Sys2Proof.Machine

open Sys2Proof

/-! ### When commands act -/

/-- When a command acts: a host's request, held by a freeze; an event of the node's own engines, links and timers, which no
frozen node has; an event that a freeze does not stop (R402, R403); an event that can put the node into reset (R405, R446). -/
inductive Acts where
  | host | engine | always | power
  deriving DecidableEq, Repr

/-- When each command acts. -/
def actsWhen (c : Instr) : Acts :=
  match c with
  | .iringTailWrite .. | .sringHeadWrite .. | .syncAdd .. | .syncTake .. | .syncSet .. | .syncRead .. | .syncWait ..
  | .syncCancel .. | .syncBadOp .. | .syncCtlWrite .. | .homeHintWrite .. | .pageIn .. | .pageOut ..
  | .cfgStageSubmit .. | .secReportRequest .. | .tallyClearWrite .. | .msixTableWrite .. | .partEvtCfgWrite ..
  | .registerWrite .. | .hdmDecoderCommit .. | .functionLevelReset .. | .hostMemrdShared .. | .hostMemrdAny ..
  | .hostMemrdUncached .. | .hostMemwrHeld .. | .hostMemwrInvalidating .. | .ideKeySet .. | .getVersion ..
  | .getCapabilities .. | .negotiateAlgorithms .. | .getDigests .. | .getCertificate .. | .challenge ..
  | .getMeasurements .. | .keyExchange .. | .finish .. | .spdmHeartbeat .. | .keyUpdate .. | .endSession ..
  | .spdmUnsupported .. => .host
  | .descriptorFetch .. | .malformedUnit .. | .query .. | .filterLoad .. | .filterRetire .. | .insert .. | .delete ..
  | .replace .. | .recordRead .. | .embLookup .. | .embUpdate .. | .embTableLoad .. | .embTableSave .. | .encRun ..
  | .shmPublish .. | .shmFlush .. | .shmStageReset .. | .swapDmaDone .. | .bisnpResponse .. | .biTimeout ..
  | .cxlLinkDown .. | .cxlLinkUp .. | .switchPortDown .. | .ideIntegrityFail .. | .admissionWindowExpiry ..
  | .stepClose .. | .sendStepDone .. | .stepDone .. | .rootSendCommit .. | .stepCommit .. | .stepWaitTimeout ..
  | .heartbeatTimer .. | .heartbeat .. | .suspicionTimeout .. | .suspect .. | .clear .. | .membTimeout ..
  | .quorumAbandon .. | .exclude .. | .isolationTimeout .. | .joinReq .. | .joinRetryTimeout .. | .joinGrant ..
  | .formationWaitExpiry .. | .queryDist .. | .announce .. | .release .. | .notice .. | .confirm ..
  | .routingComplete .. | .nbuThresh .. | .nbuGather .. | .nbuApply .. | .nbuCopy .. | .nbuTest ..
  | .chainStookDelivery .. | .fallbackPassDone .. | .gleanRecordArrival .. | .transit .. | .sheafFlushReadDone ..
  | .stook .. | .stookReq .. | .stage .. | .digest .. | .stageAck .. | .outcome .. | .credit .. | .gradStage ..
  | .entries .. | .partials .. | .loadReport .. | .directory .. | .rowMove .. | .rowDigest .. | .rds .. | .rdo ..
  | .upg .. | .wbm .. | .evs .. | .invWrite .. | .cas .. | .snpdata .. | .snpinv .. | .cohRspData .. | .grant ..
  | .snpRsp .. | .casRsp .. | .cohDone .. | .holdExpiry .. | .granuleFillDone .. | .writebackTimer ..
  | .publishSealDone .. | .lostLog .. | .reset .. | .resetConfirm .. | .actRecord .. | .activation .. | .actOutput ..
  | .bulkRecordRead .. | .bulkRecordReply .. | .indexPage .. | .filterBits .. | .chunks .. | .weights .. | .e2eAck ..
  | .e2eNak .. | .e2eAckTimer .. | .flitData .. | .flitNak .. | .flitInit .. | .flitIdle .. | .replayTimeout ..
  | .fastRetrainStart .. | .fastRetrainDone .. | .linkTrainingDone .. | .freezePatternRx .. | .gateEntryExpiry ..
  | .encRecordDispatch .. | .loftFillDone .. | .streamTransferDone .. | .firstPassDone .. | .li .. | .add ..
  | .addi .. | .sub .. | .mul .. | .and .. | .or .. | .xor .. | .shl .. | .shr .. | .sra .. | .slt .. | .sltu ..
  | .min .. | .max .. | .mfs .. | .fadd .. | .fmul .. | .fdiv .. | .itof .. | .ftoi .. | .qpar .. | .qstat ..
  | .vadd .. | .vsub .. | .vmul .. | .vfma .. | .vmax .. | .vmin .. | .vexp .. | .vrcp .. | .vrsqrt .. | .vsplat ..
  | .vcmp .. | .vsel .. | .vcvt .. | .vrsum .. | .vrmax .. | .vrmin .. | .vtrd .. | .vtwr .. | .qmm .. | .qcvt ..
  | .qdq .. | .mma .. | .tclr .. | .tst .. | .vld .. | .vst .. | .sld .. | .sst .. | .incpy .. | .outcpy .. | .emb ..
  | .wopen .. | .wclose .. | .xch .. | .acto .. | .acti .. | .grad .. | .scrz .. | .br .. | .jmp .. | .loop ..
  | .halt .. | .bar .. | .rxwin .. | .trap .. | .nop .. | .flashReadDone .. | .flashProgramDone ..
  | .superblockVerify .. | .flashEraseDone .. | .gcTrigger .. | .checkpointTimer .. | .ageTick .. | .lunTempSample ..
  | .scrubDue .. | .stackTimerCrosscheck .. | .scanGovernorTick .. | .viaRemap .. | .channelFail ..
  | .channelRebuildDone .. | .rowRepair .. | .graphRebuildDone .. | .upkeepBuildDone .. | .filterPlacementDone ..
  | .rollingTest .. | .watchdogExpiry .. | .invalidCodeword .. | .safetyReaction .. | .lockstepMismatch ..
  | .faultNRelease .. | .powerLimiterSample .. | .pufDeriveDone .. | .imageVerifyDone .. | .stackTrainingDone ..
  | .flashInitDone .. | .mapReplayDone .. | .catchUpDone .. | .amendWrite .. | .amendModelLoad ..
  | .amendImageStore .. | .amendLinkTrain .. | .amendTallyClear .. | .amendLogAppend .. | .amendAppendAck ..
  | .spanZeroingDone .. | .tableLoadFinished .. => .engine
  | .cxlPerst .. | .creditRefillTick .. | .refreshDue .. | .hotBandExit .. | .freezeNFall .. | .freezeNRise ..
  | .freeze .. | .resume .. | .dbgRead .. | .dbgStatus .. | .idcode .. | .extest .. | .samplePreload .. | .bypass ..
  | .pwrOkRise .. | .pwrOkFall .. | .pwrFailNFall .. | .pwrFailNRise .. | .undervoltage .. | .i3cEntdaa ..
  | .i3cRead .. => .always
  | .stackThermalReading .. | .resetNFall .. | .resetNRise .. | .flushDone .. | .railsOff .. | .dieThermalReading ..
  | .railsGood .. => .power

/-- The node is awake and not frozen: its engines run. -/
abbrev Runs (s : State) : Prop := s.awake = true ∧ s.frozen = false

/-- The node runs and no request of a freeze is left: it serves a host's request at once. -/
abbrev Takes (s : State) : Prop := Runs s ∧ s.held = []

/-- What a node holds (R402): requests of hosts only, and none while it is not awake. -/
abbrev HeldInv (s : State) : Prop := (∀ c ∈ s.held, actsWhen c = .host) ∧ (s.awake = false → s.held = [])

/-- A node's requests are held, in arrival order: the state of a frozen node after the commands cs. -/
def State.holding (s : State) (cs : List Instr) : State := { s with held := s.held ++ cs }

/-- n steps of the node, up to the first that stops. -/
def steps : Nat → State → Host.Outcome State Fault Refusal
  | 0, s => .next s
  | n + 1, s => match step s with
    | .next t => steps n t
    | o => o

/-! ### Numbers -/

/-- r is num / den rounded to the nearest integer, ties to even, for a positive den. -/
def NearestEven (r num den : Int) : Prop := 2 * (r * den - num).natAbs ≤ den.natAbs ∧ (2 * (r * den - num).natAbs = den.natAbs → r % 2 = 0)

/-! ### Requests of hosts -/

/-- The host is bound here with its requests taken, as a host of partition p (R327, R328). -/
abbrev Bound (s : State) (h : HostReq) (p : Nat) : Prop := s.admitHost h = .inl p

/-- The host may use its function's configuration here: it is bound to this node and not in a reset (R328, R341). -/
abbrev Configures (s : State) (h : HostReq) : Prop :=
  ∃ i, s.bindOf h.pid = some i ∧ s.get (Reg.CXP_BIND_ENTRY_NODE i) = s.me ∧ (s.ctx h.pid).resetStep = none

/-! ### Descriptors -/

/-- The shaper's pick is ring n of partition p, its head h is a well-formed descriptor of operation `op` that no check completes
at once, and dlv is the slot its completion takes (R373, R471). -/
structure Served (s : State) (op p n : Nat) (h : Head) (dlv : Delivery) : Prop where
  pick : s.pick = some (p, n)
  head : s.head? p n = some h
  isOp : isOp op h.data = true
  sound : s.headVerdict p n h.data = none
  slot : (s.takeHead p n h).2.dlv = some dlv

/-! ### Bundles of the encoder's cores -/

/-- The core that a slot of its bundle names: the commands that run one slot (R236, R252). -/
def slotCore (c : Instr) : Option Nat :=
  match c with
  | .li k | .add k | .addi k | .sub k | .mul k | .and k | .or k | .xor k | .shl k | .shr k | .sra k | .slt k
  | .sltu k | .min k | .max k | .mfs k | .fadd k | .fmul k | .fdiv k | .itof k | .ftoi k | .qpar k | .qstat k
  | .vadd k | .vsub k | .vmul k | .vfma k | .vmax k | .vmin k | .vexp k | .vrcp k | .vrsqrt k | .vsplat k | .vcmp k
  | .vsel k | .vcvt k | .vrsum k | .vrmax k | .vrmin k | .vtrd k .. | .vtwr k | .qmm k | .qcvt k | .qdq k | .mma k
  | .tclr k | .tst k .. | .vld k | .vst k | .sld k | .sst k | .incpy k | .outcpy k | .emb k | .wopen k | .wclose k
  | .xch k | .acto k | .acti k | .grad k | .scrz k | .br k | .jmp k | .loop k | .halt k | .bar k | .rxwin k | .trap k
  | .nop k => some k
  | _ => none

/-- What slot i of bundle b sees. -/
def State.slotView (s : State) (c : Nat) (r : EncRun) (b i : Nat) : SlotCtx :=
  { c := c, r := r, n := s.core c, x := slotBits b i, free := Config.freeValue s.freeCtr }

/-- Core c is about to run slot i of bundle b of its record r, an operation `op` of a kind (R238, R252): the cluster holds the
record, the core goes on, the bundle is well formed, and the slot waits for nothing. -/
structure SlotReady (s : State) (c kind op : Nat) (r : EncRun) (b i : Nat) : Prop where
  run : tfind s.enc.runs (c / 8) = some r
  goes : ((s.core c).halted || (s.core c).atBar || s.coreIso c) = false
  bundle : (s.modelMem r.r.model).prog[(s.core c).pc]? = some b
  formed : bundleOk b = true
  next : nextSlot b (s.core c).slot = some i
  ofKind : slotKind i = kind
  ofOp : opOf (slotBits b i) = op
  ready : s.slotWaits (s.slotView c r b i) kind = false

/-- The core after a slot with result x, before its bundle ends: the writes and the causes wait for the end (R238). -/
def NCore.slotDone (n : NCore) (i : Nat) (x : SlotRes) : NCore :=
  { n with slot := i + 1, pend := n.pend ++ (if x.1.isEmpty then x.2 else []).map (fun w => (i, w)), exc := (n.exc.toList ++ x.1).min? }

/-- The state after slot i of bundle b with result x: with a later valid slot the core waits for it; with none the bundle
ends. -/
def State.slotTaken (s : State) (c b i : Nat) (x : SlotRes) : State :=
  let t : State := { s with freeCtr := s.freeCtr + 1 }
  match nextSlot b (i + 1) with
  | some _ => (t.modCore c (fun _ => (s.core c).slotDone i x)).showCluster (c / 8)
  | none => t.endBundle c ((s.core c).slotDone i x)

/-- A slot command runs its slot as `body` says: whenever core c of a running node is about to run a slot of that operation, the
command answers the state with the slot taken. -/
def SlotRuns (cmd : Nat → Instr) (kind op : Nat) (body : State → SlotCtx → SlotRes) : Prop :=
  ∀ (c : Nat) (r : EncRun) (b i : Nat) (s : State), Runs s → SlotReady s c kind op r b i →
    exec (cmd c) s = .next (s.keep (s.slotTaken c b i (body s (s.slotView c r b i))))

end Sys2Proof.Machine
end

