-- ==== Sys2Proof/Certificates/Slice0/Obligations.lean ====
section
/-! DEFINITION. The statements for the provers. A state with keep, s.keep t, is t with the queue, the requests held and the
power of s: what no command but a reset touches. Runs s says that the node is awake and not frozen, Takes s that it also has
no held request left. -/

open Sys2Proof Sys2Proof.Machine

/-- Closing, reporting and committing a step: what each event of the agreement makes of a running node. On a node that is
awake and not frozen, with the condition of each rule met: STEP_CLOSE of the open step or a later one is forwarded to the
children and opens the next step; at the acting root ADMISSION_WINDOW_EXPIRY closes the open step and opens the next;
SEND_STEP_DONE sends the report to the parent once; STEP_DONE is kept; STEP_WAIT_TIMEOUT sets STALL_WAIT and changes
nothing else; STEP_COMMIT of the next step commits it; the acting root sends STEP_COMMIT along the tree and commits. (R27,
R28, R29, R30, R32, R56) -/
def Obligations.StepAgreementRuns : Prop :=
  (∀ (m : StepMsg) (src : Nat) (s : State), Runs s → s.stepBad m = false → s.isMember s.me = true → s.openStep ≤ m.step →
      exec (.stepClose m src) s = .next (s.keep ((s.floodStep (some src) (.stepClose m s.me)).openNext (m.step + 1)))) ∧
  (∀ s : State, Runs s → s.actsRoot = true → s.openStep = s.get Reg.STEP_COMMITTED + 1 →
      s.stp.closeTick + s.get Reg.STEP_WINDOW ≤ s.now →
      exec .admissionWindowExpiry s =
        .next (s.keep ((s.floodStep none (.stepClose (s.ahead.stepMsg s.openStep 0xFFFF 0 0) s.me)).openNext (s.openStep + 1)))) ∧
  (∀ (v u s : State) (p t : Nat), Runs s → u = s.checkHolds → t = u.get Reg.STEP_COMMITTED + 1 → u.stepParent = some p →
      u.actsRoot = false → u.isMember u.me = true → u.stepDone t = true → u.flag Reg.STEP_STATUS_SELF_ISOLATED = false →
      ¬ (u.stp.doneSent = t ∧ u.stp.doneTo = some p) →
      v = u.modStp (fun k => { k with doneSent := t, doneTo := some p, doneTick := u.now }) →
      exec .sendStepDone s = .next (s.keep (v.sendStep p (.stepDone (v.ahead.stepMsg t 0xFFFF (v.subtree t) 0) v.me)))) ∧
  (∀ (m : StepMsg) (src : Nat) (s : State), Runs s → s.stepBad m = false → s.get Reg.STEP_COMMITTED < m.step →
      exec (.stepDone m src) s = .next { s with stp := { s.stp with
        doneFrom := (m.step, src, m.count) :: s.stp.doneFrom.filter (fun d => decide (¬ (d.1 = m.step ∧ d.2.1 = src))) } }) ∧
  (∀ s : State, Runs s → s.stp.doneSent = s.get Reg.STEP_COMMITTED + 1 → s.stp.doneTo.isSome = true →
      s.stp.doneTick + tAGR < s.now → exec .stepWaitTimeout s = .next (s.setB Reg.STEP_STATUS_STALL_WAIT true)) ∧
  (∀ (m : StepMsg) (far : List (OpId × Nat × Nat)) (src : Nat) (s : State), Runs s → s.stepBad m = false →
      s.isMember s.me = true → m.step = s.get Reg.STEP_COMMITTED + 1 → ¬ (m.flags % 2 = 1 ∧ m.subject = s.me) →
      exec (.stepCommit m far src) s = .next (s.keep (s.commitStep m far (some src)))) ∧
  (∀ (u s : State) (m : StepMsg) (far : List (OpId × Nat × Nat)) (t : Nat), Runs s → u = s.checkHolds →
      t = u.get Reg.STEP_COMMITTED + 1 → u.actsRoot = true → u.stepDone t = true → m = u.commitMsg t →
      exec (.rootSendCommit far) s = .next (s.keep
        ((u.sendEach 0 0 0 32 (.stepCommit m [] u.me) ((u.granted t).filter (fun n => decide (n ≠ u.me)))).commitStep m far none)))

/-- Heartbeats, suspicion and isolation: what each timer and message makes of a running node. On a node that is awake and
not frozen, with the condition of each rule met: HEARTBEAT_TIMER sends a HEARTBEAT on every link that is up and records
its tick; SUSPICION_TIMEOUT suspects the silent neighbour, counts it and tells the coordinator, or stands by itself where
the node is the coordinator; SUSPECT is kept at the coordinator; CLEAR ends the standing suspicion there; MEMB_TIMEOUT
sends EXCLUDE to the root; QUORUM_ABANDON counts, sends CLEAR to every suspecting neighbour and drops their suspicions;
ISOLATION_TIMEOUT sets SELF_ISOLATED; JOIN_RETRY_TIMEOUT asks again. (R43, R44, R45, R46, R47, R48, R52) -/
def Obligations.SilenceAndSuspicionRuns : Prop :=
  (∀ u s : State, Runs s → s.stp.hbTick + tHB ≤ s.now → u = { s with stp := { s.stp with hbTick := s.now } } →
      exec .heartbeatTimer s = .next (s.keep (((List.range 8).filter u.linkUp).foldl
        (fun t l => t.emit (.send l (t.peer l) (.cmd (.heartbeat (t.stepMsg t.openStep 0xFFFF 0 0) t.me)))) u))) ∧
  (∀ (y : Nat) (u s : State), Runs s → s.suspected y = false → s.linksTo y ≠ [] → tSUS ≤ s.silence y →
      u = (s.setSuspect y true).tallyN .MEMB_SUSPECTS →
      (u.coordinator y = some u.me → exec (.suspicionTimeout y) s = .next (s.keep u)) ∧
      (∀ c, u.coordinator y = some c → c ≠ u.me → exec (.suspicionTimeout y) s =
        .next (s.keep (u.sendStep c (.suspect (u.stepMsg u.openStep y (u.silence y) 0) u.me))))) ∧
  (∀ (m : StepMsg) (src : Nat) (s : State), Runs s → s.stepBad m = false →
      exec (.suspect m src) s = .next { s with stp := { s.stp with
        suspects := s.stp.suspects.filter (fun x => decide (¬ (x.subject = m.subject ∧ x.by_ = src))) ++
          [{ subject := m.subject, by_ := src, count := m.count, at_ := s.now }] } }) ∧
  (∀ (m : StepMsg) (src : Nat) (s : State), Runs s → s.stepBad m = false → s.coordinator m.subject = some s.me →
      exec (.clear m src) s = .next { s with stp := { s.stp with
        suspects := s.stp.suspects.filter (fun x => decide (¬ (x.subject = m.subject ∧ x.by_ = src))) } }) ∧
  (∀ (y : Nat) (u s : State), Runs s → s.mayExclude y = true → y ≠ s.get Reg.STEP_ROLE_ROOT_ID →
      u = { s with stp := { s.stp with excludeSent := y :: s.stp.excludeSent } } →
      exec (.membTimeout y) s = .next (s.keep (u.sendStep (s.get Reg.STEP_ROLE_ROOT_ID) (.exclude (u.stepMsg u.openStep y 0 0) u.me)))) ∧
  (∀ (y : Nat) (u s : State), Runs s → s.mayAbandon y = true →
      u = (s.tallyN .MEMB_NO_QUORUM).sendEach 0 0 0 32 (.clear (s.stepMsg s.openStep y 0 0) s.me)
        ((s.stp.suspects.filter (fun x => decide (x.subject = y))).map (·.by_)) →
      exec (.quorumAbandon y) s = .next (s.keep
        (({ u with stp := { u.stp with suspects := u.stp.suspects.filter (fun x => decide (x.subject ≠ y)) } } : State).markSilent y))) ∧
  (∀ s : State, Runs s → s.isMember s.me = true → s.cutOff = true → tget [] s.ovl.neighbours s.me ≠ [] →
      exec .isolationTimeout s = .next (s.setB Reg.STEP_STATUS_SELF_ISOLATED true)) ∧
  (∀ (s : State) (t : Nat), Runs s → s.stp.joinTick = some t → t + tSUS ≤ s.now → s.flag Reg.STEP_STATUS_RECOVERING = true →
      exec .joinRetryTimeout s = .next (s.keep s.askJoin))

/-- Excluding, joining and forming: what each message makes of a running node. On a node that is awake and not frozen,
with the condition of each rule met: a member that is not the acting root awaits nothing more of the subject of EXCLUDE;
HEARTBEAT renews the sender's links and informs an isolated or recovering node; a forming candidate keeps a JOIN_REQ, and
a root grants one; FORMATION_WAIT_EXPIRY forms the structure; JOIN_GRANT at a member is kept and flooded on. (R43, R45,
R47, R48, R52, R430) -/
def Obligations.MembershipChangesRun : Prop :=
  (∀ (m : StepMsg) (src : Nat) (u s : State), Runs s → s.stepBad m = false → s.isMember m.subject = true → m.subject ≠ s.me →
      s.stp.excludes.contains m.subject = false → m.subject ≠ s.get Reg.STEP_ROLE_ROOT_ID → u = s.awaitNothing m.subject →
      u.actsRoot = false → exec (.exclude m src) s = .next (s.keep u)) ∧
  (∀ (m : StepMsg) (src : Nat) (u s : State), Runs s → s.stepBad m = false →
      u = (((s.linksTo src).foldl (fun t l => t.setLink l { t.link l with heard := t.now }) s).heardFrom src).learnEpoch m.epoch →
      (u.flag Reg.STEP_STATUS_RECOVERING = false → exec (.heartbeat m src) s = .next (s.keep u)) ∧
      (u.flag Reg.STEP_STATUS_RECOVERING = true → exec (.heartbeat m src) s = .next (s.keep (u.set Reg.STEP_ROLE_ROOT_ID m.root)))) ∧
  (∀ (m : StepMsg) (src : Nat) (u s : State), Runs s → m.crcOk = true → s.get Reg.STEP_EPOCH = 0 →
      u = { s with stp := { s.stp with asked := (m.subject, m.step) :: s.stp.asked.filter (fun a => decide (a.1 ≠ m.subject)),
                                       formTick := some (s.stp.formTick.getD s.now) } } →
      (u.mayForm false = false → exec (.joinReq m src) s = .next u) ∧
      (u.mayForm false = true → exec (.joinReq m src) s = .next (s.keep u.form))) ∧
  (∀ (m : StepMsg) (src : Nat) (s : State), Runs s → m.crcOk = true → s.get Reg.STEP_EPOCH ≠ 0 →
      s.flag Reg.STEP_ROLE_IS_ROOT = true → s.isMember m.subject = false → s.stp.joins.any (fun j => decide (j.1 = m.subject)) = false →
      exec (.joinReq m src) s = .next (s.keep (s.grantJoin m.subject))) ∧
  (∀ (s : State) (t : Nat), Runs s → s.stp.formTick = some t → t + second * s.get Reg.CFG_AMEND_CFG_FORM_WAIT_S ≤ s.now →
      s.mayForm true = true → exec .formationWaitExpiry s = .next (s.keep s.form)) ∧
  (∀ (m : StepMsg) (src : Nat) (u s : State), Runs s → s.stepBad m = false → s.get Reg.STEP_EPOCH ≠ 0 → m.epoch ≠ 1 →
      s.stp.joins.contains (m.subject, m.step) = false → s.isMember s.me = true →
      u = { s with stp := { s.stp with joins := (m.subject, m.step) :: s.stp.joins } } →
      exec (.joinGrant m src) s = .next (s.keep (u.flood 0 0 32 (some src) (.joinGrant m s.me))))

/-- Flits that arrive: what each kind makes of a running node. On a node that is awake and not frozen, for a flit that
decodes with n symbols corrected on a link that is trained: the corrections are counted in the link and in the node's
tally; on a link past INIT a FLIT_DATA is taken in sequence, a FLIT_NAK resends from the named number, and a FLIT_IDLE
carries its ACK and credits, each after the far node has been heard; a matching FLIT_INIT brings the link up, and one that
the image does not expect takes it down, is counted as miswired and sets MISWIRE_EVT. (R44, R350, R351, R354) -/
def Obligations.FlitReceptionRuns : Prop :=
  (∀ (l n : Nat) (raw : List Byte) (h : FlitHdr) (u s : State), Runs s → l < 8 → 3 ≤ s.get (Reg.OVL_LINK_STATE l) →
      s.get (Reg.OVL_LINK_STATE l) ≠ 5 → readFlit raw = some h →
      u = (s.stick (Reg.OVL_LINK_FEC_CORRECTED l) n).tallyN .OVL_FEC_CORRECTED n → u.get (Reg.OVL_LINK_STATE l) ≠ 2 →
      (h.kind = 1 → exec (.flitData l raw (some n)) s = .next (s.keep ((u.heardFrom (u.peer l)).rxData l h))) ∧
      (h.kind = 2 → exec (.flitNak l raw (some n)) s =
        .next (s.keep (((u.heardFrom (u.peer l)).takeFlit l h).replayFrom l h.seq))) ∧
      (h.kind = 0 → exec (.flitIdle l raw (some n)) s = .next (s.keep ((u.heardFrom (u.peer l)).takeFlit l h)))) ∧
  (∀ (l n : Nat) (raw rec_ : List Byte) (h : FlitHdr) (u s : State), Runs s → l < 8 → s.get (Reg.OVL_LINK_STATE l) = 2 →
      readFlit raw = some h → h.kind = 3 → rec_ = raw.drop 6 →
      u = (s.stick (Reg.OVL_LINK_FEC_CORRECTED l) n).tallyN .OVL_FEC_CORRECTED n → u.get (Reg.OVL_LINK_STATE l) = 2 →
      (tfind u.ovl.expected l = some (leNat rec_ 0 2 % 4096, leNat rec_ 2 1) → leNat rec_ 8 8 = u.get Reg.OVL_TOPO_DIGEST →
        exec (.flitInit l raw (some n)) s = .next (s.keep ((u.linkBringUp l rec_).learnEpoch (leNat rec_ 4 4)).settleLinks)) ∧
      (leNat rec_ 8 8 ≠ u.get Reg.OVL_TOPO_DIGEST →
        exec (.flitInit l raw (some n)) s = .next (s.keep
          (((u.set (Reg.OVL_LINK_STATE l) 0).tallyN .OVL_MISWIRED).setB Reg.OVL_STATUS_MISWIRE_EVT true).faultEvent.settleLinks)))

/-- Replay, retraining and end-to-end acknowledgement: what each event makes of a running node. On a node that is awake
and not frozen, with the condition of each rule met: LINK_TRAINING_DONE starts INIT exchange at four lanes, at two with
DEGRADE_EVT, and takes the link down with fewer; REPLAY_TIMEOUT resends from the oldest unacknowledged flit;
FAST_RETRAIN_START puts the link in retraining and counts, or fails it past RETRAIN_MAX; FAST_RETRAIN_DONE brings it up
again with its numbers; FREEZE_PATTERN_RX marks the far node frozen and changes nothing else; E2E_NAK sends the named
message whole again; E2E_ACK ends the messages it covers and releases the merge buffers whose outputs it covers;
E2E_ACK_TIMER acknowledges a stream that is due, as far as its forwarded copies allow. (R349, R351, R352, R353, R360,
R361) -/
def Obligations.LinkTimersRun : Prop :=
  (∀ (l : Nat) (s : State), Runs s → l < 8 → s.get (Reg.OVL_LINK_STATE l) = 1 →
      (∀ t : State, t = (s.set (Reg.OVL_LINK_STATE l) 2).set (Reg.OVL_LINK_WIDTH l) 4 →
        exec (.linkTrainingDone l 4) s =
          .next (t.emit (.init l 4 (t.get Reg.STEP_EPOCH) (t.flag Reg.STEP_STATUS_RECOVERING)))) ∧
      (∀ t : State, t = (((s.set (Reg.OVL_LINK_STATE l) 2).set (Reg.OVL_LINK_WIDTH l) 2).setB Reg.OVL_STATUS_DEGRADE_EVT true).faultEvent →
        exec (.linkTrainingDone l 2) s =
          .next (s.keep (t.emit (.init l 2 (t.get Reg.STEP_EPOCH) (t.flag Reg.STEP_STATUS_RECOVERING))))) ∧
      (∀ n, n ≠ 4 → n ≠ 2 → exec (.linkTrainingDone l n) s = .next (s.keep (s.set (Reg.OVL_LINK_STATE l) 0).settleLinks))) ∧
  (∀ (l : Nat) (f : SentFlit) (fs : List SentFlit) (s : State), Runs s → (s.link l).replay = f :: fs → s.linkUp l = true →
      (s.link l).ackTick + tACK ≤ s.now → exec (.replayTimeout l) s = .next (s.keep (s.replayFrom l f.seq))) ∧
  (∀ (l before : Nat) (s : State), Runs s → s.linkUp l = true → s.mustRetrain l = true →
      before = (if s.now < (s.link l).retrainEnd + cleanRun then (s.link l).retrains else 0) →
      (s.get Reg.OVL_CFG_RETRAIN_MAX ≤ before → exec (.fastRetrainStart l) s = .next (s.keep (s.failLink l))) ∧
      (before < s.get Reg.OVL_CFG_RETRAIN_MAX → exec (.fastRetrainStart l) s = .next (s.keep
        ((((s.setLink l { s.link l with retrains := before + 1, replayed := none, uncorr := (0, s.now) }).set
          (Reg.OVL_LINK_STATE l) 4).stick (Reg.OVL_LINK_RETRAINS l) 1).tallyN .OVL_RETRAINS)))) ∧
  (∀ (l : Nat) (s : State), Runs s → s.get (Reg.OVL_LINK_STATE l) = 4 →
      exec (.fastRetrainDone l) s = .next (s.keep
        (((s.setLink l { s.link l with retrainEnd := s.now, ackTick := s.now }).set (Reg.OVL_LINK_STATE l) 3).pumpLink l))) ∧
  (∀ (l : Nat) (s : State), Runs s → l < 8 → s.get (Reg.OVL_LINK_STATE l) = 3 ∨ s.get (Reg.OVL_LINK_STATE l) = 7 →
      exec (.freezePatternRx l) s = .next (s.set (Reg.OVL_LINK_STATE l) 6)) ∧
  (∀ (src cls route seq : Nat) (m : Msg) (s : State), Runs s →
      s.ovl.msgs.find? (fun m => decide (m.dst = src ∧ m.cls = cls ∧ m.route = route ∧ m.seq = seq ∧ m.seq ≠ 0)) = some m →
      exec (.e2eNak src cls route seq) s = .next (s.keep (((s.modOvl fun o => { o with
        msgs := lmod (fun x => decide (x.num = m.num)) (fun x => { x with resent := x.resent + 1 }) o.msgs }).tallyN .OVL_E2E_RESENDS).startMsg m))) ∧
  (∀ (src cls route seq : Nat) (hit : Msg → Bool) (merge : Msg → Option OpId) (s : State), Runs s →
      hit = (fun m => decide (m.dst = src ∧ m.cls = cls ∧ m.route = route ∧ m.seq ≠ 0 ∧ m.seq ≤ seq) && !m.acked) →
      merge = (fun m => match m.cargo with | .cmd (.transit id _ sh _ _) => (if sh.rerun.isNone then some id else none) | _ => none) →
      exec (.e2eAck src cls route seq) s = .next (s.keep
        ((((s.ovl.msgs.filter hit).filterMap merge).foldl State.releaseMerge (s.ackMsgs src cls route seq)).releaseDue))) ∧
  (∀ (key t n : Nat) (u s : State), Runs s → s.ovl.ackDue = [(key, t)] → t + 50 ≤ s.now → n = s.ackable key → n ≠ 0 →
      u = s.modOvl (fun o => { o with ackDue := if n = tget 0 o.rxSeq key then tdel o.ackDue key else tput o.ackDue key s.now }) →
      exec .e2eAckTimer s = .next (s.keep
        (u.sendAck (key % 4096) (.e2eAck u.me (key / 4096 % 32) (if key < 131072 then 0 else 1) n))))

/-- Doorbells, fetches and units that complete at once: what each makes of the rings. A tail doorbell within the ring
moves TAIL, a head write that returns written slots frees them and moves HEAD; bits [31:17] of either are counted as
reserved. A fetch of units that TAIL covers makes them the ring's head and moves HEAD, and a wrong CRC sets CRC_EVT and
its event. A unit of malformed length or with a reserved opcode is taken at its turn and completed with BAD_DESCRIPTOR.
(R87, R88, R92, R103, R471) -/
def Obligations.DescriptorRingsRun : Prop :=
  (∀ (h : HostReq) (p n value : Nat) (s : State), Takes s → Bound s h p → n < 16 → value < 2 ^ 17 →
      (doorbellOk (s.iringSize p n) (s.get (Reg.IRING_HEAD p n)) (s.get (Reg.IRING_TAIL p n)) value = true →
        exec (.iringTailWrite h p n value) s = .next (s.set (Reg.IRING_TAIL p n) value)) ∧
      (doorbellOk (s.iringSize p n) (s.get (Reg.IRING_HEAD p n)) (s.get (Reg.IRING_TAIL p n)) value = false →
        exec (.iringTailWrite h p n value) s = .next (s.keep (s.badDoorbell p)))) ∧
  (∀ (h : HostReq) (p n value d : Nat) (s : State), Takes s → Bound s h p → n < 16 → value < 2 ^ 17 → value < 2 * s.sringSize p n →
      d = ringDist value (s.get (Reg.SRING_HEAD p n)) (2 * s.sringSize p n) →
      d ≤ s.writtenRun p n (s.get (Reg.SRING_HEAD p n)) (s.sringSize p n) →
      exec (.sringHeadWrite h p n value) s = .next ((s.setWritten p n ((s.writtenOf p n).filter (fun i =>
        decide (d ≤ ringDist i (s.get (Reg.SRING_HEAD p n)) (2 * s.sringSize p n))))).set (Reg.SRING_HEAD p n) value)) ∧
  (∀ (p n : Nat) (data : List Byte) (u s : State), Runs s → 1 ≤ p → p ≤ 64 → s.iringOn p n = true → s.head? p n = none →
      data.length = 64 * fetchUnits data → fetchUnits data ≤ ringDist (s.get (Reg.IRING_TAIL p n)) (s.get (Reg.IRING_HEAD p n)) (2 * s.iringSize p n) →
      (s.ctx (s.iringOwner p n)).resetStep = none →
      u = (s.modHost fun k => { k with heads := tput k.heads (16 * p + n) { data := data, units := fetchUnits data } }).set
        (Reg.IRING_HEAD p n) ((s.get (Reg.IRING_HEAD p n) + fetchUnits data) % (2 * s.iringSize p n)) →
      (badLength data = true ∨ crcOk data 12 = true → exec (.descriptorFetch p n data) s = .next u) ∧
      (badLength data = false → crcOk data 12 = false →
        exec (.descriptorFetch p n data) s = .next (s.keep ((u.setB (Reg.INT_STATUS_CRC_EVT p) true).event p 6)))) ∧
  (∀ (p n v : Nat) (h : Head) (s : State), Runs s → s.pick = some (p, n) → s.head? p n = some h → s.headVerdict p n h.data = some v →
      badLength h.data = true ∨ knownOpcode (opcodeOf h.data) = false →
      exec .malformedUnit s = .next (s.keep ((s.takeHead p n h).1.completeTaken (s.takeHead p n h).2 v)))

/-- Admission of the operations that count as queries: what the shaper's pick of each becomes. For a pick that no check
completes at once, the descriptor is taken with the open step and the next sequence number and its completion slot
reserved. A vector-form QUERY is put in its forms and admitted; ENC_RUN becomes a job whose records join the backlog;
EMB_TABLE_SAVE becomes a look-up of rows; each starts at once where the step before its own is committed here, and waits
otherwise. (R31, R93, R94, R221, R471, R473) -/
def Obligations.AdmittedQueriesRun : Prop :=
  (∀ (p n : Nat) (h : Head) (dlv : Delivery) (t : Taken) (q : Query) (f : State × Query) (a : Admitted) (u s : State), Runs s →
      Served s 1 p n h dlv → rawForm h.data = false → t = (s.takeHead p n h).2 →
      u = (s.takeHead p n h).1.tallyP .QRY_ADMITTED t.part → q = u.queryOf t dlv →
      f = u.formQuery q q.qscale q.qzero ((h.data.drop 64).take ((u.cfgOf q.handle).dim * elemBytes (u.cfgOf q.handle).elem)) →
      a = { t.admitted dlv q.handle 0 true with query := some f.2 } →
      exec .query s = .next (s.keep (if t.id.step ≤ (f.1.admitOp a).get Reg.STEP_COMMITTED + 1 then (f.1.admitOp a).startQuery a else f.1.admitOp a))) ∧
  (∀ (p n : Nat) (h : Head) (dlv : Delivery) (t : Taken) (i : Nat) (started : Bool) (a : Admitted) (v u s : State), Runs s →
      Served s 0x2C p n h dlv → u = (s.takeHead p n h).1 → t = (s.takeHead p n h).2 →
      i = (u.modelEntry t.part (body h.data 0 4) t.id.step).getD 0 → started = decide (t.id.step ≤ u.get Reg.STEP_COMMITTED + 1) →
      a = { t.admitted dlv (body h.data 0 4) 0 true with items := body h.data 4 4, started := started } →
      v = ((u.admitOp a).modEnc fun e => { e with jobs := e.jobs ++ [{
        id := t.id, count := body h.data 4 4, src := body h.data 8 8, dst := body h.data 16 8, inStride := body h.data 24 4, outStride := body h.data 28 4, ok := 0, bad := 0, status := 0 }] }).admitRecords
        ((List.range (body h.data 4 4)).map (fun k => { id := t.id, pos := k, cls := 1, model := i, part := t.part })) →
      exec .encRun s = .next (s.keep (if started then v.announceOp t.id 0x2C else v))) ∧
  (∀ (p n : Nat) (h : Head) (dlv : Delivery) (t : Taken) (a : Admitted) (v u s : State), Runs s →
      Served s 0x23 p n h dlv → u = (s.takeHead p n h).1 → t = (s.takeHead p n h).2 →
      a = { t.admitted dlv (body h.data 0 2) 0 true with items := body h.data 8 8 } →
      v = (u.admitOp a).modEmb (fun e => { e with lookups := e.lookups ++ [{
        id := t.id, table := body h.data 0 2, dst := body h.data 16 8, save := true, first := body h.data 4 4, count := body h.data 8 8, bags := [], sums := [], await := [], fwd := 0, bad := 0 }] }) →
      exec .embTableSave s = .next (s.keep (if t.id.step ≤ v.get Reg.STEP_COMMITTED + 1 then v.startLookup a else v)))

/-- Admission of mutations and shared-space operations: what the shaper's pick of each becomes. For a pick that no check
completes at once: INSERT, DELETE and REPLACE are staged at every member that holds the record's shard, their staging
credit spent; RECORD_READ is admitted and read once the step before its own is committed; FILTER_LOAD and FILTER_RETIRE go
to every member; EMB_TABLE_LOAD is kept as a load not yet done; SHM_PUBLISH, SHM_FLUSH and SHM_STAGE_RESET are admitted
and start once the step before their own is committed. (R76, R79, R137, R140, R142, R290, R302, R315, R320, R471) -/
def Obligations.AdmittedMutationsRun : Prop :=
  (∀ (p n : Nat) (h : Head) (dlv : Delivery) (t : Taken) (u s : State), Runs s → u = (s.takeHead p n h).1 → t = (s.takeHead p n h).2 →
      (Served s 0x10 p n h dlv → exec .insert s = .next (s.keep (u.runMutation t dlv))) ∧
      (Served s 0x11 p n h dlv → exec .delete s = .next (s.keep (u.runMutation t dlv))) ∧
      (Served s 0x12 p n h dlv → exec .replace s = .next (s.keep (u.runMutation t dlv)))) ∧
  (∀ (p n : Nat) (h : Head) (dlv : Delivery) (t : Taken) (a : Admitted) (u s : State), Runs s → Served s 0x13 p n h dlv →
      t = (s.takeHead p n h).2 → a = t.admitted dlv (body h.data 0 2 % 4096) (body h.data 8 8) false →
      u = (s.takeHead p n h).1.admitOp a →
      exec .recordRead s = .next (s.keep (if t.id.step ≤ u.get Reg.STEP_COMMITTED + 1 then u.startRead a else u))) ∧
  (∀ (p n : Nat) (h : Head) (dlv : Delivery) (t : Taken) (u s : State), Runs s → u = (s.takeHead p n h).1 → t = (s.takeHead p n h).2 →
      (Served s 2 p n h dlv → exec .filterLoad s = .next (s.keep (u.runFilter t dlv))) ∧
      (Served s 3 p n h dlv → exec .filterRetire s = .next (s.keep (u.runFilter t dlv)))) ∧
  (∀ (p n : Nat) (h : Head) (dlv : Delivery) (t : Taken) (a : Admitted) (u s : State), Runs s → Served s 0x22 p n h dlv →
      u = (s.takeHead p n h).1 → t = (s.takeHead p n h).2 →
      a = { t.admitted dlv (body h.data 0 2) 0 false with items := body h.data 8 8, started := true } →
      exec .embTableLoad s = .next (s.keep ((u.admitOp a).modEmb fun e => { e with loads := e.loads ++ [{
        info := { id := t.id, table := body h.data 0 2, part := t.part, first := body h.data 4 4, count := body h.data 8 8, clear := bit (body h.data 2 1) 0 }, rows := [], done := false, due := t.id.step + u.get Reg.EMB_CFG_LOAD_LAG }] }))) ∧
  (∀ (p n : Nat) (h : Head) (dlv : Delivery) (t : Taken) (u s : State), Runs s → u = (s.takeHead p n h).1 → t = (s.takeHead p n h).2 →
      (Served s 0x30 p n h dlv → exec .shmPublish s = .next (s.keep (State.runShm (fun d => body d 2 2 + 2 ^ 32 * body d 8 8) u t dlv))) ∧
      (Served s 0x31 p n h dlv → exec .shmFlush s = .next (s.keep (State.runShm (fun d => body d 8 8 + 2 ^ 64 * body d 16 8) u t dlv))) ∧
      (Served s 0x32 p n h dlv → exec .shmStageReset s = .next (s.keep (State.runShm (fun _ => 0) u t dlv))))

/-- A query's routing, threshing and gleaning on a node: what each event makes of its work. On a node that is awake and
not frozen: QUERY_DIST floods on and the node takes its part; ROUTING_COMPLETE chooses the probe lists of a shard not yet
routed; a pass that is wanted and sound makes its stook; a delivered stook joins the pool; the shard's far holder answers
STOOK_REQ with its own stook, and a STOOK takes the failed pass's place; a sound fallback pass replaces the NBU's and
isolates it; a record that is gleaned from flash is scored, counted, cached and kept. (R94, R99, R115, R128, R156, R157,
R164) -/
def Obligations.QueryPassesRun : Prop :=
  (∀ (q : Query) (src : Nat) (s : State), Runs s →
      exec (.queryDist q src) s = .next (s.keep ((s.flood q.part 1 (s.distBytes q) (some src) (.queryDist q s.me)).beginQuery q))) ∧
  (∀ (id : OpId) (shard : Nat) (w : QWork) (x : ShardWork) (sh : Shard) (r : List Nat × Bool × Nat) (u s : State), Runs s → s.work? id = some w →
      w.shards.find? (fun x => decide (x.shard = shard)) = some x → s.shard? w.q.handle shard = some sh → x.routed = false →
      w.mergeRes ≠ none → s.get Reg.SAFE_UNITS_ROUTE_ISO ≠ 2 ^ 16 - 1 →
      r = sh.route (s.cfgAt w.q.id.step w.q.handle) w.q.id.step w.q.rform w.q.probes →
      u = (((s.tallyP .COLL_ROUTE_MAXEXP w.q.part (b2n r.2.1)).tallyP .COLL_TOMB_DEPTH w.q.part r.2.2).modShardWork id shard (fun y => { y with
        routed := true, passes := r.1.map (fun i => { list := i, stook := none, full := false, last := none, want := true, fallback := false, far := none }) })).grantPools →
      exec (.routingComplete id shard none) s = .next (s.keep ((u.winnow id shard).tryNodeSheaf id shard))) ∧
  (∀ (id : OpId) (shard list : Nat) (w : QWork) (sh : Shard) (p : ListPass) (l : LList) (s : State), Runs s →
      s.pass? id shard list = some (w, sh, p) → p.want = true → w.stookRes ≠ none → sh.at list w.q.id.step = some l →
      s.noUnit l (s.cfgOf w.q.handle).w w.q.id.step false = false → s.srch.lostBits.contains (w.q.handle, shard, list, w.q.fslot) = false →
      exec (.nbuThresh id shard list .none) s = .next (s.keep
        ((s.tallyN .NBU_FALLBACK_SEGMENTS (s.fallbackSegs l (s.cfgOf w.q.handle).w w.q.id.step)).modPass id shard list (fun p => { p with
          stook := some ((s.tallyN .NBU_FALLBACK_SEGMENTS (s.fallbackSegs l (s.cfgOf w.q.handle).w w.q.id.step)).passStook w.q sh list p.last), want := false })))) ∧
  (∀ (id : OpId) (shard list : Nat) (w : QWork) (sh : Shard) (p : ListPass) (st : List StookEntry) (u s : State), Runs s →
      s.pass? id shard list = some (w, sh, p) → p.stook = some st → p.fallback = false →
      u = (s.modShardWork id shard (fun x => { x with pool := x.pool ++ st })).modPass id shard list (fun p => { p with
        stook := none, full := decide (st.length = stookLen w.q), last := match st.getLast? with | some e => some (e.dist, e.pos) | none => p.last }) →
      exec (.chainStookDelivery id shard list none) s = .next (s.keep ((u.winnow id shard).tryNodeSheaf id shard))) ∧
  (∀ (id : OpId) (shard list src : Nat) (floor : Option (Nat × Nat)) (q : Query) (failed : Bool) (sh : Shard) (st : List StookEntry) (s : State), Runs s →
      s.shard? q.handle shard = some sh → st = s.passStook q sh list floor →
      exec (.stookReq id shard list floor src q failed) s = .next (s.keep (s.sendMsg q.part 2 0 src (24 + 16 * st.length)
        (.stook id shard list (if failed then none else some (st.map (fun e => (e.dist, e.slot, e.pos)))))))) ∧
  (∀ (id : OpId) (shard list : Nat) (w : QWork) (sh : Shard) (p : ListPass) (es : List (Nat × Nat × Nat)) (s : State), Runs s →
      s.pass? id shard list = some (w, sh, p) → p.far ≠ none →
      exec (.stook id shard list (some es)) s = .next (s.modPass id shard list (fun p => { p with
        far := none, stook := some (es.map (fun e => { dist := e.1, slot := e.2.1, list := list, pos := e.2.2 })) }))) ∧
  (∀ (id : OpId) (shard list bank : Nat) (w : QWork) (sh : Shard) (p : ListPass) (u s : State), Runs s →
      s.pass? id shard list = some (w, sh, p) → p.fallback = true → u = s.modPass id shard list (fun p => { p with fallback := false }) →
      exec (.fallbackPassDone id shard list bank true) s = .next (s.keep (u.showFallback.react 8 .nbu bank 0 0 list))) ∧
  (∀ (id : OpId) (shard slot : Nat) (w : QWork) (x : ShardWork) (sh : Shard) (cs : List StookEntry) (e : StookEntry) (r : Rerank) (v u s : State), Runs s →
      s.work? id = some w → w.shards.find? (fun x => decide (x.shard = shard)) = some x → x.cands = some cs →
      cs.find? (fun e => decide (e.slot = slot)) = some e → s.shard? w.q.handle shard = some sh → tfind sh.store slot = some r →
      x.gleaned.any (fun g => decide (g.1 = e)) = false → s.get Reg.SAFE_UNITS_GLN_ISO ≠ 2 ^ 32 - 1 →
      v = s.modSrch (fun k => { k with fetched := k.fetched.filter (fun f => decide ((f.1, f.2.1, f.2.2.1) ≠ (w.q.handle, shard, slot))) }) →
      u = v.tallyP .GLN_FLASH_READS w.q.part →
      exec (.gleanRecordArrival id shard slot .flash none) s = .next (s.keep (((u.touchCache w.q.handle shard slot).modShardWork id shard
        (fun y => { y with gleaned := y.gleaned ++ [(e, r.record, u.scoreOf w.q r)] })).tryNodeSheaf id shard)))

/-- Messages of a running query and of reads between holders: what each makes of a running node. On a node that is awake
and not frozen: ANNOUNCE holds the operation and floods on, acknowledged when its copies are; RELEASE floods on and marks
it released; a sound TRANSIT of an awaited child becomes the input; a NOTICE is taken at the admitting node; CONFIRM drops
the kept work; a confirmed sheaf write is noticed and confirmed; a BULK_RECORD_READ is answered with the record or its
failure, and the reply is kept; a page or weights from the other holder are written again, weights that it cannot give
fail the model, and filter bits that cannot be copied are marked lost. (R99, R100, R119, R122, R182, R209, R361, R473) -/
def Obligations.QueryMessagesRun : Prop :=
  (∀ (id : OpId) (opcode src : Nat) (s : State), Runs s → exec (.announce id opcode src) s = .next (s.keep
      (((s.holdOp id opcode).flood 0 1 24 (some src) (.announce id opcode s.me)).awaitCopies src s.ovl.nextMsg))) ∧
  (∀ (id : OpId) (opcode src : Nat) (s : State), Runs s → exec (.release id opcode src) s = .next (s.keep
      ((s.flood 0 1 24 (some src) (.release id opcode s.me)).modStp fun k => { k with
        ops := lmod (·.is id) (fun o => { o with released := true }) k.ops }).finishOps)) ∧
  (∀ (id : OpId) (src : Nat) (sh : Sheaf) (w : QWork) (s : State), Runs s → s.work? id = some w → sh.rerun = none → w.await.contains src = true →
      exec (.transit id src sh true none) s = .next (s.keep ((s.modWork id (fun y => { y with
        await := y.await.erase src, inputs := y.inputs ++ [(src, sh)] })).tryEmit id))) ∧
  (∀ (id : OpId) (status src : Nat) (a : Admitted) (s : State), Runs s → s.adm? id = some a → s.writable a.dlv.pid = true →
      ((s.queryTally a.dlv.part status).dropAdm a).writable a.dlv.pid = true →
      exec (.notice id status src) s = .next (s.keep (((s.queryTally a.dlv.part status).dropAdm a).slotDone a.dlv.part a.dlv.ring a.dlv.idx))) ∧
  (∀ (id : OpId) (status src : Nat) (s : State), Runs s → exec (.confirm id status src) s = .next (s.keep
      (((s.modSrch fun k => { k with work := k.work.filter (fun w => decide (w.q.id ≠ id)) }).regrant).finishOps))) ∧
  (∀ (id : OpId) (f : Nat × Nat × Nat × Nat) (u s : State), Runs s → id.admitter = s.me →
      s.host.flushReads.find? (fun f => decide (f.1 = id.step ∧ f.2.1 = id.seq ∧ f.2.2.1 = id.admitter)) = some f →
      u = (s.modHost fun k => { k with flushReads := k.flushReads.erase f }).noticed id f.2.2.2 →
      exec (.sheafFlushReadDone id) s = .next (s.keep ((u.sendEach 0 1 0 24 (.confirm id f.2.2.2 u.me) u.otherMembers).dropWork id))) ∧
  (∀ (coll shard slot src : Nat) (ok : Bool) (s : State), Runs s →
      ok = (match s.shard? coll shard with | some sh => (tfind sh.store slot).isSome | none => false) →
      exec (.bulkRecordRead coll shard slot src) s = .next (s.keep
        (s.sendMsg 0 9 0 src (if ok then 16 + s.recordBytes coll else 16) (.bulkRecordReply coll shard slot ok)))) ∧
  (∀ (coll shard slot : Nat) (s : State), Runs s → s.srch.fetched.contains (coll, shard, slot, false) = false →
      exec (.bulkRecordReply coll shard slot false) s =
        .next { s with srch := { s.srch with fetched := s.srch.fetched ++ [(coll, shard, slot, false)] } }) ∧
  (∀ (coll shard lpage : Nat) (s : State), Runs s → (s.shard? coll shard).isSome = true →
      exec (.indexPage coll shard lpage true) s = .next (s.keep ((s.idxRead lpage true).rewritePage lpage)) ∧
      exec (.indexPage coll shard lpage false) s = .next (s.keep (s.idxRead lpage false))) ∧
  (∀ (coll shard list fslot : Nat) (s : State), Runs s → (s.shard? coll shard).isSome = true →
      s.srch.lostBits.contains (coll, shard, list, fslot) = false → exec (.filterBits coll shard list fslot false) s =
        .next { s with srch := { s.srch with lostBits := s.srch.lostBits ++ [(coll, shard, list, fslot)] } }) ∧
  (∀ (model lpage : Nat) (s : State), Runs s → model < 256 → s.get (Reg.ENC_MODEL_STATE model) ≠ 0 →
      exec (.weights model lpage true) s = .next (s.keep (s.rewritePage lpage)) ∧
      exec (.weights model lpage false) s = .next (s.keep (s.failModel model)))

/-- Staging, digests, acknowledgements and builds: what each event makes of a running node. On a node that is awake and
not frozen: a STAGE of a mutation whose step is still to commit here is staged, once and from its admitting node only; a
DIGEST is compared with the staged mutation's own, or kept until that is here; STAGE_ACK is taken at the admitting node,
or ends the wait of a node that forwarded a record; OUTCOME is taken at the admitting node; CREDIT adds to the credit held
of its sender; a filter's placement, an upkeep build and a graph rebuild are marked done in their shard, and the lost bits
of a filter that is loaded again are forgotten. (R74, R76, R137, R138, R139, R142, R144, R147, R148, R182) -/
def Obligations.MutationStagingRuns : Prop :=
  (∀ (m : Mutation) (src : Nat) (again : Option (Nat × Bool)) (s : State), Runs s → m.op ≠ 0x13 → s.get Reg.STEP_COMMITTED < m.id.step →
      s.staged? m.id = none → src = m.id.admitter → exec (.stage (.mutation m) src again) s = .next (s.keep (s.stageMut m again))) ∧
  (∀ (f : FilterOp) (src : Nat) (again : Option (Nat × Bool)) (s : State), Runs s → s.get Reg.STEP_COMMITTED < f.id.step →
      exec (.stage (.filter f) src again) s = .next (s.keep (s.stageFilter f))) ∧
  (∀ (id : OpId) (d : Digest) (src : Nat) (again : Option (Nat × Bool)) (s : State), Runs s →
      (s.staged? id = none → exec (.digest id d src again) s = .next { s with srch := { s.srch with digests := s.srch.digests ++ [(id, d)] } }) ∧
      ((s.staged? id).isSome = true → exec (.digest id d src again) s = .next (s.keep ((s.modSrch fun k => { k with
        staged := lmod (fun g => decide (g.m.id = id)) (fun g => { g with peer := some d }) k.staged }).compareDigests id again)))) ∧
  (∀ (id : OpId) (fwd src : Nat) (s : State), Runs s →
      (id.admitter = s.me → exec (.stageAck id fwd src) s = .next (s.keep ((s.gotAck id src).countFwd id fwd))) ∧
      (id.admitter ≠ s.me → exec (.stageAck id fwd src) s = .next (s.keep (s.relayAck id src)))) ∧
  (∀ (id : OpId) (o : MutOutcome) (src : Nat) (a : Admitted) (s : State), Runs s → s.adm? id = some a →
      exec (.outcome id o src) s = .next (s.keep ((s.takeOutcome id o src).tryFilter id))) ∧
  (∀ (src : Nat) (units : Int) (s : State), Runs s → exec (.credit src units) s = .next (s.keep (s.takeCredit src units).drainGrads)) ∧
  (∀ (coll shard fslot status : Nat) (bitmap : List Byte) (s : State), Runs s → (s.shard? coll shard).isSome = true →
      exec (.filterPlacementDone coll shard fslot bitmap status) s = .next (s.keep ((s.modSrch fun k => { k with
        lostBits := k.lostBits.filter (fun b => decide (¬ (b.1 = coll ∧ b.2.1 = shard ∧ b.2.2.2 = fslot))) }).modShard coll shard (fun sh => { sh with
        filters := tmod sh.filters fslot (fun o => if o.placed then o else { o with
          placed := true, status := status, bitmap := leNat bitmap 0 bitmap.length }) })))) ∧
  (∀ (coll shard list : Nat) (s : State), Runs s → (s.shard? coll shard).isSome = true →
      exec (.upkeepBuildDone coll shard list) s = .next (s.keep (s.modShard coll shard (fun sh => { sh with
        upkeep := lmod (fun u => decide (u.list = list)) (fun u => { u with built := true }) sh.upkeep })))) ∧
  (∀ (coll shard : Nat) (edges : List (Nat × List Nat)) (entry : List Nat) (sh : Shard) (b : Rebuild) (s : State), Runs s →
      s.shard? coll shard = some sh → sh.rebuild = some b → b.done = none →
      exec (.graphRebuildDone coll shard edges entry) s = .next (s.keep (s.modShard coll shard (fun sh => match sh.rebuild with
        | some b => (if b.done.isSome then sh else { sh with rebuild := some { b with
            done := some (b.splits.foldl (fun g x => sh.repair (s.cfgOf coll) (s.get Reg.STEP_COMMITTED + 1) g x.1 x.2)
              (edges.foldl (fun (t : Tab (List Nat)) e => tput t e.1 e.2) [], entry.take 16)) } })
        | none => sh))))

/-- Look-ups and loads of embedding tables: what each command makes of the service. On a node that is awake and not
frozen: EMB_LOOKUP's bags are read when it is taken, and it is admitted with them; one that breaks the layout completes
with BAD_DESCRIPTOR and one with a lost line with FAILED. ENTRIES that this node serves wait for their gathers. A gather
adds the weighted row to the look-up's sums and is counted. PARTIALS that are not the last are added and no longer
awaited. A copied row joins its load, a finished load is marked done, a report and a directory entry are kept, and a row
that arrives is stored and no longer expected. (R153, R279, R281, R287, R290, R291, R292, R313) -/
def Obligations.EmbeddingLookupsRun : Prop :=
  (∀ (p n : Nat) (h : Head) (dlv : Delivery) (t : Taken) (mem : List (Nat × List Byte)) (r : List Bag × Nat × Nat) (a : Admitted) (u v s : State),
      Runs s → Served s 0x20 p n h dlv → u = (s.takeHead p n h).1 → t = (s.takeHead p n h).2 →
      readBags (fun a n => u.shmRead mem a n) (u.get (Reg.EMB_TABLE_ROWS_M1 ((u.tableIdx (body h.data 0 2)).getD 0)) + 1) (body h.data 2 2) (body h.data 8 8) = some r →
      u.canRead t.part (some (u.iringOwner t.part t.ring)) (body h.data 8 8) (r.2.1 - body h.data 8 8) = true →
      a = { t.admitted dlv (body h.data 0 2) 0 true with items := body h.data 2 2 } →
      v = ((u.admitOp a).tallyP .CXP_RSVD_WRITES t.part r.2.2).modEmb (fun e => { e with lookups := e.lookups ++ [{
        id := t.id, table := body h.data 0 2, dst := body h.data 16 8, save := false, first := 0, count := 0, bags := r.1, sums := [], await := [], fwd := 0, bad := 0 }] }) →
      exec (.embLookup mem false) s = .next (s.keep (if t.id.step ≤ v.get Reg.STEP_COMMITTED + 1 then v.startLookup a else v)) ∧
      exec (.embLookup mem true) s = .next (s.keep (u.completeTaken t 10))) ∧
  (∀ (p n : Nat) (h : Head) (dlv : Delivery) (t : Taken) (mem : List (Nat × List Byte)) (lost : Bool) (u s : State),
      Runs s → Served s 0x20 p n h dlv → u = (s.takeHead p n h).1 → t = (s.takeHead p n h).2 →
      readBags (fun a n => u.shmRead mem a n) (u.get (Reg.EMB_TABLE_ROWS_M1 ((u.tableIdx (body h.data 0 2)).getD 0)) + 1) (body h.data 2 2) (body h.data 8 8) = none →
      exec (.embLookup mem lost) s = .next (s.keep (u.completeTaken t 5))) ∧
  (∀ (id : OpId) (table src : Nat) (es : List (Nat × Nat × Int)) (s : State), Runs s →
      exec (.entries id table es true src) s = .next (s.keep (s.takeEntries id table es true src))) ∧
  (∀ (id : OpId) (bag row : Nat) (e : EntryReq) (q : Partial) (term : List Int) (u s : State), Runs s →
      s.emb.gathers.find? (fun e => decide (e.id = id ∧ e.bag = bag ∧ e.row = row)) = some e →
      term = (List.range (s.tableDim e.table)).map (fun j => e.weight * (rowElem (s.rowAt (rowKey e.table row) id.step) j)) →
      u = (s.modEmb fun x => { x with gathers := x.gathers.erase e }).tallyP .EMB_TERMS (s.tablePart e.table) →
      u.emb.partials.find? (fun q => decide (q.id = id ∧ q.src = e.src)) = some q → 2 ≤ q.left →
      exec (.nbuGather id bag row none) s = .next (s.keep (u.modEmb fun x => { x with
        partials := lmod (fun y => decide (y.id = id ∧ y.src = e.src)) (fun _ => { q with
          sums := tput q.sums bag (addSums (tget [] q.sums bag) term), left := q.left - 1, bad := worse q.bad 0 }) x.partials }))) ∧
  (∀ (id : OpId) (sums : List (Nat × List Int)) (fwd bad src : Nat) (onto : List Nat) (l : Lookup) (s : State), Runs s →
      s.emb.lookups.find? (fun l => decide (l.id = id)) = some l → l.await.erase src ++ onto ≠ [] →
      exec (.partials id sums fwd onto bad src) s = .next (s.keep (s.modEmb fun e => { e with lookups := lmod (fun x => decide (x.id = id)) (fun _ => { l with
        sums := sums.foldl (fun t x => tput t x.1 (addSums (tget [] t x.1) x.2)) l.sums, await := l.await.erase src ++ onto, fwd := l.fwd + fwd, bad := worse l.bad bad }) e.lookups }).releaseDue)) ∧
  (∀ (f : LoadInfo) (row : Nat) (e : List Int) (s : State), Runs s → f.first ≤ row → row < f.first + f.count →
      s.emb.loads.any (fun l => decide (l.info = f)) = true →
      exec (.nbuCopy f row e) s = .next { s with emb := { s.emb with
        loads := lmod (fun l => decide (l.info = f)) (fun l => if l.done then l else { l with rows := tput l.rows row e }) s.emb.loads } }) ∧
  (∀ (f : LoadInfo) (s : State), Runs s → s.emb.loads.any (fun l => decide (l.info = f)) = true →
      exec (.tableLoadFinished f) s = .next { s with emb := { s.emb with
        loads := lmod (fun l => decide (l.info = f)) (fun l => { l with done := true }) s.emb.loads } }) ∧
  (∀ (step table load src : Nat) (s : State), Runs s →
      exec (.loadReport step table load src) s = .next { s with emb := { s.emb with reports := s.emb.reports ++ [(step, table, src, load)] } }) ∧
  (∀ (entry : Override) (src : Nat) (s : State), Runs s →
      exec (.directory entry src) s = .next (s.keep ((s.modEmb fun e => { e with dirStaged := e.dirStaged ++ [(entry.step - 1, entry)] }).sendAckTo
        { step := entry.step - 1, seq := 0, admitter := src } 0))) ∧
  (∀ (table row step src : Nat) (data : Row) (s : State), Runs s →
      exec (.rowMove table row step data src) s = .next (s.keep (s.modEmb fun e => { e with
        rows := tset zeroRow e.rows (rowKey table row) data,
        expected := e.expected.filter (fun x => decide (x ≠ (rowKey table row, step))) }).dispatchEntries))

/-- Gradient updates of embedding tables: what each command makes of the service. On a node that is awake and not frozen:
an EMB_UPDATE of one record of its table is admitted and its converted record staged to the row's holders, and a record of
another table completes it with BAD_DESCRIPTOR; a GRAD_STAGE at a row's holder is staged and acknowledged, and one that
reaches the old owner from its admitting node is forwarded; an applied update sends its digest to the copies it is
compared with; a ROW_DIGEST that agrees is done with, one that does not is a mismatch, and one that comes early is kept.
(R283, R284, R285, R286, R287, R292) -/
def Obligations.GradientsRun : Prop :=
  (∀ (p n tab : Nat) (h : Head) (dlv : Delivery) (t : Taken) (mem : List (Nat × List Byte)) (raw : List Byte) (x : Nat × Nat × List Nat)
      (a : Admitted) (c : State × Option (List Int) × Nat) (v : List Int) (u s : State), Runs s → Served s 0x21 p n h dlv →
      u = (s.takeHead p n h).1 → t = (s.takeHead p n h).2 → tab = body h.data 0 2 → body h.data 4 4 = 1 →
      raw = u.shmRead mem (body h.data 8 8) (16 + 4 * u.tableDim tab) → u.readGrad raw = some x → x.1 = tab →
      a = { t.admitted dlv tab 0 false with items := 1, started := true } →
      c = ((u.admitOp a).tallyP .CXP_RSVD_WRITES t.part (b2n (decide (leNat raw 8 8 ≠ 0)))).convertGrad tab x.2.2 → c.2.1 = some v →
      exec (.embUpdate mem false) s = .next (s.keep
        ((c.1.modEmb fun e => { e with updates := e.updates ++ [{ id := t.id, table := tab, rows := [x.2.1], sat := c.2.2, fwd := 0 }] }).stageAll
          [{ id := t.id, pos := 0, table := tab, row := x.2.1, part := t.part, due := t.id.step, g := v }]))) ∧
  (∀ (p n : Nat) (h : Head) (dlv : Delivery) (t : Taken) (mem : List (Nat × List Byte)) (lost : Bool) (x : Nat × Nat × List Nat) (u s : State), Runs s →
      Served s 0x21 p n h dlv → u = (s.takeHead p n h).1 → t = (s.takeHead p n h).2 → body h.data 4 4 = 1 →
      u.readGrad (u.shmRead mem (body h.data 8 8) (16 + 4 * u.tableDim (body h.data 0 2))) = some x → x.1 ≠ body h.data 0 2 →
      exec (.embUpdate mem lost) s = .next (s.keep (u.completeTaken t 5))) ∧
  (∀ (r : GradRec) (src : Nat) (s : State), Runs s → s.get Reg.STEP_COMMITTED < r.due →
      (src ≠ r.id.admitter → exec (.gradStage r src) s = .next (s.keep (s.stageGrad r src))) ∧
      (src = r.id.admitter → s.gradNext r = [] → s.holdsRow r = true → exec (.gradStage r src) s = .next (s.keep (s.stageGrad r src))) ∧
      (∀ n ns, src = r.id.admitter → s.gradNext r = n :: ns → exec (.gradStage r src) s = .next (s.keep (s.forwardGrad r (n :: ns))))) ∧
  (∀ (table row step k i : Nat) (d : Digest) (peers : List Nat) (s : State), Runs s → k = rowKey table row →
      s.emb.applies.find? (fun a => decide (a = (k, step))) = some (k, step) → i = (s.tableIdx table).getD 0 →
      d = rowDigest (s.get (Reg.EMB_TABLE_DIM i)) (s.rowAt k (step + 1)) → peers = s.digestPeers i row step → s.emb.early = [] →
      exec (.nbuApply table row step) s = .next (s.keep (((s.modEmb fun e => { e with
        applies := e.applies.erase (k, step), early := [], digests := e.digests ++ peers.map (fun n => (k, step, n, d)) }).sendEach
          (s.tablePart table) 4 0 56 (.rowDigest table row step d s.me) peers).dispatchEntries))) ∧
  (∀ (table row step src : Nat) (d : Digest) (s : State), Runs s →
      s.emb.digests.find? (fun x => decide (x.1 = rowKey table row ∧ x.2.1 = step ∧ x.2.2.1 = src)) = none →
      exec (.rowDigest table row step d src) s =
        .next { s with emb := { s.emb with early := s.emb.early ++ [(rowKey table row, step, src, d)] } }) ∧
  (∀ (table row step src : Nat) (d : Digest) (x : Nat × Nat × Nat × Digest) (u s : State), Runs s →
      s.emb.digests.find? (fun x => decide (x.1 = rowKey table row ∧ x.2.1 = step ∧ x.2.2.1 = src)) = some x →
      u = s.modEmb (fun e => { e with digests := e.digests.erase x }) →
      (x.2.2.2 = d → exec (.rowDigest table row step d src) s = .next (s.keep u.dispatchEntries)) ∧
      (x.2.2.2 ≠ d → exec (.rowDigest table row step d src) s = .next (s.keep (u.digestMismatch table row).dispatchEntries)))

/-- Records, windows and chains of the encoder engine: what each command makes of it. On a node that is awake and not
frozen: the least record of the backlog is taken; a layer that arrives in a window is kept, a streaming window keeping the
layer before as well; an ACT_RECORD of a model that serves joins the records arrived; activations for a record that runs
join its inbox with the counters of the chain; the output of a record ends it at its admitting node and drops it
elsewhere; a transfer that is done leaves its core's list; the first pass over a model of good digest builds it, and any
other makes it unavailable. (R222, R225, R230, R232, R233, R251, R256, R270, R271) -/
def Obligations.EncoderRecordsRun : Prop :=
  (∀ (mem : List (Nat × List Byte)) (remote : List (Nat × List Int)) (lost : Bool) (r : EncRec) (s : State), Runs s →
      leastRec ((s.enc.backlog.filter s.recReady) ++ s.enc.arrived.map (·.r)) = some r → s.enc.arrived.find? (fun x => x.r.is r.id r.pos) = none →
      exec (.encRecordDispatch mem remote lost) s = .next (s.keep (s.takeRec r mem remote lost))) ∧
  (∀ (model half layer : Nat) (keep : List Nat → List Nat) (s : State), Runs s → layer < s.get (Reg.ENC_MODEL_LAYERS model) →
      keep = (fun l => (if s.modelKib model ≤ s.get (Reg.ENC_MODEL_LOFT_KIB model) then l else l.filter (fun x => decide
        (x = (if layer = 0 then s.get (Reg.ENC_MODEL_LAYERS model) - 1 else layer - 1)))).filter (fun x => decide (x ≠ layer)) ++ [layer]) →
      exec (.loftFillDone model half layer) s = .next (s.keep ((List.range 8).foldl State.showCluster (s.modEnc fun e => { e with
        loft := lmod (fun w => decide (w.model = model ∧ w.half = half)) (fun w => { w with layers := keep w.layers }) e.loft })))) ∧
  (∀ (r : ChainRec) (src : Nat) (x : EncRun) (u s : State), Runs s → u = s.dropRun r.id r.pos → u.chainRun r r.id.admitter = some x →
      exec (.actRecord r src) s = .next (s.keep (u.modEnc fun e => { e with arrived := e.arrived ++ [{ x with ended := true, chainPos := 0 }] }))) ∧
  (∀ (r : ChainRec) (data : List Byte) (last : Bool) (src c : Nat) (s : State), Runs s →
      (s.enc.runs.find? (fun e => e.2.r.is r.id r.pos)).map (·.1) = some c →
      exec (.activation r data last src) s = .next (s.keep ((s.modEnc fun e => { e with runs := tmod e.runs c (fun x => { x with
        inbox := x.inbox ++ data, sat := r.sat, quant := r.quant, nanIn := x.nanIn || r.nan, gradsIn := r.grads, ended := x.ended || last }) }).checkRun c))) ∧
  (∀ (id : OpId) (pos status sat quant src : Nat) (out : List Byte) (nan : Bool) (grads : List (List Byte)) (s : State), Runs s →
      (id.admitter ≠ s.me → exec (.actOutput id pos status out sat quant nan grads src) s = .next (s.keep (s.dropRun id pos))) ∧
      (∀ x, id.admitter = s.me → s.enc.sent.find? (fun x => x.r.is id pos) = some x →
        exec (.actOutput id pos status out sat quant nan grads src) s = .next (s.keep ((s.dropRun id pos).endRecord x.r status out sat quant grads)))) ∧
  (∀ (core n : Nat) (r : EncRun) (s : State), Runs s → tfind s.enc.runs (core / 8) = some r →
      exec (.streamTransferDone core n) s = .next (s.keep
        (((s.modCore core (fun k => { k with xfers := k.xfers.eraseIdx n })).checkBar (core / 8)).checkRun (core / 8)))) ∧
  (∀ (model : Nat) (src : PassSrc) (s : State), Runs s → model < 256 → s.get (Reg.ENC_MODEL_STATE model) = 1 ∨ s.get (Reg.ENC_MODEL_STATE model) = 2 →
      (s.modelMem model).passDone = false → (s.modelMem model).failed = false → s.baseWaits model = false → src.readable = false →
      exec (.firstPassDone model src) s = .next (s.keep ((s.spoiled model).tallyP .QNT_BUILD_FAILS (s.modelPart model)))) ∧
  (∀ (model digest : Nat) (src : PassSrc) (built : List (List WSeg)) (s : State), Runs s → model < 256 →
      s.get (Reg.ENC_MODEL_STATE model) = 1 ∨ s.get (Reg.ENC_MODEL_STATE model) = 2 →
      (s.modelMem model).passDone = false → (s.modelMem model).failed = false → s.baseWaits model = false → src.readable = true → src.fits = true → s.shapesAgree model src.layers = true →
      built = s.buildModel model src.layers →
      digest = (Config.sm3 ((src.prog.map (natLe 128)).flatten ++ (built.flatten.map (·.bytes)).flatten)).toNat →
      (digest = s.get (Reg.ENC_MODEL_DIGEST model) → exec (.firstPassDone model src) s = .next (s.keep
        ((s.modModel model (fun m => { m with prog := src.prog, layers := built, passDone := true })).tallyP .QNT_BUILDS (s.modelPart model)))) ∧
      (digest ≠ s.get (Reg.ENC_MODEL_DIGEST model) → exec (.firstPassDone model src) s =
        .next (s.keep ((s.spoiled model).tallyP .QNT_BUILD_FAILS (s.modelPart model)))))

/-- The integer operations of a scalar slot: what each writes to its destination. Whenever a core of a running node is
about to run a scalar slot with one of the operations LI, ADD, ADDI, SUB, MUL, AND, OR, XOR, SHL, SHR, SRA, SLT, SLTU, MIN
and MAX, the command takes the slot with the write of RD that the operation table gives, modulo 2^64, and raises no
exception; the write waits for the bundle to end. (R238, R239, R240) -/
def Obligations.ScalarIntegerSlotsRun : Prop :=
  (SlotRuns .li 0 0x01 (fun _ k => k.rd (k.imm))) ∧
  (SlotRuns .add 0 0x02 (fun _ k => k.rd (k.ra + k.rb))) ∧
  (SlotRuns .addi 0 0x03 (fun _ k => k.rd (k.ra + k.imm))) ∧
  (SlotRuns .sub 0 0x04 (fun _ k => k.rd (k.ra + (2 ^ 64 - k.rb)))) ∧
  (SlotRuns .mul 0 0x05 (fun _ k => k.rd (k.ra * k.rb))) ∧
  (SlotRuns .and 0 0x06 (fun _ k => k.rd (k.ra &&& k.rb))) ∧
  (SlotRuns .or 0 0x07 (fun _ k => k.rd (k.ra ||| k.rb))) ∧
  (SlotRuns .xor 0 0x08 (fun _ k => k.rd (k.ra ^^^ k.rb))) ∧
  (SlotRuns .shl 0 0x09 (fun _ k => k.rd (k.ra * 2 ^ (k.rb % 64)))) ∧
  (SlotRuns .shr 0 0x0A (fun _ k => k.rd (k.ra / 2 ^ (k.rb % 64)))) ∧
  (SlotRuns .sra 0 0x0B (fun _ k => k.rd (untoInt 64 (s64 k.ra / 2 ^ (k.rb % 64))))) ∧
  (SlotRuns .slt 0 0x0C (fun _ k => k.rd (b2n (decide (s64 k.ra < s64 k.rb))))) ∧
  (SlotRuns .sltu 0 0x0D (fun _ k => k.rd (b2n (decide (k.ra < k.rb))))) ∧
  (SlotRuns .min 0 0x0E (fun _ k => k.rd (if s64 k.rb < s64 k.ra then k.rb else k.ra))) ∧
  (SlotRuns .max 0 0x0F (fun _ k => k.rd (if s64 k.ra < s64 k.rb then k.rb else k.ra)))

/-- The special and FP32 operations of a scalar slot: what each writes. Whenever a core of a running node is about to run
a scalar slot with one of the operations MFS, FADD, FMUL, FDIV, ITOF, FTOI, QPAR and QSTAT, the command takes the slot
with the write of RD, or for QSTAT the statistic offered to its layer, that the operation table gives. Where the manual
gives QPAR no value it takes a free one (assumption 2). (R240, R243, R254) -/
def Obligations.ScalarSpecialSlotsRun : Prop :=
  (SlotRuns .mfs 0 0x10 (fun s k => k.rd (s.special k (k.imm % 256)))) ∧
  (SlotRuns .fadd 0 0x11 (fun _ k => k.rd (fp32.add (f32 k.ra) (f32 k.rb)))) ∧
  (SlotRuns .fmul 0 0x12 (fun _ k => k.rd (fp32.mul (f32 k.ra) (f32 k.rb)))) ∧
  (SlotRuns .fdiv 0 0x13 (fun _ k => k.rd (fp32.div (f32 k.ra) (f32 k.rb)))) ∧
  (SlotRuns .itof 0 0x14 (fun _ k => k.rd (fp32.write (fvOfInt (s64 k.ra))))) ∧
  (SlotRuns .ftoi 0 0x15 (fun _ k => k.rd (untoInt 64 (fvToInt 64 (f32 k.ra))))) ∧
  (SlotRuns .qpar 0 0x16 (fun _ k => k.rd (qpar k.ra k.rb k.free))) ∧
  (SlotRuns .qstat 0 0x17 (fun _ k => ([], [.stat (k.imm % 256) (max (finiteMag (bits k.ra 0 32)) (finiteMag (bits k.ra 32 32)))])))

/-- The lane operations of a vector slot: what each writes to its destination. Whenever a core of a running node is about
to run a vector slot with one of the operations VADD, VSUB, VMUL, VFMA, VMAX, VMIN, VEXP, VRCP, VRSQRT, VSPLAT, VCMP, VSEL
and VCVT, the command takes the slot with the write of VD, lane by lane, that the operation table gives. (R238, R241,
R243, R244) -/
def Obligations.VectorLaneSlotsRun : Prop :=
  (SlotRuns .vadd 1 0x01 (fun _ k =>
      k.map2 (fun a b =>
      if isFp k.ty then (laneFmt k.ty).add (laneFv k.ty a) (laneFv k.ty b) else a + b))) ∧
  (SlotRuns .vsub 1 0x02 (fun _ k =>
      k.map2 (fun a b =>
      if isFp k.ty then (laneFmt k.ty).add (laneFv k.ty a) (laneFv k.ty b).neg else a + (2 ^ laneW k.ty - b)))) ∧
  (SlotRuns .vmul 1 0x03 (fun _ k =>
      k.map2 (fun a b =>
      if isFp k.ty then (laneFmt k.ty).mul (laneFv k.ty a) (laneFv k.ty b) else a * b))) ∧
  (SlotRuns .vfma 1 0x04 (fun _ k =>
      k.vd (ofLanes k.ty ((List.range (laneN k.ty)).map (fun i =>
      let a := lane k.ty k.va i
      let b := lane k.ty k.vb i
      let c := lane k.ty k.vc i
      if isFp k.ty then (laneFmt k.ty).fma (laneFv k.ty a) (laneFv k.ty b) (laneFv k.ty c) else a * b + c))))) ∧
  (SlotRuns .vmax 1 0x05 (fun _ k => k.map2 (pickLane true k.ty))) ∧
  (SlotRuns .vmin 1 0x06 (fun _ k => k.map2 (pickLane false k.ty))) ∧
  (SlotRuns .vexp 1 0x07 (fun _ k => k.map1 (fun a => exp32 (fp32.value a)))) ∧
  (SlotRuns .vrcp 1 0x08 (fun _ k => k.map1 (fun a => fp32.div (.fin false (2 ^ 149)) (fp32.value a)))) ∧
  (SlotRuns .vrsqrt 1 0x09 (fun _ k => k.map1 (fun a => rsqrt32 (fp32.value a)))) ∧
  (SlotRuns .vsplat 1 0x0A (fun _ k => k.vd (ofLanes k.ty (List.replicate (laneN k.ty) k.ss)))) ∧
  (SlotRuns .vcmp 1 0x0B (fun _ k => k.map2 (fun a b => if cmpLane k.ty (k.vimm % 4) a b then 2 ^ laneW k.ty - 1 else 0))) ∧
  (SlotRuns .vsel 1 0x0C (fun _ k =>
      k.vd (ofLanes k.ty ((List.range (laneN k.ty)).map (fun i =>
      if lane k.ty k.vc i ≠ 0 then lane k.ty k.va i else lane k.ty k.vb i))))) ∧
  (SlotRuns .vcvt 1 0x0D (fun _ k =>
      let out := k.vimm % 16
      let part := k.vimm / 16 % 4
      let n := laneN k.ty
      let m := laneN out
      if m ≤ n then k.vd (ofLanes out ((List.range m).map (fun i => convLane k.ty out (lane k.ty k.va (part * m + i)))))
      else k.vd (ofLanes out ((List.range m).map (fun i =>
        if part * n ≤ i ∧ i < part * n + n then convLane k.ty out (lane k.ty k.va (i - part * n)) else lane out k.vdOld i)))))

/-- Reductions, tile rows and quantisation of a vector slot, and the matrix slot: what each writes. Whenever a core of a
running node is about to run a vector slot with one of the operations VRSUM, VRMAX, VRMIN, VTWR, QMM, QCVT and QDQ, or a
matrix slot with MMA or TCLR, the command takes the slot with the writes of SS, VD or the tile, and the causes, that the
operation table gives. VTRD and TST, whose tile passes its residue check, take theirs. (R242, R244, R245, R246, R254,
R255) -/
def Obligations.VectorReductionSlotsRun : Prop :=
  (SlotRuns .vrsum 1 0x0E (fun _ k =>
      let ls := lanes k.ty k.va
      let v := if isFp k.ty then treeFold (fun a b => fp32.add (fp32.value a) (fp32.value b)) 0 9 (ls.map (laneAsFp32 k.ty))
        else untoInt 64 (treeFold (· + ·) 0 9 (ls.map (laneInt k.ty)))
      ([], [k.toSS v]))) ∧
  (SlotRuns .vrmax 1 0x0F (fun _ k => k.extreme true)) ∧
  (SlotRuns .vrmin 1 0x10 (fun _ k => k.extreme false)) ∧
  (SlotRuns .vtwr 1 0x12 (fun _ k =>
      let t := k.vimm / 256 % 4
      ([], [.tile t { setTileRow (k.n.tile t) (k.vimm % 64) k.va with fp := decide (k.ty = 0) }]))) ∧
  (SlotRuns .qmm 1 0x13 (fun _ k =>
      let r := qmm k.ss (lanes 0 k.va)
      ([], k.toSS r.1 :: (if r.2 then [.nan] else [])))) ∧
  (SlotRuns .qcvt 1 0x14 (fun _ k =>
      let cs := ((lanes 0 k.va).zipIdx).map (fun x => qcode k.ss x.1 (bits k.free (16 * x.2) 16))
      let part := k.vimm % 4
      let v := ofLanes 4 ((List.range 512).map (fun i =>
        if 128 * part ≤ i ∧ i < 128 * part + 128 then
          (match cs[i - 128 * part]? with | some c => untoInt 8 c.1 | none => 0)
        else lane 4 k.vdOld i))
      ([], [.vreg (bits k.x 12 5) v, .sat (cs.countP (fun c => c.2.1)) 128] ++ (if cs.any (fun c => c.2.2) then [.nan] else [])))) ∧
  (SlotRuns .qdq 1 0x15 (fun _ k =>
      let z := sext 8 (bits k.ss 32 8)
      k.vd (ofLanes 0 ((List.range 128).map (fun j =>
        scaleInt (laneInt 2 (lane 2 k.va j) - z * laneInt 2 (lane 2 k.vb j)) (fp32.value (bits k.ss 0 32)) (fp32.value (lane 0 k.vc j))))))) ∧
  (SlotRuns .mma 2 1 (fun s k =>
      let i := k.r.r.model
      match tfind k.n.h (bits k.x 28 2) with
      | none => ([4] ++ rangeCauses k.n (scratchOf 2 k.n k.x), [])
      | some h =>
        match s.segment i h.layer h.seg with
        | none => ([4], [])
        | some g => mmaOn k (s.get (Reg.ENC_MODEL_FORM i)) h g ((s.baseEntry i).bind (fun b => s.segment b h.layer h.seg)))) ∧
  (SlotRuns .tclr 2 2 (fun _ k => ([], [.tile (bits k.x 12 2) (Tile.zero (decide (bits k.x 8 4 ≠ 0)))]))) ∧
  (∀ (c : Nat) (r : EncRun) (b i : Nat) (s : State), Runs s → SlotReady s c 1 0x11 r b i →
      exec (.vtrd c true) s = .next (s.keep (s.slotTaken c b i ((s.slotView c r b i).vd
        (tileRow ((s.core c).tile ((s.slotView c r b i).vimm / 256 % 4)) ((s.slotView c r b i).vimm % 64)))))) ∧
  (∀ (c : Nat) (r : EncRun) (b i : Nat) (s : State), Runs s → SlotReady s c 2 3 r b i →
      exec (.tst c true) s = .next (s.keep (s.slotTaken c b i (scratchSlot 2 (s.slotView c r b i) []
        ((List.range (mRows (slotBits b i))).map (fun j => .scratch (rowAddr (s.core c) (slotBits b i) j)
          (natLe 512 (tileRow ((s.core c).tile (bits (slotBits b i) 12 2)) j))))))))

/-- Loads, stores and copies of a stream slot: what each does. Whenever a core of a running node is about to run a stream
slot with one of the operations VLD, VST, SLD, SST, INCPY, OUTCPY, EMB and SCRZ, the command takes the slot with the
writes, transfers and causes that the operation table gives: an address outside scratch or out of alignment, or a wrong
LEN, is a cause. (R223, R247, R249, R260, R280) -/
def Obligations.StreamScratchSlotsRun : Prop :=
  (SlotRuns .vld 3 0x01 (fun _ k => scratchSlot 3 k [] [.vreg (bits k.x 24 5) (leNat (k.n.load k.sa 512) 0 512)])) ∧
  (SlotRuns .vst 3 0x02 (fun _ k => scratchSlot 3 k [] [.scratch k.sa (natLe 512 (k.n.vreg (bits k.x 24 5)))])) ∧
  (SlotRuns .sld 3 0x03 (fun _ k => scratchSlot 3 k [] [.sreg (bits k.x 24 6) (leNat (k.n.load k.sa 8) 0 8)])) ∧
  (SlotRuns .sst 3 0x04 (fun _ k => scratchSlot 3 k [] [.scratch k.sa (natLe 8 (k.n.sreg (bits k.x 24 6)))])) ∧
  (SlotRuns .incpy 3 0x05 (fun _ k =>
      let d := (List.range k.len).map (fun i => (k.r.input.drop (k.sb + i)).headD 0)
      scratchSlot 3 k (lenCauses k.x) [.scratch k.sa d, k.xfer])) ∧
  (SlotRuns .outcpy 3 0x06 (fun s k =>
      let last := 32 + 4 * s.get (Reg.ENC_MODEL_OUT_DIM k.r.r.model)
      scratchSlot 3 k (lenCauses k.x ++ (if k.sb < 32 ∨ last < k.sb + k.len then [2] else [])) [.output k.sb (k.n.load k.sa k.len), k.xfer])) ∧
  (SlotRuns .emb 3 0x07 (fun _ k =>
      match k.r.pooled.find? (fun p => decide (p.1 = k.arg % 64)) with
      | some p => scratchSlot 3 k (if k.len = p.2.length then [] else [2]) [.scratch k.sa p.2, k.xfer]
      | none => scratchSlot 3 k (lenCauses k.x) [.scratch k.sa (List.replicate k.len 0), k.xfer])) ∧
  (SlotRuns .scrz 3 0x0E (fun _ k => scratchSlot 3 k (lenCauses k.x) [.scratch k.sa (List.replicate k.len 0), k.xfer]))

/-- Weight handles, exchanges, activations and gradients of a stream slot: what each does. Whenever a core of a running
node is about to run a stream slot with one of the operations WOPEN, WCLOSE, XCH, ACTO, ACTI and GRAD, the command takes
the slot with the writes, transfers and causes that the operation table gives. (R248, R250, R251, R263, R282) -/
def Obligations.StreamChannelSlotsRun : Prop :=
  (SlotRuns .wopen 3 0x08 (fun s k =>
      let h := bits k.x 8 2
      let seg := k.n.sreg (bits k.x 12 6)
      let layer := k.arg % 256
      match s.segment k.r.r.model layer seg with
      | none => scratchSlot 3 k ([4] ++ (if k.len = 0 ∨ k.len = 1024 then [] else [2])) []
      | some g =>
        let addr := (k.sb + untoInt 64 (sext 32 (bits k.x 32 32))) % 2 ^ 64
        scratchSlot 3 k ((if (tfind k.n.h h).isSome then [4] else []) ++ (if k.len = 0 ∨ k.len = 1024 then [] else [2]))
          (.handle h (some { layer := layer, seg := seg, row := 0 }) ::
            (if k.len = 1024 then [.scratch addr (g.consts ++ List.replicate (1024 - g.consts.length) 0), .transfer addr 1024 false] else [])))) ∧
  (SlotRuns .wclose 3 0x09 (fun _ k => ([], [.handle (bits k.x 8 2) none]))) ∧
  (SlotRuns .xch 3 0x0A (fun s k =>
      match (s.cores (k.c / 8))[k.arg % 8]? with
      | none => scratchSlot 3 k (lenCauses k.x ++ [5]) []
      | some m =>
        let open_ := (s.core m).windows.any (fun w => decide (w.1 ≤ k.sb ∧ k.sb + k.len ≤ w.1 + w.2))
        scratchSlot 3 k (lenCauses k.x ++ (if scratchBytes < k.sb + k.len ∨ k.sb % 64 ≠ 0 then [2] else []) ++ (if open_ then [] else [5]))
          [.exchange m k.sb (k.n.load k.sa k.len), .transfer k.sa k.len true])) ∧
  (SlotRuns .acto 3 0x0B (fun s k =>
      let last := !s.chained k.r.r.model || decide ((s.chainOf k.r.r.model).length ≤ k.r.chainPos + 1)
      scratchSlot 3 k (lenCauses k.x ++ (if last then [1] else [])) [.activation (k.n.load k.sa k.len), k.xfer])) ∧
  (SlotRuns .acti 3 0x0C (fun s k =>
      let first := !s.chained k.r.r.model || decide (k.r.chainPos = 0)
      scratchSlot 3 k (lenCauses k.x ++ (if first then [1] else []))
        [.scratch k.sa ((k.r.inbox.drop (k.r.taken + s.actiAhead (k.c / 8))).take k.len), .takeActivation k.len, k.xfer])) ∧
  (SlotRuns .grad 3 0x0D (fun s k =>
      scratchSlot 3 k (lenCauses k.x ++ (if s.get (Reg.ENC_MODEL_KIND k.r.r.model) = 3 then [] else [1]))
        [.gradient (k.n.load k.sa k.len), k.xfer]))

/-- The operations of a control slot: what each does. Whenever a core of a running node is about to run a control slot
with one of the operations BR, JMP, LOOP, HALT, BAR, RXWIN and TRAP, the command takes the slot with the change of flow,
the window or the cause that the operation table gives: a target outside the program is ADDRESS, a fifth nested loop LOOP,
and TRAP raises PROGRAM. NOP in any slot writes nothing, and for a bundle with no valid slot left it ends the bundle.
(R238, R250, R252, R253, R256) -/
def Obligations.ControlSlotsRun : Prop :=
  (SlotRuns .br 4 1 (fun s k =>
      match s.targetOf k with
      | none => ([2], [])
      | some t => ([], if condHolds (bits k.x 20 4) k.ca k.cb then [.goto_ t] else []))) ∧
  (SlotRuns .jmp 4 2 (fun s k =>
      match s.targetOf k with
      | none => ([2], [])
      | some t => ([], [.goto_ t]))) ∧
  (SlotRuns .loop 4 3 (fun s k =>
      match s.targetOf k with
      | none => ([2], [])
      | some t => (if 4 ≤ k.n.loops.length ∧ k.ca ≠ 0 then [6] else [], [.enterLoop t k.ca]))) ∧
  (SlotRuns .halt 4 4 (fun _ _ => ([], [.halt]))) ∧
  (SlotRuns .bar 4 5 (fun _ _ => ([], [.bar]))) ∧
  (SlotRuns .rxwin 4 6 (fun _ k => (if scratchBytes < k.ca + k.cb then [2] else [], [.window k.ca k.cb]))) ∧
  (SlotRuns .trap 4 7 (fun _ _ => ([8], []))) ∧
  (∀ (c : Nat) (r : EncRun) (b i : Nat) (s : State), Runs s → SlotReady s c (slotKind i) 0 r b i →
      exec (.nop c) s = .next (s.keep (s.slotTaken c b i ([], [])))) ∧
  (∀ (c : Nat) (r : EncRun) (b : Nat) (s : State), Runs s → tfind s.enc.runs (c / 8) = some r →
      ((s.core c).halted || (s.core c).atBar || s.coreIso c) = false → (s.modelMem r.r.model).prog[(s.core c).pc]? = some b →
      bundleOk b = true → nextSlot b (s.core c).slot = none → exec (.nop c) s = .next (s.keep (s.endBundle c (s.core c))))

/-- Programs, erases, reads and collection of the granary: what each event makes of it. On a node that is awake and not
frozen: a program that fails puts the lost units of its superblock back in the queue, retires the block and counts; a
program of a page of a superblock that the stream fills already counts it, settles its units and places their pages; below
1 % of free blocks the victim's units move and are counted; a collected block without valid units is blank again with one
erase more, or retired when the erase fails; a read is counted with its retries; the map segment that is due is written;
the age counter rises by one minute; a LUN's temperature is kept. (R199, R200, R201, R203, R206, R207, R209) -/
def Obligations.FlashEventsRun : Prop :=
  (∀ (stream : Nat) (at_ : FlashPage) (units lost : List FlashUnit) (sup : Super) (u s : State), Runs s → stream < 6 →
      s.superFor stream at_ = some sup → (s.blk (blockKey at_)).st < 2 → s.gran.profile.pages ≠ 0 →
      lost = units ++ sup.units.filter (fun u => match unitPage u with
        | some l => decide ((tfind s.gran.map l).map mapBlock = some (blockKey at_))
        | none => false) →
      u = (((s.tallyN .GRAN_PROG_FAILS).tallyN .GRAN_PARITY_RECOVERED ((s.blk (blockKey at_)).pages + 1)).retire (blockKey at_)).modGran (fun g => { g with
        rewrite := g.rewrite ++ lost.map (fun u => (stream, u)), supers := g.supers.map (fun u => { u with blocks := u.blocks.filter (fun x => decide (x ≠ blockKey at_)) }) }) →
      exec (.flashProgramDone stream at_ units false) s = .next (s.keep (u.lunFail (blockKey at_)))) ∧
  (∀ (stream b : Nat) (at_ : FlashPage) (sup : Super) (u s : State), Runs s → stream < 6 → b = blockKey at_ →
      s.superFor stream at_ = some sup → sup.blocks.contains b = true → (s.blk b).st < 2 → s.gran.profile.pages ≠ 0 →
      u = s.setBlk b (fun x => { x with
        st := if x.pages + 1 < s.gran.profile.pages then 1 else 2, pages := x.pages + 1,
        ageW := if x.pages = 0 then s.get Reg.GRAN_AGE_AGE else x.ageW, tempW := if x.pages = 0 then tget 0 s.gran.lunTemp (lunOf b) else x.tempW }) →
      exec (.flashProgramDone stream at_ [] true) s = .next (s.keep (u.modGran fun g => { g with
        seq := g.seq + 1,
        supers := g.supers.map (fun x => if x = sup then { sup with full := sup.blocks.all (fun y => decide ((u.blk y).pages = s.gran.profile.pages)) } else x) }))) ∧
  (∀ (lun b : Nat) (s : State), Runs s → 100 * s.freeBlocks lun < s.lunBlocks → s.victim lun = some b →
      exec (.gcTrigger lun) s = .next (s.keep ((s.tallyN .GRAN_GC_UNITS (s.blk b).valid).moveUnits b))) ∧
  (∀ (block n : Nat) (u s : State), Runs s → s.gran.collecting.contains block = true → (s.blk block).valid = 0 →
      u = s.modGran (fun g => { g with collecting := g.collecting.filter (fun b => decide (b ≠ block)) }) → n = (s.blk block).erases + 1 →
      exec (.flashEraseDone block true) s = .next (s.keep ((u.setBlk block (fun _ => { Block.blank with erases := n })).set
        (Reg.GRAN_CH_MAX_ERASE (chanOf block)) (max n ((u.setBlk block (fun _ => { Block.blank with erases := n })).get (Reg.GRAN_CH_MAX_ERASE (chanOf block)))))) ∧
      exec (.flashEraseDone block false) s = .next (s.keep (((u.tallyN .GRAN_ERASE_FAILS).retire block).lunFail block))) ∧
  (∀ (lpage retries r w : Nat) (soft : Bool) (u s : State), Runs s → tfind s.gran.map lpage = some w → r = min retries (s.get Reg.GRAN_CFG_RETRY_MAX) →
      u = ((s.tallyN .GRAN_READS).tallyN .GRAN_RETRIES r).tallyN .GRAN_SOFT_READS (b2n soft) →
      exec (.flashReadDone lpage retries soft true) s = .next (s.keep (u.retain (mapBlock w) r)) ∧
      exec (.flashReadDone lpage retries soft false) s = .next (s.keep ((u.recoverFrame lpage (mapBlock w)).retain (mapBlock w) r))) ∧
  (∀ s : State, Runs s → s.gran.ckptTick + s.get Reg.GRAN_CFG_CKPT_SECONDS * second / 1024 ≤ s.now →
      exec .checkpointTimer s = .next (s.keep ((s.modGran fun g => { g with
        ckpt := tput g.ckpt g.ckptNext g.seq, ckptNext := (g.ckptNext + 1) % 1024, ckptTick := s.now }).tallyN .GRAN_CKPT_SEGMENTS))) ∧
  (∀ s : State, Runs s → s.gran.ageTick + 60 * second ≤ s.now →
      exec .ageTick s = .next ((s.modGran fun g => { g with ageTick := g.ageTick + 60 * second }).stick Reg.GRAN_AGE_AGE 1)) ∧
  (∀ (lun temp : Nat) (s : State), Runs s → lun < 128 →
      exec (.lunTempSample lun temp) s = .next { s with gran := { s.gran with lunTemp := tset 0 s.gran.lunTemp lun temp } })

/-- Refresh, thermal and scan events of the stacks: what each makes of a node. A refresh that is due is granted on a
powered node, frozen or not, counting an NBU that yields. On a running node: activations above the scan governor's
allowance are counted and show GOV_HOLD; a stack timer off by more than 3 % is a fault of its controller; a bank's via is
remapped and its row repaired; a channel whose cause holds fails once; a channel rebuild takes effect, and chunks that
arrive lower what is left; a scrubbed chunk that decodes is counted as corrected, and one that does not is recovered. A
hot stack that has been cool for 10 ms leaves the hot band. An awake node shows the readings of a stack's hottest die, and
acts on 83, 105 and 110 °C. (R159, R162, R169, R171, R173, R179, R181, R182, R185, R187) -/
def Obligations.StackEventsRun : Prop :=
  (∀ (bank time : Nat) (busy : Bool) (s : State), s.pwr.rails = true → bank < 8192 →
      tget 0 s.stk.refreshAt bank + s.refreshPeriod (bank / 1024) ≤ time →
      exec (.refreshDue bank time busy) s = .next (s.keep
        ((s.modStk fun k => { k with refreshAt := tset 0 k.refreshAt bank time }).tallyN .NBU_REFRESH_YIELDS (b2n busy)))) ∧
  (∀ (stack demand : Nat) (u s : State), Runs s → stack < 8 →
      u = (s.tallyN .NBU_GOV_HOLDS (demand - s.scanAllow stack)).setB (Reg.NBU_STACK_GOV_HOLD stack) (decide (s.scanAllow stack < demand)) →
      exec (.scanGovernorTick stack demand) s = .next (s.keep
        (u.setB Reg.NBU_STATUS_GOV_HOLD (allStacks.any (fun k => u.flag (Reg.NBU_STACK_GOV_HOLD k)))))) ∧
  (∀ (stack periods ticks : Nat) (s : State), Runs s → 12 * ticks < 100 * (periods - 4 * ticks + (4 * ticks - periods)) →
      exec (.stackTimerCrosscheck stack periods ticks) s = .next (s.keep (s.react 12 .other stack 5 0 periods))) ∧
  (∀ (stack : Nat) (s : State), stack < 8 → s.flag (Reg.STACK_TEMP_HOT stack) = true → tget 0 s.stk.coolFrom stack ≠ 0 →
      tget 0 s.stk.coolFrom stack + 250000 ≤ s.now + 1 → exec (.hotBandExit stack) s = .next (s.keep (s.showHot stack false))) ∧
  (∀ (a : ChunkAddr) (burst : List Byte) (cls : Nat) (redo : Option Bool) (s : State), Runs s →
      (rsDecode burst (a.row * 512 + a.bank * 32 + a.col) (s.erasures a.chan) = none →
        exec (.scrubDue a burst cls redo) s = .next (s.keep (s.recoverChunk a cls redo))) ∧
      (∀ x, rsDecode burst (a.row * 512 + a.bank * 32 + a.col) (s.erasures a.chan) = some x → exec (.scrubDue a burst cls redo) s = .next (s.keep
        ((s.tallyN .STK_CORRECTED (b2n (!x.2.isEmpty))).tallyN .STK_ERASURE_DECODES (b2n (!(s.erasures a.chan).isEmpty)))))) ∧
  (∀ (chan via : Nat) (s : State), Runs s → chan < 512 → via < 232 → exec (.viaRemap chan via) s = .next (s.keep (s.remapVia chan via))) ∧
  (∀ (chan bank row : Nat) (s : State), Runs s → chan < 512 → bank < 16 → exec (.rowRepair chan bank row) s = .next (s.keep (s.repairRow chan bank row))) ∧
  (∀ (chan : Nat) (cause : ChanCause) (s : State), Runs s → chan < 512 → s.get (Reg.STACK_CH_STATE chan) = 0 → s.chanFails chan cause = true →
      exec (.channelFail chan cause) s = .next (s.keep (s.failChannel chan))) ∧
  (∀ (chan : Nat) (s : State), Runs s → exec (.channelRebuildDone chan) s = .next { s with stk := { s.stk with
        rebuilds := lmod (fun r => decide (r.ch = chan)) (fun r => { r with left := (0, 0, 0), done := true }) s.stk.rebuilds } }) ∧
  (∀ (chan priv coded reb : Nat) (s : State), Runs s → exec (.chunks chan priv coded reb) s = .next { s with stk := { s.stk with
        rebuilds := lmod (fun r => decide (r.ch = chan)) (fun r => { r with left := (r.left.1 - priv, r.left.2.1 - coded, r.left.2.2 - reb) }) s.stk.rebuilds } })

/-- A reading of a stack's dies: the hot band, the halved scan rows and the critical bit. On an awake node, for the
readings of the dies of one of its eight stacks: TEMP_MAX, TEMP_MIN and the hottest die show; at 83 °C or above the stack
enters the hot band; above 105 °C SCAN_HALVED is set, with THERM_EVT and the fault event where it was clear, and else
cleared; CRIT is set exactly at 110 °C or above; then the node's thermal limits are judged. A cool reading of 80 °C or
below starts the stack's cooling time, another ends it. (THERM_EVT is set where SCAN_HALVED rises: the model's reading of
the spec.) (R173, R187, R442) -/
def Obligations.StackThermalBands : Prop :=
  ∀ (stack from_ mx : Nat) (dies : List Nat) (a b c d s : State), s.awake = true → stack < 8 → dies ≠ [] → mx = dies.foldl max 0 →
    a = ((s.set (Reg.STACK_TEMP_MAX_C stack) mx).set (Reg.STACK_TEMP_MIN_C stack) (dies.foldl min mx)).set (Reg.STACK_TEMP_HOTTEST_DIE stack) (hottest dies) →
    b = (if 83 ≤ mx then a.showHot stack true else a) →
    from_ = (if mx ≤ 80 then (if tget 0 b.stk.coolFrom stack = 0 then b.now + 1 else tget 0 b.stk.coolFrom stack) else 0) →
    c = b.modStk (fun k => { k with coolFrom := tset 0 k.coolFrom stack from_ }) →
    d = (if 105 < mx ∧ c.flag (Reg.STACK_TEMP_SCAN_HALVED stack) = false then (c.setB Reg.STACK_STATUS_THERM_EVT true).faultEvent else c) →
    exec (.stackThermalReading stack dies) s = .next { (((d.setB (Reg.STACK_TEMP_SCAN_HALVED stack) (decide (105 < mx))).setB
      (Reg.STACK_TEMP_CRIT stack) (decide (110 ≤ mx))).thermal) with pending := s.pending }

/-- Synchronisation operations: what each makes of an enabled object of the host's partition. For a host bound here whose
enabled partition holds the enabled object, with REPLY a multiple of 16 and a code that the object's type allows, the
operation is counted and: ADD adds, saturating at 2^64 − 1; TAKE takes ARG where the value covers it and no TAKE waits,
and queues otherwise; SET sets; READ replies; WAIT replies where the value covers ARG, and queues otherwise; CANCEL
removes the host's waiters of that tag. A reserved code completes with BAD_DESCRIPTOR, a badly formed write is refused and
counted, and a write of CTL replaces the object's control fields. (R336, R337, R338, R346) -/
def Obligations.SyncOperationsRun : Prop :=
  (∀ (h : HostReq) (p o arg reply tag code : Nat) (w : SyncWaiter) (u s : State), Takes s → Bound s h p → s.syncOwner o = p → o < 131072 →
      reply % 16 = 0 → syncAllowed (s.get (Reg.SYNC_TYPE o)) code = true → s.flag (Reg.SYNC_ENABLE o) = true → s.flag (Reg.PART_CFG_ENABLE p) = true →
      u = (s.tallyP .SYNC_OPS p).stick (Reg.SYNC_OPS o) 1 →
      w = { take := decide (code = 2), pid := h.pid, arg := arg % 2 ^ 64, reply := reply, tag := tag % 65536 } →
      (code = 1 → u.syncValue o + w.arg < 2 ^ 64 → exec (.syncAdd h o arg reply tag false) s = .next (s.keep
        (((u.set (Reg.SYNC_VALUE o) (u.syncValue o + w.arg)).syncReply o h.pid reply w.tag 0 1).serveSync o))) ∧
      (code = 1 → 2 ^ 64 ≤ u.syncValue o + w.arg → exec (.syncAdd h o arg reply tag false) s = .next (s.keep
        ((((u.tallyP .SYNC_SATURATED p).set (Reg.SYNC_VALUE o) (2 ^ 64 - 1)).syncReply o h.pid reply w.tag 0 1).serveSync o))) ∧
      (code = 2 → w.arg ≤ u.syncValue o → (u.waitersOf o).any (·.take) = false → exec (.syncTake h o arg reply tag false) s = .next (s.keep
        (((u.set (Reg.SYNC_VALUE o) (u.syncValue o - w.arg)).syncReply o h.pid reply w.tag 0 2).serveSync o))) ∧
      (code = 2 → u.syncValue o < w.arg → exec (.syncTake h o arg reply tag false) s = .next (s.keep (u.syncQueue o w 2))) ∧
      (code = 3 → exec (.syncSet h o arg reply tag false) s = .next (s.keep
        (((u.set (Reg.SYNC_VALUE o) w.arg).syncReply o h.pid reply w.tag 0 3).serveSync o))) ∧
      (code = 4 → exec (.syncRead h o arg reply tag false) s = .next (s.keep (u.syncReply o h.pid reply w.tag 0 4))) ∧
      (code = 5 → w.arg ≤ u.syncValue o → exec (.syncWait h o arg reply tag false) s = .next (s.keep (u.syncReply o h.pid reply w.tag 0 5))) ∧
      (code = 5 → u.syncValue o < w.arg → exec (.syncWait h o arg reply tag false) s = .next (s.keep (u.syncQueue o w 5))) ∧
      (code = 6 → exec (.syncCancel h o arg reply tag false) s = .next (s.keep (u.syncApply o p 6 w)))) ∧
  (∀ (h : HostReq) (p o c reply tag : Nat) (s : State), Takes s → Bound s h p → s.syncOwner o = p → o < 131072 → reply % 16 = 0 →
      7 ≤ c → c < 256 → exec (.syncBadOp h o (.badCode c reply tag)) s = .next (s.keep (s.syncReply o h.pid reply (tag % 65536) 5 c))) ∧
  (∀ (h : HostReq) (p o : Nat) (s : State), Takes s → Bound s h p →
      exec (.syncBadOp h o .badShape) s = .next (s.keep (s.tallyP .SYNC_REFUSED p)) ∧
      exec (.syncBadOp h o .badReply) s = .next (s.keep (s.tallyP .SYNC_REFUSED p))) ∧
  (∀ (h : HostReq) (p o value : Nat) (u v s : State), Takes s → Bound s h p → s.syncOwner o = p → o < 131072 → bits value 13 11 = 0 → bits value 11 1 = 0 →
      ¬ (bit value 12 = true ∧ s.get (Reg.CXP_VEC_PARTITION (bits value 0 11)) ≠ p) →
      u = (if s.get (Reg.SYNC_TYPE o) ≠ bits value 28 3 ∨ s.flag (Reg.SYNC_ENABLE o) = true ∧ bit value 31 = false then s.syncDrain o else s) →
      v = ((((u.setB (Reg.SYNC_ENABLE o) (bit value 31)).set (Reg.SYNC_TYPE o) (bits value 28 3)).set (Reg.SYNC_RING o) (bits value 24 4)).setB
        (Reg.SYNC_IRQ o) (bit value 12)).set (Reg.SYNC_VECTOR o) (bits value 0 11) →
      exec (.syncCtlWrite h o value) s = .next (s.keep (if bits value 28 3 = 3 then (v.set (Reg.SYNC_VALUE o) 0).serveSync o else v)))

/-- Writes of the control window's own pages: what each makes of a node that serves its hosts. For a host bound here as a
host of partition p: a tally of p is cleared whole; the MSI-X entry of a vector of p is written; the event configuration
of p is written; a free stage slot of p with a bad address or length ends with BAD_DESCRIPTOR, and a free report slot of p
with a step too early ends so too; an aligned write of 4 or 8 bytes outside the object and vector tables writes its words,
and any other is counted in CXP_BAD_ACCESS and changes nothing else; a hint acts on the granules it names. The gate list
goes to its next entry when the one in force has run. (R301, R330, R331, R334, R345, R377, R381, R400, R418, R427, R435,
R462) -/
def Obligations.HostRegisterWritesRun : Prop :=
  (∀ (h : HostReq) (p i value : Nat) (s : State), Takes s → Bound s h p → i < 512 → bits value 48 15 = 0 →
      exec (.tallyClearWrite h p i value) s = .next ((s.set (Reg.TALLY_PART_COUNT p i) 0).set (Reg.TALLY_PART_OVF p i) 0)) ∧
  (∀ (h : HostReq) (p i off bytes value : Nat) (s : State), Takes s → Bound s h p → i < 2048 → s.get (Reg.CXP_VEC_PARTITION i) = p →
      exec (.msixTableWrite h i off bytes value) s = .next (s.keep (s.writeMsix p i off bytes value))) ∧
  (∀ (h : HostReq) (p value : Nat) (s : State), Takes s → Bound s h p → bits value 11 20 = 0 → bit value 31 = false →
      exec (.partEvtCfgWrite h p value) s = .next ((s.setB (Reg.PART_EVT_CFG_ENABLE p) false).set (Reg.PART_EVT_CFG_VECTOR p) (bits value 0 11))) ∧
  (∀ (h : HostReq) (p value : Nat) (u s : State), Takes s → Bound s h p → bits value 11 20 = 0 → bit value 31 = true →
      u = (s.setB (Reg.PART_EVT_CFG_ENABLE p) true).set (Reg.PART_EVT_CFG_VECTOR p) (bits value 0 11) →
      exec (.partEvtCfgWrite h p value) s = .next (s.keep (if !s.flag (Reg.PART_EVT_CFG_ENABLE p) && u.anyEvent p then u.raiseEvt p else u))) ∧
  (∀ (h : HostReq) (p slot : Nat) (data : List Byte) (u s : State), Takes s → Bound s h p → slot < 8 → s.get (Reg.CFG_STAGE_OP p slot) ≠ 1 →
      u = (((s.set (Reg.CFG_STAGE_OP p slot) 1).set (Reg.CFG_STAGE_STATUS p slot) 0).set (Reg.CFG_STAGE_DONE p slot) 0).set (Reg.CFG_STAGE_REASON p slot) 0 →
      u.get (Reg.CFG_STAGE_LENGTH p slot) < 112 ∨ 65528 < u.get (Reg.CFG_STAGE_LENGTH p slot) ∨ u.get (Reg.CFG_STAGE_ADDR p slot) % 64 ≠ 0 →
      exec (.cfgStageSubmit h p slot data) s = .next (s.keep (u.finishSlot
        { slot := { node := u.me, part := p, slot := slot }, status := 5, reason := 7, seq := 0, step := 0 }))) ∧
  (∀ (h : HostReq) (p slot : Nat) (w : ReportWait) (u s : State), Takes s → Bound s h p → slot < 4 → s.get (Reg.SEC_REPORT_OP p slot) ≠ 1 →
      w = { part := p, slot := slot, pid := h.pid, step := s.get (Reg.SEC_REPORT_STEP p slot), dst := s.get (Reg.SEC_REPORT_DST p slot), nonce := s.get (Reg.SEC_REPORT_NONCE p slot), cap := s.get (Reg.SEC_REPORT_CAPACITY p slot) } →
      u = (((s.set (Reg.SEC_REPORT_OP p slot) 1).set (Reg.SEC_REPORT_STATUS p slot) 0).set (Reg.SEC_REPORT_DONE p slot) 0).set (Reg.SEC_REPORT_LENGTH p slot) 0 →
      (w.step < u.openStep + 2 → exec (.secReportRequest h p slot) s = .next (s.keep (u.endReport w 5 []))) ∧
      (u.openStep + 2 ≤ w.step → w.step ≤ u.openStep + 2 ^ 20 → w.dst % 64 = 0 →
        exec (.secReportRequest h p slot) s = .next (s.keep (u.modCfg fun k => { k with reports := k.reports ++ [w] })))) ∧
  (∀ (h : HostReq) (p a bytes value : Nat) (s : State), Takes s → Bound s h p → a < 0x800000 ∨ 0x1000000 ≤ a ∧ a < 0x1820000 →
      (bytes = 4 ∨ bytes = 8 → a % bytes = 0 → exec (.registerWrite h a bytes value) s = .next (s.keep (s.writeRegs h p (writeWords a bytes value)))) ∧
      (bytes ≠ 4 → bytes ≠ 8 → exec (.registerWrite h a bytes value) s = .next (s.keep (s.tallyN .CXP_BAD_ACCESS)))) ∧
  (∀ (h : HostReq) (p value : Nat) (s : State), Takes s → Bound s h p → value % 4 ≠ 0 →
      exec (.homeHintWrite h value) s = .next (s.keep ((List.range (value / 4 % 1024 + 1)).foldl
        (fun s i => s.hintGranule h.pid p (value % 4) (value % 2 ^ 64 / 4096 + i)) s))) ∧
  (∀ (l e : Nat) (s : State), Runs s → l = s.get Reg.SHAPE_STATUS_ACTIVE_LIST → e = s.host.gateEntry →
      e + 1 < s.get (Reg.SHAPE_GATE_HDR_COUNT l) → s.host.gateStart + s.get (Reg.SHAPE_GATE_DURATION l e) ≤ s.now →
      exec .gateEntryExpiry s = .next { s with host := { s.host with
        gateEntry := e + 1, gateStart := s.host.gateStart + s.get (Reg.SHAPE_GATE_DURATION l e) } })

/-- Decoders, resets and keys of a host's function: what each command makes of a running node. For a host that may
configure its function here, inside a stream where REQUIRE_IDE asks for one: a decoder commit of 1-way interleave and the
fixed size maps the window and clears its error, another sets the error bit; a function-level reset begins; the key of a
selective stream is set over a secured session, or both of a port's. RESET is kept and applied at its step; the
confirmations of every member end it. (R332, R339, R341, R343, R344) -/
def Obligations.HostFunctionRuns : Prop :=
  (∀ (h : HostReq) (size base : Nat) (c : HostCtx) (s : State), Takes s → Configures s h → s.flag Reg.CXP_CFG_REQUIRE_IDE = false ∨ h.ide = true → c = s.ctx h.pid →
      (size = s.shmSize → exec (.hdmDecoderCommit h false 1 size base) s = .next (s.setCtx h.pid { c with
        hdmShared := some base, hdmErr := if bit c.hdmErr 0 then c.hdmErr ^^^ 1 else c.hdmErr })) ∧
      (size = s.exporters * s.resBytes → exec (.hdmDecoderCommit h true 1 size base) s = .next (s.setCtx h.pid { c with
        hdmBank := some base, hdmErr := if bit c.hdmErr 1 then c.hdmErr ^^^ 2 else c.hdmErr })) ∧
      (∀ ways, ways ≠ 1 ∨ size ≠ s.shmSize → exec (.hdmDecoderCommit h false ways size base) s = .next (s.setCtx h.pid { c with hdmErr := c.hdmErr ||| 1 })) ∧
      (∀ ways, ways ≠ 1 ∨ size ≠ s.exporters * s.resBytes →
        exec (.hdmDecoderCommit h true ways size base) s = .next (s.setCtx h.pid { c with hdmErr := c.hdmErr ||| 2 }))) ∧
  (∀ (h : HostReq) (s : State), Takes s → Configures s h → s.flag Reg.CXP_CFG_REQUIRE_IDE = false ∨ h.ide = true →
      exec (.functionLevelReset h) s = .next (s.keep (s.beginReset h.pid false))) ∧
  (∀ (h : HostReq) (s : State), Takes s → Configures s h → (s.ctx h.pid).spdm.session = true →
      exec (.ideKeySet h false) s = .next (s.setCtx h.pid { s.ctx h.pid with ideKeyed := true }) ∧
      (h.port < 2 → exec (.ideKeySet h true) s = .next ((s.set (Reg.CXP_PORT_IO_IDE h.port) 1).set (Reg.CXP_PORT_MEM_IDE h.port)
        (s.get Reg.CXP_CFG_MEM_IDE_MODE)))) ∧
  (∀ (pid step src : Nat) (s : State), Runs s →
      exec (.reset pid step src) s = .next (s.keep (s.modHost fun k => { k with resets := k.resets ++ [(pid, step, src)] }).runResets)) ∧
  (∀ (pid step src : Nat) (got : List Nat) (s : State), Runs s → (s.ctx pid).resetStep = some step →
      got = (if (s.ctx pid).confirmed.contains src then (s.ctx pid).confirmed else (s.ctx pid).confirmed ++ [src]) →
      (s.me :: s.otherMembers).all (fun n => got.contains n) = false →
      exec (.resetConfirm pid step src) s = .next (s.setCtx pid { s.ctx pid with confirmed := got }))

/-- SPDM requests in their turn: the response of each and the state of the exchange. For a host that may configure its
function here: GET_VERSION answers 1.2 and begins the exchange anew; GET_CAPABILITIES, NEGOTIATE_ALGORITHMS, GET_DIGESTS,
GET_CERTIFICATE, CHALLENGE, GET_MEASUREMENTS and KEY_EXCHANGE, each at its stage, answer as the protocol says and move the
exchange on; FINISH establishes the session; HEARTBEAT, KEY_UPDATE and END_SESSION act within it, the last dropping the
key of its stream; any other request is answered with UnsupportedRequest. (R340, R426) -/
def Obligations.SpdmRequestsRun : Prop :=
  (∀ (h : HostReq) (s : State), Takes s → Configures s h →
      exec (.getVersion h) s = .next ((s.setSpdm h { HostCtx.fresh.spdm with stage := 1 }).spdmSay h 0x04 [0x12#8]) ∧
      exec (.spdmUnsupported h) s = .next (s.spdmErr h 7)) ∧
  (∀ (h : HostReq) (x : Spdm) (s : State), Takes s → Configures s h → x = (s.ctx h.pid).spdm →
      (x.stage = 1 → exec (.getCapabilities h) s = .next
        ((s.setSpdm h { x with stage := 2 }).spdmSay h 0x61 [BitVec.ofNat 8 (s.get Reg.CXP_CFG_MUTUAL_AUTH)])) ∧
      (x.stage = 2 → exec (.negotiateAlgorithms h true) s = .next ((s.setSpdm h { x with stage := 3 }).spdmSay h 0x63 []) ∧
        exec (.negotiateAlgorithms h false) s = .next (s.spdmErr h 1)) ∧
      (x.ready = true → exec (.getDigests h) s = .next (s.spdmSay h 0x01 (digestBytes (Config.sm3 s.cfg.chainDer)))) ∧
      (∀ offset length, x.ready = true → exec (.getCertificate h offset length) s =
        .next (s.spdmSay h 0x02 ((s.cfg.chainDer.drop offset).take length))) ∧
      (∀ nonce, x.ready = true → exec (.challenge h nonce) s = .next (s.spdmSay h 0x03
        (digestBytes (Config.sm3 s.cfg.chainDer) ++ Config.sm2Sign (nonce ++ digestBytes (Config.sm3 s.cfg.chainDer))))) ∧
      (∀ index nonce, x.ready = true → 1 ≤ index → index ≤ 8 → exec (.getMeasurements h index true nonce) s = .next (s.spdmSay h 0x60
        (s.measurement index ++ Config.sm2Sign (nonce ++ s.measurement index)))) ∧
      (∀ nonce, x.ready = true → exec (.getMeasurements h 0 false nonce) s = .next (s.spdmSay h 0x60 (natLe 1 8 ++ []))) ∧
      (∀ data, x.ready = true → exec (.keyExchange h data true) s = .next
        ((s.setSpdm h { x with keyed := true, session := false }).spdmSay h 0x64 (Config.sm2Sign data))) ∧
      (x.keyed = true → exec (.finish h true) s = .next
        ((s.setSpdm h { x with keyed := false, session := true, keyGen := 0 }).spdmSay h 0x65 []) ∧
        exec (.finish h false) s = .next ((s.setSpdm h { x with keyed := false }).spdmErr h 6)) ∧
      (x.session = true → exec (.spdmHeartbeat h) s = .next (s.spdmSay h 0x68 []) ∧
        exec (.keyUpdate h) s = .next ((s.setSpdm h { x with keyGen := x.keyGen + 1 }).spdmSay h 0x69 []) ∧
        exec (.endSession h) s = .next (((s.setSpdm h { x with session := false }).setCtx h.pid
          { (s.setSpdm h { x with session := false }).ctx h.pid with ideKeyed := false }).spdmSay h 0x6C [])))

/-- Ports and lost hosts: what each event makes of a node. On a running node: a link that comes up on a port out of reset
shows its width, rate and PID; a link that goes down takes its port down; an IDE integrity failure is counted, sets
IDE_FAIL_EVT, drops the keys and takes the link down; a back-invalidation unanswered for tBI and a switch port down
declare the host lost. On any node CXL_PERST_N low holds the port in reset, and high lets a port in reset train. (R314,
R329, R339, R450) -/
def Obligations.CxlPortEventsRun : Prop :=
  (∀ (port width rate pid : Nat) (s : State), Runs s → port < 2 → s.pwr.perst.contains port = false →
      exec (.cxlLinkUp port width rate pid) s = .next (((((s.set (Reg.CXP_PORT_STATE port) 2).set (Reg.CXP_PORT_WIDTH port) width).set
        (Reg.CXP_PORT_RATE_GTS port) rate).set (Reg.CXP_PORT_PORT_PID port) pid).showPort port true)) ∧
  (∀ (port : Nat) (s : State), Runs s → port < 2 → s.get (Reg.CXP_PORT_STATE port) ≠ 0 →
      exec (.cxlLinkDown port) s = .next (s.keep (s.portDown port 0))) ∧
  (∀ (port : Nat) (drop : Tab HostCtx → Tab HostCtx) (u s : State), Runs s → port < 2 →
      drop = (fun t => (t.map (fun e => (e.1, { e.2 with ideKeyed := false }))).filter (fun e => decide (e.2 ≠ HostCtx.fresh))) →
      u = (((s.tallyN .CXP_IDE_FAIL).setB Reg.CXP_STATUS_IDE_FAIL_EVT true).set (Reg.CXP_PORT_IO_IDE port) 0).set (Reg.CXP_PORT_MEM_IDE port) 0 →
      exec (.ideIntegrityFail port) s = .next (s.keep ((u.modHost fun k => { k with ctx := drop k.ctx }).portDown port 0))) ∧
  (∀ (pid line : Nat) (s : State), Runs s →
      s.home.bisnp.any (fun b => decide (b.1 = line ∧ b.2.1 = pid ∧ b.2.2.2 + 2500 ≤ s.now)) = true →
      exec (.biTimeout pid line) s = .next (s.keep (s.declareLost pid 0))) ∧
  (∀ (pid : Nat) (s : State), Runs s → exec (.switchPortDown pid) s = .next (s.keep (s.declareLost pid 0))) ∧
  (∀ (port : Nat) (u s : State), port < 2 →
      u = s.modPwr (fun p => { p with perst := if p.perst.contains port then p.perst else p.perst ++ [port] }) → u.get (Reg.CXP_PORT_STATE port) ≠ 0 →
      exec (.cxlPerst port true) s = .next (s.keep (u.portDown port 0))) ∧
  (∀ (port : Nat) (u s : State), port < 2 → u = s.modPwr (fun p => { p with perst := p.perst.filter (fun x => decide (x ≠ port)) }) →
      u.get (Reg.CXP_PORT_STATE port) = 0 → exec (.cxlPerst port false) s = .next (u.set (Reg.CXP_PORT_STATE port) 1))

/-- Coherence messages between nodes: what each makes of a running node. On a node that is awake and not frozen: RDS, RDO,
UPG, INV_WRITE and CAS join the home's queue of their line; WBM and EVS give the line up, with its data or without;
SNPDATA and SNPINV are held until the line may be given up; COH_RSP_DATA and GRANT win the line; SNP_RSP, CAS_RSP and
COH_DONE answer what waits for them; a hold that ends lets what waited go on. After each the node serves what it can.
(R302, R307, R308, R309, R310, R311, R312, R320) -/
def Obligations.CoherenceRequestsRun : Prop :=
  (∀ (line src : Nat) (s : State), Runs s →
      exec (.rds line src) s = .next (s.keep (s.homeQueue { line := line, src := src, kind := .rds }).settled) ∧
      exec (.rdo line src) s = .next (s.keep (s.homeQueue { line := line, src := src, kind := .rdo }).settled) ∧
      exec (.upg line src) s = .next (s.keep (s.homeQueue { line := line, src := src, kind := .upg }).settled) ∧
      exec (.evs line src) s = .next (s.keep (s.giveUp line src none).settled) ∧
      exec (.grant line src) s = .next (s.keep (s.won line .exclusive ((s.nodeLine line).map (·.data))).settled)) ∧
  (∀ (line data mask tag src : Nat) (s : State), Runs s →
      exec (.wbm line data src) s = .next (s.keep (s.giveUp line src (some data)).settled) ∧
      exec (.invWrite line data mask tag src) s = .next (s.keep (s.homeQueue { line := line, src := src, kind := .inv data mask tag }).settled)) ∧
  (∀ (id : OpId) (region expect base pid src : Nat) (s : State), Runs s →
      exec (.cas id region expect base pid src) s = .next (s.keep (s.homeQueue {
        line := s.get (Reg.HOME_REGION_DESC_ADDR region) / 64, src := src, kind := .cas id region expect base pid }).settled)) ∧
  (∀ (line src : Nat) (fwd : Option Nat) (s : State), Runs s →
      exec (.snpdata line fwd src) s = .next (s.keep ((s.modHome fun h => { h with
        snoops := h.snoops ++ [{ line := line, home := src, inv := false, fwd := fwd }] }).progress line).settled) ∧
      exec (.snpinv line fwd src) s = .next (s.keep ((s.modHome fun h => { h with
        snoops := h.snoops ++ [{ line := line, home := src, inv := true, fwd := fwd }] }).progress line).settled)) ∧
  (∀ (line : Nat) (st : LineSt) (data : Option Nat) (sent : Bool) (src : Nat) (s : State), Runs s →
      exec (.cohRspData line st data src) s = .next (s.keep ((s.raceRead line data).won line st data).settled) ∧
      exec (.snpRsp line data sent src) s = .next (s.keep (s.snoopAnswer line src data sent).settled)) ∧
  (∀ (id : OpId) (ok : Bool) (version pubStep line tag src : Nat) (s : State), Runs s →
      exec (.casRsp id ok version pubStep src) s = .next (s.keep (s.casAnswer id ok version pubStep).settled) ∧
      exec (.cohDone line tag src) s = .next (s.keep (s.writeDone line tag).settled)) ∧
  (∀ (line : Nat) (s : State), Runs s → exec (.holdExpiry line) s = .next (s.keep (s.progress line).settled))

/-- Fills, write-backs, seals and zeroing at a home: what each event makes of a running node. On a node that is awake and
not frozen: a granule that the flash has read takes a free frame, or the frame of an idle victim; a granule dirty for
WB_SECONDS is written back; a verified superblock ends the flushes that await its granules; a sealed range whose
publication may go on sends the compare-and-swap, and one that lost a line ends with FAILED; a span that is zeroed is no
longer shown as zeroing; the entries of LOST_LOG are kept. (R146, R200, R300, R302, R305, R313, R316, R320) -/
def Obligations.GranuleCacheRuns : Prop :=
  (∀ (granule : Nat) (lost : List Nat) (f : Nat × Nat × Nat) (s : State), Runs s →
      s.home.filling.find? (fun f => decide (f.1 = granule)) = some f → s.cacheFrames.length < s.home.frameCap →
      exec (.granuleFillDone granule lost) s = .next (s.keep (s.fillGranule granule f.2.1 f.2.2 lost).settled)) ∧
  (∀ (granule v : Nat) (lost : List Nat) (f : Nat × Nat × Nat) (u s : State), Runs s →
      s.home.filling.find? (fun f => decide (f.1 = granule)) = some f → s.home.frameCap ≤ s.cacheFrames.length → s.frameVictim = some v →
      u = s.recallGranule v true → u.granuleIdle v = true →
      exec (.granuleFillDone granule lost) s = .next (s.keep ((u.evictFrame v).fillGranule granule f.2.1 f.2.2 lost).settled)) ∧
  (∀ (granule : Nat) (f : Frame) (s : State), Runs s → tfind s.home.frames granule = some f → f.dirtyAt ≠ 0 →
      f.dirtyAt + s.get Reg.HOME_CFG_WB_SECONDS * second ≤ s.now + 1 →
      exec (.writebackTimer granule) s = .next (s.keep (s.writeBack granule))) ∧
  (∀ (stream bad : Nat) (r : State × List FlashUnit) (s : State), Runs s → r = s.verifySuper stream bad →
      exec (.superblockVerify stream bad) s = .next (s.keep (r.1.modHome fun h => { h with
        flushes := h.flushes.map (fun f => { f with pend := f.pend.filter (fun g => !((r.2.map sharedGranules).flatten).contains g) }) }).runFlushes)) ∧
  (∀ (id : OpId) (prevRelease d prev : Nat) (p : Publish) (a : Admitted) (s : State), Runs s →
      s.home.pubs.find? (fun p => decide (p.id = id) && !p.sent && !p.lostRace) = some p → s.adm? id = some a → s.flushed id = true →
      d = s.get (Reg.HOME_REGION_DESC_ADDR p.region) / 64 →
      prev = (if s.homeOf d = s.me ∧ s.cached (d / 64) = true then lineWord (s.lineMem d) 40 else prevRelease) →
      (s.flag (Reg.HOME_RANGE_INCOMPLETE p.stage) = true → exec (.publishSealDone id prevRelease) s = .next (s.keep (s.endPublish p 10 0 0).settled)) ∧
      (s.flag (Reg.HOME_RANGE_INCOMPLETE p.stage) = false → s.openStep < prev →
        exec (.publishSealDone id prevRelease) s = .next (s.keep (s.endPublish p 3 0 0).settled)) ∧
      (s.flag (Reg.HOME_RANGE_INCOMPLETE p.stage) = false → prev ≤ s.openStep →
        exec (.publishSealDone id prevRelease) s = .next (s.keep ((s.modHome fun h => { h with
          pubs := h.pubs.map (fun x => if x = p then { x with sent := true } else x) }).coh (s.homeOf d)
            (.cas id p.region p.expect (s.get (Reg.HOME_RANGE_BASE p.stage)) (a.record / 65536 % 65536))).settled))) ∧
  (∀ (range : Nat) (u s : State), Runs s → s.home.zeroing.contains range = true →
      u = s.modHome (fun h => { h with zeroing := h.zeroing.filter (fun i => decide (i ≠ range)) }) →
      exec (.spanZeroingDone range) s = .next ((u.setB (Reg.HOME_RANGE_ZEROING range) false).setB Reg.HOME_STATUS_ZEROING (!u.home.zeroing.isEmpty))) ∧
  (∀ (entries : List LostEntry) (src : Nat) (s : State), Runs s →
      exec (.lostLog entries src) s = .next (s.keep (entries.foldl State.keepEntry s)))

/-- Host reads and writes of the shared space and page swaps: what each makes of a node that serves its hosts. For a host
whose request passes R304 (bound, granted, its window mapped, the home a member): the three reads wait for their line with
the host's PID and kind; a write to a line that the host holds exclusively merges and completes, another goes to the
line's home. A page-in or page-out of a free slot is started, and ends at once with BAD_DESCRIPTOR where its addresses are
not aligned; a page's lines, once read, go out as invalidating writes, or to the host. A back-invalidation's answer gives
the line up, and one of a lost host is counted. (R303, R304, R309, R312, R313, R314) -/
def Obligations.HostMemoryRequestsRun : Prop :=
  (∀ (h : HostReq) (hpa p i a : Nat) (s : State), Takes s → p = s.hostPart h.pid → s.bindOf h.pid = some i →
      (s.flag Reg.CXP_CFG_REQUIRE_IDE && !h.ide) = false → s.get (Reg.CXP_BIND_ENTRY_NODE i) = s.me → s.flag (Reg.CXP_BIND_MEM_OK i) = true →
      (s.ctx h.pid).fenced = false → s.flag (Reg.PART_CFG_ENABLE p) = true → s.flag Reg.HOME_MODE_SERVING = true → s.flag Reg.HOME_MODE_SWAP_ONLY = false →
      s.sharedAddr h.pid hpa = some a → s.homeUp (a / 64) = true →
      (s.canRead p (some h.pid) (64 * (a / 64)) 64 = true →
        exec (.hostMemrdShared h hpa) s = .next (s.keep (((s.modHome fun k => { k with
          waits := k.waits ++ [{ line := a / 64, pid := h.pid, kind := 0, data := 0, mask := 0 }] }).progress (a / 64)).settled)) ∧
        exec (.hostMemrdAny h hpa) s = .next (s.keep (((s.modHome fun k => { k with
          waits := k.waits ++ [{ line := a / 64, pid := h.pid, kind := 1, data := 0, mask := 0 }] }).progress (a / 64)).settled)) ∧
        exec (.hostMemrdUncached h hpa) s = .next (s.keep (((s.modHome fun k => { k with
          waits := k.waits ++ [{ line := a / 64, pid := h.pid, kind := 2, data := 0, mask := 0 }] }).progress (a / 64)).settled))) ∧
      (∀ (data mask : Nat) (k : NodeLine), s.canWrite p (some h.pid) (64 * (a / 64)) 64 = true → s.sealed (a / 64) = false →
        s.nodeLine (a / 64) = some k → k.hosts.contains (h.pid, true) = true →
        exec (.hostMemwrHeld h hpa data mask) s = .next (s.keep ((((s.modLine (a / 64) (fun k => { k with
          st := .modified, data := mergeMask k.data data (mask % 2 ^ 64), used := true })).emit (.memDone h.pid (a / 64))).progress (a / 64)).settled))) ∧
      (∀ (data mask : Nat), s.canWrite p (some h.pid) (64 * (a / 64)) 64 = true → s.sealed (a / 64) = false → s.nodeLine (a / 64) = none →
        exec (.hostMemwrInvalidating h hpa data mask) s = .next (s.keep (((s.modHome fun k => { k with
          waits := k.waits ++ [{ line := a / 64, pid := h.pid, kind := 3, data := data, mask := mask % 2 ^ 64 }] }).invWrite (a / 64) data (mask % 2 ^ 64) (hostTag h.pid)).settled)))) ∧
  (∀ (h : HostReq) (p slot : Nat) (s : State), Takes s → Bound s h p → slot < 16 → s.get (Reg.HOME_SWAP_OP p slot) = 0 →
      (∀ u : State, u = (s.set (Reg.HOME_SWAP_OP p slot) 1).set (Reg.HOME_SWAP_DONE p slot) 0 → u.get (Reg.HOME_SWAP_SHM_ADDR p slot) % 65536 ≠ 0 →
        exec (.pageIn h p slot) s = .next (s.keep (u.swapDone p slot 5))) ∧
      (∀ u : State, u = (s.set (Reg.HOME_SWAP_OP p slot) 2).set (Reg.HOME_SWAP_DONE p slot) 0 → u.get (Reg.HOME_SWAP_SHM_ADDR p slot) % 65536 ≠ 0 →
        exec (.pageOut h p slot) s = .next (s.keep (u.swapDone p slot 5)))) ∧
  (∀ (h : HostReq) (p slot a b : Nat) (u s : State), Takes s → Bound s h p → slot < 16 → s.get (Reg.HOME_SWAP_OP p slot) = 0 →
      u = (s.set (Reg.HOME_SWAP_OP p slot) 1).set (Reg.HOME_SWAP_DONE p slot) 0 → a = u.get (Reg.HOME_SWAP_SHM_ADDR p slot) →
      b = u.get (Reg.HOME_SWAP_HOST_ADDR p slot) → a % 65536 = 0 → b % 4096 = 0 → u.canWrite p (some h.pid) a 65536 = true → u.pageHomesUp a = true →
      exec (.pageIn h p slot) s = .next (s.keep ((u.modHome fun k => { k with
        swaps := k.swaps ++ [{ part := p, slot := slot, pid := h.pid, op := 1, addr := a, host := b, writing := false }] }).emit (.hostRead h.pid b 65536)))) ∧
  (∀ (h : HostReq) (p slot a b : Nat) (u v s : State), Takes s → Bound s h p → slot < 16 → s.get (Reg.HOME_SWAP_OP p slot) = 0 →
      u = (s.set (Reg.HOME_SWAP_OP p slot) 2).set (Reg.HOME_SWAP_DONE p slot) 0 → a = u.get (Reg.HOME_SWAP_SHM_ADDR p slot) →
      b = u.get (Reg.HOME_SWAP_HOST_ADDR p slot) → a % 65536 = 0 → b % 4096 = 0 → u.canRead p (some h.pid) a 65536 = true → u.pageHomesUp a = true →
      v = u.modHome (fun k => { k with
        swaps := k.swaps ++ [{ part := p, slot := slot, pid := h.pid, op := 2, addr := a, host := b, writing := false }] }) →
      exec (.pageOut h p slot) s = .next (s.keep ((((List.range 16).filter (fun i => decide (v.homeNode (a / 4096 + i) = v.me))).foldl
        (fun s i => s.recallGranule (a / 4096 + i) false) v).settled))) ∧
  (∀ (p slot : Nat) (lines : List Nat) (w : Swap) (lost : Bool) (s : State), Runs s →
      s.home.swaps.find? (fun w => decide (w.part = p ∧ w.slot = slot) && !w.writing) = some w → w.op = 1 →
      exec (.swapDmaDone p slot lines lost) s = .next (s.keep ((List.range 1024).foldl
        (fun s i => s.invWrite (w.addr / 64 + i) (lines.getD i 0) fullMask (swapTag p slot))
        (s.modHome fun k => { k with swaps := k.swaps.map (fun x => if x = w then { x with writing := true } else x) })).settled)) ∧
  (∀ (pid line : Nat) (data : Option Nat) (s : State), Runs s → (s.ctx pid).fenced = true →
      exec (.bisnpResponse pid line data) s = .next (s.keep (s.tallyP .SHM_BI_LATE (s.hostPart pid)))) ∧
  (∀ (pid line v : Nat) (b : Nat × Nat × Bool × Nat) (s : State), Runs s → (s.ctx pid).fenced = false →
      s.home.bisnp.find? (fun b => decide (b.1 = line ∧ b.2.1 = pid)) = some b → b.2.2.1 = true →
      exec (.bisnpResponse pid line (some v)) s = .next (s.keep (((s.modHome fun h => { h with bisnp := h.bisnp.erase b }).modLine line (fun k => { k with
        data := v, st := .modified, hosts := k.hosts.filter (fun x => decide (x.1 ≠ pid)) })).progress line).settled))

/-- Tests, watchdogs, codewords and reactions: what each makes of a running node. On a node that is awake and not frozen:
a clean test of a unit that is not isolated changes nothing, by the test cycle or by the TEST operation of a bank; a
failed one is a latent fault; a clean test of an isolated unit counts towards its re-admission and the 1000th of a unit
isolated fewer than twice marks it for the next step boundary where the policy re-admits; a failed one begins the count
again; the last test of a cycle also ends the cycle. A watchdog of WDOG_TICKS or more on a handshake that waits on nothing
outside the die is counted, reacted to as mechanism 7 and its results withheld; an invalid codeword likewise as mechanism
6; a check's report is reacted to with the results it withholds; a lockstep mismatch shows LOCKSTEP_FAIL and reacts as a
node fault. FAULT_N is released once its time has come and neither NODE_FAULT nor a trip holds it. (R15, R152, R387, R389,
R391, R392, R393, R394, R396, R397) -/
def Obligations.SafetyEventsRun : Prop :=
  (∀ (cls : UnitClass) (unit : Nat) (s : State), Runs s → s.safe.isolated.contains (cls, unit) = false →
      exec (.rollingTest cls unit true false) s = .next s ∧
      exec (.rollingTest cls unit false false) s = .next (s.keep (s.testFailed cls unit))) ∧
  (∀ (bank : Nat) (s : State), Runs s → s.safe.isolated.contains (.nbu, bank) = false →
      exec (.nbuTest bank true) s = .next s ∧ exec (.nbuTest bank false) s = .next (s.keep (s.testFailed .nbu bank))) ∧
  (∀ (cls : UnitClass) (unit k : Nat) (s : State), Runs s → s.safe.isolated.contains (cls, unit) = true → k = unitKey cls unit →
      exec (.rollingTest cls unit false false) s = .next (s.keep (s.modSafe fun x => { x with clean := tset 0 x.clean k 0 })) ∧
      (tget 0 s.safe.clean k + 1 < 1000 →
        exec (.rollingTest cls unit true false) s = .next (s.keep (s.modSafe fun x => { x with clean := tset 0 x.clean k (tget 0 s.safe.clean k + 1) }))) ∧
      (1000 ≤ tget 0 s.safe.clean k + 1 → s.get Reg.SAFE_POLICY_READMIT = 1 → tget 0 s.safe.isoTimes k < 2 → s.safe.readmitPending.contains (cls, unit) = false →
        exec (.rollingTest cls unit true false) s = .next (s.keep (s.modSafe fun x => { x with
          clean := tset 0 x.clean k (tget 0 s.safe.clean k + 1), readmitPending := x.readmitPending ++ [(cls, unit)] })))) ∧
  (∀ (cls : UnitClass) (unit : Nat) (ok : Bool) (s : State), Runs s →
      exec (.rollingTest cls unit ok true) s = .next (s.keep ((s.rollTest cls unit ok).endCycle cls unit))) ∧
  (∀ (cls : UnitClass) (unit waited : Nat) (ops : List OpId) (s : State), Runs s → s.get Reg.SAFE_POLICY_WDOG_TICKS ≤ waited →
      exec (.watchdogExpiry cls unit waited false ops) s = .next (s.keep
        ((((s.tallyN .SAFE_WDOG_EXPIRIES).react 7 cls unit 0 ops.length 0).withholdAll ops).withdrawHeld))) ∧
  (∀ (cls : UnitClass) (unit : Nat) (ops : List OpId) (s : State), Runs s →
      exec (.invalidCodeword cls unit ops) s = .next (s.keep
        ((((s.tallyN .SAFE_CODEWORD_FAULTS).react 6 cls unit 0 ops.length 0).withholdAll ops).withdrawHeld))) ∧
  (∀ (mech unit reaction detail : Nat) (cls : UnitClass) (ops : List OpId) (s : State), Runs s →
      exec (.safetyReaction mech cls unit reaction ops detail) s = .next (s.keep
        (((s.react mech cls unit reaction ops.length detail).withholdAll ops).withdrawHeld))) ∧
  (∀ s : State, Runs s →
      exec .lockstepMismatch s = .next (s.keep
        (((s.setB Reg.SAFE_STATUS_LOCKSTEP_FAIL true).react 10 .safety 0 3 s.srch.adm.length 0).withdrawHeld))) ∧
  (∀ (t : Nat) (s : State), Runs s → s.safe.faultUntil = some t → t ≤ s.now → s.flag Reg.SAFE_STATUS_NODE_FAULT = false →
      s.flag Reg.NODE_PWR_STATUS_THERMAL_TRIP = false →
      exec .faultNRelease s = .next ((s.modSafe fun x => { x with faultUntil := none }).setB Reg.SAFE_STATUS_FAULT_N_LOW false))

/-- The freeze's pin and latch, and the JTAG instructions: what each makes of any node. On an awake node in STAGE 6, or
already frozen, the pin's fall and FREEZE set their condition at once; at an earlier stage they wait for its end; on a
node in reset they change nothing. The pin's rise and RESUME take their condition away on any node, and a freeze that
waited waits on only while a condition is left. FREEZE and RESUME answer one bit, the freeze that then stands. DBG_READ
answers status 1 and no data on a node that is not frozen; on a frozen node the 64 bytes of the window, two free values
for an on-die or DRAM address that the debug policy opens (assumption 2: the specification lays out no such address), and
no data where the policy closes it (assumption 35, the model's choice). DBG_STATUS and IDCODE answer their registers;
EXTEST answers the old update register, takes the new value and drives the lands; SAMPLE_PRELOAD loads the update register
and leaves the lands their function, its sample a free value; BYPASS answers 0. (R402, R403, R404, R405, R455) -/
def Obligations.FreezeAndDebugPort : Prop :=
  (∀ s : State, s.awake = true → (s.frozen = true ∨ s.get Reg.CFG_STATUS_STAGE = 6) →
      exec .freezeNFall s = .next (s.keep (s.setFreeze fun k => { k with pinLow := true })) ∧
      (∀ u : State, u = s.setFreeze (fun k => { k with latch := true }) → exec .freeze s = .next (s.keep (u.emit (.jtag (b2n u.frozen) 0))))) ∧
  (∀ s : State, s.awake = true → s.frozen = false → s.get Reg.CFG_STATUS_STAGE ≠ 6 →
      exec .freezeNFall s = .next (s.keep (s.setFreeze fun k => { k with pinLow := true, freezeWait := true })) ∧
      (∀ u : State, u = s.setFreeze (fun k => { k with latch := true, freezeWait := true }) →
        exec .freeze s = .next (s.keep (u.emit (.jtag (b2n u.frozen) 0))))) ∧
  (∀ s : State, s.awake = false → exec .freezeNFall s = .next s ∧ exec .freeze s = .next (s.emit (.jtag (b2n s.frozen) 0))) ∧
  (∀ s : State,
      exec .freezeNRise s = .next (s.keep (s.setFreeze fun k => { k with pinLow := false, freezeWait := k.freezeWait && (false || k.latch) })) ∧
      (∀ u : State, u = s.setFreeze (fun k => { k with latch := false, freezeWait := k.freezeWait && (k.pinLow || false) }) →
        exec .resume s = .next (s.keep (u.emit (.jtag (b2n u.frozen) 0))))) ∧
  (∀ (addr : Nat) (s : State), s.frozen = false → exec (.dbgRead addr) s = .next (s.emit (.jtag 0 1))) ∧
  (∀ (addr : Nat) (s : State), s.frozen = true →
      (addr / 2 ^ 60 = 0 → exec (.dbgRead addr) s = .next (s.emit (.jtag (s.windowUnit 0 (addr % 2 ^ 60 / 64 * 64)) 0))) ∧
      (addr / 2 ^ 60 ≠ 0 → s.dbgOpen (addr / 2 ^ 60) = false → exec (.dbgRead addr) s = .next (s.emit (.jtag 0 0))) ∧
      (addr / 2 ^ 60 ≠ 0 → s.dbgOpen (addr / 2 ^ 60) = true →
        exec (.dbgRead addr) s = .next (s.keep (((s.draw (2 ^ 512)).2.draw (2 ^ 8)).2.emit (.jtag (s.draw (2 ^ 512)).1 ((s.draw (2 ^ 512)).2.draw (2 ^ 8)).1))))) ∧
  (∀ s : State,
      exec .dbgStatus s = .next (s.emit (.jtag (s.windowWord 0 0x1d0000c) 0)) ∧
      exec .idcode s = .next (s.emit (.jtag (s.windowWord 0 0x1d00008) 0)) ∧
      exec .bypass s = .next (({ s with pwr := { s.pwr with extest := false } } : State).emit (.jtag 0 0)) ∧
      (∀ value : Nat, exec (.extest value) s = .next (({ s with pwr := { s.pwr with bscan := value, extest := true } } : State).emit (.jtag s.pwr.bscan 0))) ∧
      (∀ (value : Nat) (u : State), u = (s.draw (2 ^ 64)).2 →
        exec (.samplePreload value) s = .next (s.keep (({ u with pwr := { u.pwr with bscan := value, extest := false } } : State).emit (.jtag (s.draw (2 ^ 64)).1 0)))))

/-- Supply, limiter, temperature and I3C: what each makes of a node. A running node takes a limiter sample 100 µs after
the last one and then shows the input power and voltage and moves the limiter. A fall of PWR_FAIL_N or of PWR_OK, and an
undervoltage seen while PWR_FAIL_N is high, each start the power failure of an awake node; a node in reset only shows the
pins. PWR_OK's rise is seen. A die reading shows and goes through the thermal thresholds on an awake node, and lets a held
release go on one in reset. With the rails good ENTDAA gives the target its address, and a read then answers the status
stream. (R216, R439, R442, R443, R444, R445, R446, R454) -/
def Obligations.PowerEventsRun : Prop :=
  (∀ (avgW vin : Nat) (s : State), Runs s → s.pwr.sampleTick + 2500 ≤ s.now →
      exec (.powerLimiterSample avgW vin) s = .next (s.keep
        ((((s.modPwr fun p => { p with sampleTick := s.now }).set Reg.NODE_PWR_STATUS_INPUT_W avgW).set Reg.NODE_PWR_STATUS_VIN_100MV vin).limiter avgW))) ∧
  (∀ s : State, s.awake = true →
      exec .pwrFailNFall s = .next (s.keep (s.modPwr fun p => { p with pwrFailN := false }).powerFail) ∧
      exec .pwrOkFall s = .next (s.keep (s.modPwr fun p => { p with pwrOk := false }).powerFail) ∧
      (s.pwr.pwrFailN = true → exec .undervoltage s = .next (s.keep (s.setB Reg.NODE_PWR_STATUS_UNDERVOLT true).powerFail)) ∧
      (∀ temp : Nat, exec (.dieThermalReading temp) s = .next { (s.set Reg.NODE_PWR_STATUS_DIE_C temp).thermal with pending := s.pending })) ∧
  (∀ s : State, s.awake = false →
      exec .pwrFailNFall s = .next (s.modPwr fun p => { p with pwrFailN := false }) ∧
      exec .pwrOkFall s = .next (s.modPwr fun p => { p with pwrOk := false }) ∧
      (∀ temp : Nat, exec (.dieThermalReading temp) s = .next { (s.set Reg.NODE_PWR_STATUS_DIE_C temp).tryRelease with pending := s.pending })) ∧
  (∀ s : State, exec .pwrOkRise s = .next (s.modPwr fun p => { p with pwrOk := true }) ∧
      exec .pwrFailNRise s = .next (s.modPwr fun p => { p with pwrFailN := true })) ∧
  (∀ (addr : Nat) (s : State), s.pwr.rails = true →
      exec (.i3cEntdaa addr) s = .next (s.modPwr fun p => { p with i3cAddr := some (addr % 128) }) ∧
      (s.pwr.i3cAddr ≠ none → exec .i3cRead s = .next (s.emit (.i3c s.i3cStream))))

/-- Reset, rails and the end of a flush: what each makes of a node, frozen or not. RESET_N's fall resets an awake node,
frozen or not, takes a held release back, and is latched while the power-fail flush runs; its rise holds the release with
the straps as sampled, to take effect at once where nothing stands against it. Good rails let a held release take effect;
rails off reset the node, and its I3C address and a held release are gone. The end of the flush on a running node programs
what was left, and a latched reset follows it. (R216, R405, R442, R443, R445, R446) -/
def Obligations.ResetEventsRun : Prop :=
  (∀ (u s : State), s.awake = true → u = { s with pwr := { s.pwr with resetN := false, releaseHeld := none } } →
      (s.flag Reg.GRAN_STATUS_FLUSHING = false → exec .resetNFall s = .next { u.doReset with pending := s.pending }) ∧
      (s.flag Reg.GRAN_STATUS_FLUSHING = true → exec .resetNFall s = .next { u with pwr := { u.pwr with resetLatched := true } })) ∧
  (∀ s : State, s.awake = false →
      exec .resetNFall s = .next { s with pwr := { s.pwr with resetN := false, releaseHeld := none } } ∧
      exec .railsOff s = .next { s with pwr := { s.pwr with rails := false, i3cAddr := none, releaseHeld := none, resetN := false } }) ∧
  (∀ (g1 sel : Bool) (u s : State), s.pwr.resetN = false →
      u = ({ s with pwr := { s.pwr with resetN := true, releaseHeld := some (g1, sel) } } : State).tryRelease →
      exec (.resetNRise g1 sel) s = .next { u with pending := s.pending }) ∧
  (∀ (u s : State), s.awake = true → u = s.doReset →
      exec .railsOff s = .next { u with pwr := { u.pwr with rails := false, i3cAddr := none, releaseHeld := none, resetN := false }, pending := s.pending }) ∧
  (∀ s : State, exec .railsGood s = .next { ({ s with pwr := { s.pwr with rails := true } } : State).tryRelease with pending := s.pending }) ∧
  (∀ s : State, Runs s → s.flag Reg.GRAN_STATUS_FLUSHING = true →
      (s.pwr.resetLatched = false → exec .flushDone s = .next { s.endFlush with pending := s.pending }) ∧
      (s.pwr.resetLatched = true → exec .flushDone s = .next { s.endFlush.doReset.tryRelease with pending := s.pending }))

/-- The stages of a start: what each event makes of a running node. On a node that is awake and not frozen: in STAGE 0
with PWR_FAIL_N high the derived key shows with its margin, and STAGE 1 begins; in STAGE 1 an image of the device in turn
that passes its checks and names the node's own identity key is taken, and one that fails makes the device invalid; once
in STAGE 1 or 2 the trained stacks are repaired, and in STAGE 2 the failed channels relocated and STAGE 3 begun; in STAGE
3 the LUNs present are taken and replay begins, or CH_MISSING and RECOVERING with the NODE_FAULT that R392 sets where the
map refers to one that is not there; the end of the replay opens the step of the lease mark, loads models, applies the log
records whose step has come, and waits for links. A recovering node in STAGE 5 that has caught up takes the state of the
other holders and asks to join; a node that has joined catches up to the commit of its join. (R52, R186, R191, R193, R204,
R410, R413, R414, R423, R428, R429, R431) -/
def Obligations.StartStagesRun : Prop :=
  (∀ (flipped : Nat) (u s : State), Runs s → s.get Reg.CFG_STATUS_STAGE = 0 → s.pwr.pwrFailN = true →
      u = (s.setB Reg.SEC_STATUS_PUF_DONE true).setB Reg.SEC_STATUS_PUF_MARGIN (decide (1638 < flipped)) →
      (flipped ≤ 2457 → exec (.pufDeriveDone flipped true) s = .next (s.keep
        (((u.set Reg.SEC_ID_PUB Config.idPub.toNat).modCfg fun k => { k with pufOk := true }).stageTo 1))) ∧
      (2457 < flipped → exec (.pufDeriveDone flipped true) s = .next (s.keep ((u.modCfg fun k => { k with pufOk := false }).stageTo 1))) ∧
      exec (.pufDeriveDone flipped false) s = .next (s.keep ((u.modCfg fun k => { k with pufOk := false }).stageTo 1))) ∧
  (∀ (device : Nat) (r : ImgRead) (s : State), Runs s → s.get Reg.CFG_STATUS_STAGE = 1 →
      device = (if s.cfg.firstFail.isNone then s.get Reg.CFG_STATUS_STRAP_CFG_SEL else 1 - s.get Reg.CFG_STATUS_STRAP_CFG_SEL) →
      (∀ reason, imgVerify r = .inl reason → exec (.imageVerifyDone device r) s = .next (s.keep (s.imageFails device reason))) ∧
      (∀ i, imgVerify r = .inr i → s.identityOk i = true → exec (.imageVerifyDone device r) s = .next (s.keep (s.takeImage device i))) ∧
      (∀ i, imgVerify r = .inr i → s.identityOk i = false → exec (.imageVerifyDone device r) s = .next (s.keep (s.imageFails device 8)))) ∧
  (∀ (failed : List Nat) (vias : List (Nat × Nat)) (rows : List (Nat × Nat × Nat)) (u s : State), Runs s → s.cfg.trained = false →
      u = (rows.foldl (fun (s : State) r => s.repairRow r.1 r.2.1 r.2.2) (vias.foldl (fun (s : State) v => s.remapVia v.1 v.2) s)).modCfg
        (fun k => { k with trained := true, badChans := failed }) →
      (s.get Reg.CFG_STATUS_STAGE = 1 → exec (.stackTrainingDone failed vias rows) s = .next (s.keep u)) ∧
      (s.get Reg.CFG_STATUS_STAGE = 2 → exec (.stackTrainingDone failed vias rows) s = .next (s.keep u.failTrained.startStage3))) ∧
  (∀ (luns use : List Nat) (chans : List (Nat × Nat × Nat)) (offline : List (Option Nat)) (est : Nat) (t u v s : State), Runs s →
      s.get Reg.CFG_STATUS_STAGE = 3 → s.flag Reg.GRAN_STATUS_REPLAYING = false → s.flag Reg.GRAN_STATUS_CH_MISSING = false →
      use = (if s.gran.map.isEmpty then luns.filter (fun l => bit s.gran.chanMask (l / 8)) else luns) →
      est = min 5256000 ((offline.map (fun o => o.getD 5256000)).foldl max 0) →
      t = s.modGran (fun g => { g with luns := use }) →
      u = (((chans.filter (fun x => decide (x.1 < 16))).foldl (fun (s : State) x => s.showChan luns x) t).set Reg.GRAN_AGE_OFFLINE_EST est).stick Reg.GRAN_AGE_AGE est →
      v = u.set Reg.GRAN_SPACE_USER_GIB (userBytes u.gran.profile use.length (u.get Reg.GRAN_CFG_OP_PCT) / 2 ^ 30) →
      (v.lunMissing = false → exec (.flashInitDone luns chans offline) s = .next (s.keep (v.setB Reg.GRAN_STATUS_REPLAYING true))) ∧
      (v.lunMissing = true → exec (.flashInitDone luns chans offline) s = .next (s.keep
        ((v.setB Reg.GRAN_STATUS_CH_MISSING true).setB Reg.STEP_STATUS_RECOVERING true).nodeFault))) ∧
  (∀ (mem : List (Nat × List Byte)) (u s : State), Runs s → s.flag Reg.GRAN_STATUS_REPLAYING = true →
      u = (s.setB Reg.GRAN_STATUS_REPLAYING false).set Reg.STEP_OPEN (s.get Reg.GRAN_LEASE) →
      exec (.mapReplayDone mem) s = .next (s.keep (((u.replayModels.replayLog mem (u.get Reg.GRAN_LEASE)).homeDiscard.stageTo 4).settleLinks))) ∧
  (∀ (c : CatchUp) (log : List (List Byte)) (mem : List (Nat × List Byte)) (t u v s : State), Runs s →
      t = (((log.foldl (fun (s : State) r => s.takeAppend r) s).replayLog mem (c.committed + 1)).takeCatchUp c) →
      u = (t.set Reg.STEP_MEMBERS c.members).set Reg.STEP_EPOCH c.epoch →
      v = (u.set Reg.STEP_ROLE_ROOT_ID c.root).setB Reg.STEP_ROLE_IS_ROOT (decide (c.root = u.me)) →
      ((s.flag Reg.STEP_STATUS_RECOVERING && decide (s.get Reg.CFG_STATUS_STAGE = 5) && !s.flag Reg.GRAN_STATUS_CH_MISSING) = true →
        exec (.catchUpDone c log mem) s = .next (s.keep
          ((((v.set Reg.STEP_COMMITTED c.committed).set Reg.STEP_EXEC (c.committed + 1)).set Reg.STEP_OPEN (c.committed + 1)).askJoin))) ∧
      (s.flag Reg.STEP_STATUS_RECOVERING = false → s.stp.joinStep ≠ none → ∀ j, v.stp.joinStep = some j →
        exec (.catchUpDone c log mem) s = .next (s.keep (if j ≤ c.committed then v.modStp (fun k => { k with joinStep := none }) else v))))

/-- Amendment records on their way, in the log and at their target: what each message makes of a running node. On a node
that is awake and not frozen: at a node that is not the root a record goes on to the root as it came; at the root one that
passes the checks is accepted and one that fails is counted, and its slot told the first failing REASON and status. An
accepted record goes on along the tree and enters the chain, acknowledged at once by a node it is not meant for; a node
that has programmed its earliest unappended record notes where it stands. The root takes a member's acknowledgement; a
slot's completion shows at its entry node. The target of a stored image programs the record's part. (R352, R400, R416,
R418, R419, R420, R422, R423) -/
def Obligations.AmendmentRecordsRun : Prop :=
  (∀ (raw : List Byte) (slot : StageSlot) (s : State), Runs s → s.flag Reg.STEP_ROLE_IS_ROOT = false →
      exec (.amendWrite raw slot) s = .next (s.keep (s.sendMsg slot.part 10 0 (s.get Reg.STEP_ROLE_ROOT_ID) raw.length (.amendWrite raw slot))) ∧
      exec (.amendModelLoad raw slot) s = .next (s.keep (s.sendMsg slot.part 10 0 (s.get Reg.STEP_ROLE_ROOT_ID) raw.length (.amendModelLoad raw slot))) ∧
      exec (.amendLinkTrain raw slot) s = .next (s.keep (s.sendMsg slot.part 10 0 (s.get Reg.STEP_ROLE_ROOT_ID) raw.length (.amendLinkTrain raw slot))) ∧
      exec (.amendTallyClear raw slot) s = .next (s.keep (s.sendMsg slot.part 10 0 (s.get Reg.STEP_ROLE_ROOT_ID) raw.length (.amendTallyClear raw slot))) ∧
      (amSeq raw = 0 → ∀ i : Option Image, exec (.amendImageStore raw slot i) s = .next (s.keep
        (s.sendMsg slot.part 10 0 (s.get Reg.STEP_ROLE_ROOT_ID) raw.length (.amendImageStore raw slot none))))) ∧
  (∀ (raw : List Byte) (slot : StageSlot) (s : State), Runs s → s.flag Reg.STEP_ROLE_IS_ROOT = true →
      (s.judge 1 raw = none → exec (.amendWrite raw slot) s = .next (s.keep (s.acceptRecord raw slot))) ∧
      (s.judge 2 raw = none → exec (.amendModelLoad raw slot) s = .next (s.keep (s.acceptRecord raw slot))) ∧
      (s.judge 4 raw = none → exec (.amendLinkTrain raw slot) s = .next (s.keep (s.acceptRecord raw slot))) ∧
      (s.judge 5 raw = none → exec (.amendTallyClear raw slot) s = .next (s.keep (s.acceptRecord raw slot)))) ∧
  (∀ (raw : List Byte) (slot : StageSlot) (reason status : Nat) (u v s : State), Runs s → s.flag Reg.STEP_ROLE_IS_ROOT = true →
      u = s.stick Reg.CFG_COUNTS_REFUSED 1 → v = (if status = 3 ∧ reason = 9 then u.tallyP .SHP_QUOTA_REFUSED slot.part else u) →
      (s.judge 1 raw = some (reason, status) → exec (.amendWrite raw slot) s = .next (s.keep
        (v.endSlot { slot := slot, status := status, reason := reason, seq := 0, step := amStep raw }))) ∧
      (s.judge 2 raw = some (reason, status) → exec (.amendModelLoad raw slot) s = .next (s.keep
        (v.endSlot { slot := slot, status := status, reason := reason, seq := 0, step := amStep raw }))) ∧
      (s.judge 4 raw = some (reason, status) → exec (.amendLinkTrain raw slot) s = .next (s.keep
        (v.endSlot { slot := slot, status := status, reason := reason, seq := 0, step := amStep raw }))) ∧
      (s.judge 5 raw = some (reason, status) → exec (.amendTallyClear raw slot) s = .next (s.keep
        (v.endSlot { slot := slot, status := status, reason := reason, seq := 0, step := amStep raw })))) ∧
  (∀ (raw : List Byte) (mem : List (Nat × List Byte)) (src : Nat) (u s : State), Runs s → amSeq raw = s.get Reg.CFG_HEAD + 1 →
      u = (s.flood 0 10 raw.length (some src) (.amendLogAppend raw none [] s.me)).takeAppend raw →
      (u.meantHere raw = true → exec (.amendLogAppend raw none mem src) s = .next (s.keep u)) ∧
      (u.meantHere raw = false → exec (.amendLogAppend raw none mem src) s = .next (s.keep (u.ackAppend (amSeq raw) false)))) ∧
  (∀ (raw : List Byte) (a b : Bool) (mem : List (Nat × List Byte)) (src : Nat) (e : Amend) (s : State), Runs s →
      s.cfg.log.find? (fun e => !e.appended) = some e → e.raw = raw →
      exec (.amendLogAppend raw (some (a, b)) mem src) s = .next (s.keep (s.programmedLog e a b mem))) ∧
  (∀ (seq src : Nat) (bad : Bool) (s : State), Runs s →
      exec (.amendAppendAck seq bad none src) s = .next (s.keep (s.gotAppendAck seq src bad)) ∧
      (∀ d : StageDone, d.slot.node = s.me → exec (.amendAppendAck seq bad (some d) src) s = .next (s.keep (s.finishSlot d)))) ∧
  (∀ (raw : List Byte) (slot : StageSlot) (stored : Option Image) (s : State), Runs s → amSeq raw ≠ 0 → amKind raw = 3 → amTarget raw = s.me →
      s.cfg.log.any (fun e => decide (e.raw = raw) && e.appended && !e.stored) = true →
      exec (.amendImageStore raw slot stored) s = .next (s.keep (s.storedChunk raw stored)))

/-- A tick of the oscillator: what it makes of a running, a frozen and a resetting node. A running node counts the tick,
refills every partition's credits, lets pass what the credits then let through, counts the waits, and withdraws what a
node fault holds; a frozen one counts the tick of the freeze and the stacks' sensors go on; in reset nothing happens.
(R14, R375, R379, R380, R402) -/
def Obligations.OscillatorTick : Prop :=
  (∀ (t u s : State), Runs s → t = (partitions.foldl State.refillPart { s with now := s.now + 1 }).drainAll →
      u = (partitions.foldl State.countWaits t).countHeld.countWork.countStalls.countNode →
      exec .creditRefillTick s = .next (s.keep (if u.anyHot = true then u.tallyN .STK_HOT_TICKS else u).withdrawHeld)) ∧
  (∀ (t u s : State), s.awake = true → s.frozen = true → t = s.tallyN .DBG_FREEZE_TICKS →
      u = (if t.anyHot = true then t.tallyN .STK_HOT_TICKS else t) →
      exec .creditRefillTick s = .next (s.keep (u.modStk fun k => { k with coolFrom := k.coolFrom.map (fun e => (e.1, max 1 (e.2 - 1))) }))) ∧
  (∀ s : State, s.awake = false → exec .creditRefillTick s = .next s)

/-- A step runs the command at the front of the queue. For every command c and state s, a step of s with c at the front of
its queue is exec of c on s with the queue's rest. With no command waiting, a frozen node, and one without a held request,
stay as they are (assumptions 34 and 48, the model's choices). (R402, R467) -/
def Obligations.StepRunsFrontCommand : Prop :=
  (∀ (c : Instr) (rest : List Instr) (s : State), s.pending = c :: rest → step s = exec c { s with pending := rest }) ∧
  (∀ s : State, s.pending = [] → (s.frozen = true ∨ s.held = []) → step s = .next s)

/-- What reset leaves. In the reset state every field of a register reads its default, STAGE is 0, SWAP_ONLY is 1, the
node is not frozen, no command waits and no request is held, and no output has been made; the invariant of held requests
holds. Where the specification gives a field no default (an Image default before the image is read), the default is the
model's, 0 (the assumption log's entry on reset values). (R402, R429, R461, R466) -/
def Obligations.ResetState : Prop :=
  (∀ f : Fld, State.reset.get f = f.dflt) ∧
  (State.reset.get Reg.CFG_STATUS_STAGE = 0 ∧ State.reset.flag Reg.HOME_MODE_SWAP_ONLY = true ∧ State.reset.frozen = false) ∧
  (State.reset.pending = [] ∧ State.reset.held = [] ∧ State.reset.out = [] ∧ HeldInv State.reset)

/-- No command stops: each answers a next state and leaves the queue alone. For every command and every state, exec
answers a next state, whose queue is the queue it was given; so every step of every state answers a next state. (R402,
R467) -/
def Obligations.EveryCommandCompletes : Prop :=
  (∀ (c : Instr) (s : State), ∃ t, exec c s = .next t ∧ t.pending = s.pending) ∧ (∀ s : State, ∃ t, step s = .next t)

/-- What each command makes of a node that is frozen or in reset. On an awake node that is frozen, for every command of
the table: a request of a host is held, behind those held before, and changes nothing else; an event of the node's
engines, links and timers does not happen. On a node that is not awake neither a request nor such an event changes
anything. Only the events that a freeze does not stop, and those of power and reset, act there. (R402, R403, R404, R405,
R442, R446) -/
def Obligations.FrozenOrResetNode : Prop :=
  (∀ (c : Instr) (s : State), s.awake = true → s.frozen = true →
    (actsWhen c = .host → exec c s = .next { s with held := s.held ++ [c] }) ∧ (actsWhen c = .engine → exec c s = .next s)) ∧
  (∀ (c : Instr) (s : State), s.awake = false → (actsWhen c = .host ∨ actsWhen c = .engine) → exec c s = .next s)

/-- What can put a node into reset, take it out, or touch the held requests. For every command and every state: only the
events of power and reset change whether the node is awake; and the held requests stay as they are, but for a host's
request, which joins them at the end on an awake node that is frozen or still holds some, and for a reset, which drops
them all. (R402, R405, R442, R445, R446) -/
def Obligations.OnlyPowerEventsChangeReset : Prop :=
  ∀ (c : Instr) (s t : State), exec c s = .next t →
    (actsWhen c ≠ .power → t.awake = s.awake) ∧
    (t.held = s.held ∨ (actsWhen c = .power ∧ t.held = []) ∨
      (actsWhen c = .host ∧ s.awake = true ∧ (s.frozen = true ∨ s.held ≠ []) ∧ t.held = s.held ++ [c]))

/-- Every step keeps the invariant of held requests. For every state in which only requests of hosts are held, and none
while the node is not awake, a step leads to such a state again. (R402, R404, R446) -/
def Obligations.HeldRequestsInvariant : Prop :=
  ∀ s t : State, HeldInv s → step s = .next t → HeldInv t

/-- Requests that arrive in a freeze are held in arrival order and served on resume as without it. A frozen awake node
whose queue holds only requests of hosts takes them all, in arrival order, behind those held before, and changes nothing
else. On an awake node that is not frozen and has no command waiting, the oldest held request is served with the result it
has on that node with nothing held, and the rest wait on in their order. (R402, R404) -/
def Obligations.FreezeKeepsArrivalOrder : Prop :=
  (∀ (cs : List Instr) (s : State), s.awake = true → s.frozen = true → s.pending = cs → (∀ c ∈ cs, actsWhen c = .host) →
      steps cs.length s = .next { s with pending := [], held := s.held ++ cs }) ∧
  (∀ (c : Instr) (rest : List Instr) (s t : State), s.awake = true → s.frozen = false → s.pending = [] → s.held = c :: rest →
      actsWhen c = .host → exec c { s with held := [] } = .next t → t.held = [] ∧ step s = .next { t with held := rest })

/-- A host's write to another partition's page, and a request of a host that is not bound here. A bound host of partition
q that writes a doorbell, a stage slot, a report slot, a tally or the event configuration of another partition's page
changes nothing but CXP_FOREIGN of its own partition; a host that the binding table does not bind at all is answered with
Unsupported Request and counted in CXP_UNBOUND. (R328, R331) -/
def Obligations.ForeignPagesAreIgnored : Prop :=
  (∀ (h : HostReq) (p q n value : Nat) (data : List Byte) (s : State), Takes s → Bound s h q → q ≠ p →
      exec (.iringTailWrite h p n value) s = .next (s.keep (s.tallyP .CXP_FOREIGN q)) ∧
      exec (.sringHeadWrite h p n value) s = .next (s.keep (s.tallyP .CXP_FOREIGN q)) ∧
      exec (.cfgStageSubmit h p n data) s = .next (s.keep (s.tallyP .CXP_FOREIGN q)) ∧
      exec (.secReportRequest h p n) s = .next (s.keep (s.tallyP .CXP_FOREIGN q)) ∧
      exec (.tallyClearWrite h p n value) s = .next (s.keep (s.tallyP .CXP_FOREIGN q)) ∧
      exec (.partEvtCfgWrite h p value) s = .next (s.keep (s.tallyP .CXP_FOREIGN q)) ∧
      exec (.pageIn h p n) s = .next (s.keep (s.tallyP .CXP_FOREIGN q)) ∧
      exec (.pageOut h p n) s = .next (s.keep (s.tallyP .CXP_FOREIGN q))) ∧
  (∀ (h : HostReq) (p n value : Nat) (s : State), Takes s → s.bindOf h.pid = none →
      exec (.iringTailWrite h p n value) s = .next (s.keep ((s.tallyN .CXP_UNBOUND).emit (.unsupported h.pid))) ∧
      exec (.tallyClearWrite h p n value) s = .next (s.keep ((s.tallyN .CXP_UNBOUND).emit (.unsupported h.pid))))

/-- What the JTAG and I3C commands and the supply pins' rises leave unchanged. IDCODE, DBG_STATUS, BYPASS, EXTEST,
SAMPLE_PRELOAD, DBG_READ, the I3C commands, and the rises of PWR_OK and PWR_FAIL_N change no register, no queue, no memory
and no unit of the node: only the pins' state, the node's outputs, and the count of free values drawn. (R403, R405, R443,
R454, R455) -/
def Obligations.LowSpeedPinsFrame : Prop :=
  ∀ (c : Instr) (s t : State), (c = .idcode ∨ c = .dbgStatus ∨ c = .bypass ∨ (∃ v, c = .extest v) ∨ (∃ v, c = .samplePreload v) ∨
      (∃ a, c = .dbgRead a) ∨ (∃ a, c = .i3cEntdaa a) ∨ c = .i3cRead ∨ c = .pwrOkRise ∨ c = .pwrFailNRise) → exec c s = .next t →
    t = { s with pwr := t.pwr, out := t.out, freeCtr := t.freeCtr } ∧ (∃ o, t.out = s.out ++ o ∨ t.out = o ++ s.out) ∧
    t.pwr.rails = s.pwr.rails ∧ t.pwr.resetN = s.pwr.resetN ∧ t.pwr.releaseHeld = s.pwr.releaseHeld

/-- The test of a doorbell. A bound host writes IRING_TAIL of ring n of its partition on a node that serves. With N units
in the ring and v the value written, u the state with bits above the field counted as a reserved write (zero ones count
nothing): v of 2N or above is a bad doorbell. Otherwise, with d_old and d_new the distances of TAIL and v from HEAD modulo
2N, the write is accepted exactly when d_old ≤ d_new ≤ N, and TAIL then holds v; where v is TAIL nothing changes (for
registers in their canonical form). Any other write is a bad doorbell: it is ignored, counted, and sets BAD_DOORBELL_EVT.
SRING_HEAD is tested in the same form: accepted when v is below 2N and its distance from SRING_HEAD is at most the number
of written slots from there on, else a bad doorbell. (R88) -/
def Obligations.DoorbellTest : Prop :=
  (∀ (h : HostReq) (p n value v size hd tl : Nat) (u s : State), Takes s → Bound s h p → n < 16 → v = value % 2 ^ 17 →
      u = (if value % 2 ^ 32 / 2 ^ 17 ≠ 0 then s.tallyP .CXP_RSVD_WRITES p else s) →
      size = 2 ^ u.get (Reg.IRING_CTL_LOG2_SIZE p n) → hd = u.get (Reg.IRING_HEAD p n) → tl = u.get (Reg.IRING_TAIL p n) →
      (2 * size ≤ v → exec (.iringTailWrite h p n value) s = .next (s.keep
        (((u.tallyP .INT_BAD_DOORBELL p).setB (Reg.INT_STATUS_BAD_DOORBELL_EVT p) true).event p 6))) ∧
      (∀ dOld dNew : Nat, v < 2 * size → dOld < 2 * size → (hd + dOld) % (2 * size) = tl % (2 * size) →
        dNew < 2 * size → (hd + dNew) % (2 * size) = v →
        (dOld ≤ dNew ∧ dNew ≤ size → exec (.iringTailWrite h p n value) s = .next (s.keep (u.set (Reg.IRING_TAIL p n) v))) ∧
        (dOld ≤ dNew ∧ dNew ≤ size → v = tl → tabRising u.regs = true → tfind u.regs (Reg.IRING_TAIL p n).bit ≠ some 0 →
          exec (.iringTailWrite h p n value) s = .next (s.keep u)) ∧
        (¬ (dOld ≤ dNew ∧ dNew ≤ size) → exec (.iringTailWrite h p n value) s = .next (s.keep
          (((u.tallyP .INT_BAD_DOORBELL p).setB (Reg.INT_STATUS_BAD_DOORBELL_EVT p) true).event p 6))))) ∧
  (∀ (h : HostReq) (p n value v size hd d : Nat) (u s : State), Takes s → Bound s h p → n < 16 → v = value % 2 ^ 17 →
      u = (if value % 2 ^ 32 / 2 ^ 17 ≠ 0 then s.tallyP .CXP_RSVD_WRITES p else s) →
      size = u.sringSize p n → 0 < size → hd = u.get (Reg.SRING_HEAD p n) → d < 2 * size → (hd + d) % (2 * size) = v % (2 * size) →
      (v < 2 * size → d ≤ u.writtenRun p n hd size → exec (.sringHeadWrite h p n value) s = .next (s.keep
        ((u.setWritten p n ((u.writtenOf p n).filter (fun i => decide (d ≤ ringDist i hd (2 * size))))).set (Reg.SRING_HEAD p n) v))) ∧
      (2 * size ≤ v ∨ u.writtenRun p n hd size < d → exec (.sringHeadWrite h p n value) s = .next (s.keep
        (((u.tallyP .INT_BAD_DOORBELL p).setB (Reg.INT_STATUS_BAD_DOORBELL_EVT p) true).event p 6))))

/-- The integer transform of a score gives the order of the real numbers. For binary32 patterns a and b of finite values
other than negative zero, whose exact values are m and n units of 2^-149: a's transform is below b's exactly when m is
below n, and equal exactly when they are equal. The transform inverts the sign bit of a pattern whose bit 31 is 0 and
every bit of one whose bit 31 is 1. A normalised score is never negative zero and has the value of the score. An entry's
rank begins with its score's transform, smaller first. (R111) -/
def Obligations.ScoreKeysOrderScores : Prop :=
  (∀ (a b : Nat) (m n : Int), a < 2 ^ 32 → b < 2 ^ 32 → a ≠ 2 ^ 31 → b ≠ 2 ^ 31 → fp32.read a = some m → fp32.read b = some n →
      (key32 a < key32 b ↔ m < n) ∧ (key32 a = key32 b ↔ m = n)) ∧
  (∀ u : BitVec 32, (u.getLsbD 31 = false → key32 u.toNat = (u ^^^ 0x80000000#32).toNat) ∧ (u.getLsbD 31 = true → key32 u.toNat = (~~~ u).toNat)) ∧
  (∀ v : Nat, normScore v ≠ 2 ^ 31 ∧ fp32.read (normScore v) = fp32.read v) ∧
  (∀ (g1 : Bool) (e : SheafEntry), (entryRank g1 e).head? = some (key32 e.score))

/-- Every selection takes the first entries in rank order, whatever order they came in. The rank orders are total, and two
entries of equal rank share their canonical position, in the stook order and in the order of sheaves, in both modes. A
threshing pass takes the first L offered entries in stook order. A shard's pool, and the merge of sheaves (its entries,
their weights and the duplicates removed), do not depend on the order in which entries came, when no two of them share a
canonical position; the merge's entries stand in rank order, no two of one record, as many as K and the records allow; and
the whole merge does not depend on the order of its inputs. (R112) -/
def Obligations.SelectionsIgnoreArrivalOrder : Prop :=
  (∀ a b : StookEntry, (stookLe a b = true ∨ stookLe b a = true) ∧
      (stookLe a b = true → stookLe b a = true → (a.list, a.pos) = (b.list, b.pos))) ∧
  (∀ (g1 : Bool) (a b : SheafEntry), (rankLe (entryRank g1 a) (entryRank g1 b) = true ∨ rankLe (entryRank g1 b) (entryRank g1 a) = true) ∧
      (rankLe (entryRank g1 a) (entryRank g1 b) = true → rankLe (entryRank g1 b) (entryRank g1 a) = true →
        (a.primary, a.list, a.pos) = (b.primary, b.list, b.pos))) ∧
  (∀ (l : LList) (w t sketch fslot n : Nat) (floor : Option (Nat × Nat)),
      ∃ all : List StookEntry, l.thresh w t sketch fslot floor n = all.take n ∧ all.Nodup ∧ all.Pairwise (fun a b => stookLe a b = true) ∧
        ∀ e : StookEntry, e ∈ all ↔ (e.list = l.idx ∧ ∃ x, l.entries[e.pos]? = some x ∧ e.pos < l.len t ∧ x.offered fslot = true ∧
          e.dist = sketchDist w sketch x.sketch ∧ e.slot = x.slot ∧ (∀ d p, floor = some (d, p) → d < e.dist ∨ (d = e.dist ∧ p < e.pos)))) ∧
  (∀ (h t : Nat) (x y : ShardWork) (s : State), x.pool.Perm y.pool → x.shard = y.shard →
      x.pool.Pairwise (fun a b => (a.list, a.pos) ≠ (b.list, b.pos)) → s.poolOf h t x = s.poolOf h t y) ∧
  (∀ (q : Query) (xs ys : List Sheaf) (s : State), ((xs.map (·.entries)).flatten).Perm ((ys.map (·.entries)).flatten) →
      ((xs.map (·.entries)).flatten).Pairwise (fun a b => (a.primary, a.list, a.pos) ≠ (b.primary, b.list, b.pos)) →
      (s.mergeSheaves q xs).1.entries = (s.mergeSheaves q ys).1.entries ∧ (s.mergeSheaves q xs).1.grainAcc = (s.mergeSheaves q ys).1.grainAcc ∧
      (s.mergeSheaves q xs).2 = (s.mergeSheaves q ys).2 ∧
      (s.mergeSheaves q xs).1.entries.Pairwise (fun a b => rankLe (entryRank q.g1 a) (entryRank q.g1 b) = true) ∧
      (s.mergeSheaves q xs).1.entries.Pairwise (fun a b => a.record ≠ b.record) ∧
      (s.mergeSheaves q xs).1.entries.length = min q.k ((((xs.map (·.entries)).flatten).map (·.record)).dedup.length)) ∧
  (∀ (q : Query) (xs ys : List Sheaf) (s : State), xs.Perm ys →
      ((xs.map (·.entries)).flatten).Pairwise (fun a b => (a.primary, a.list, a.pos) ≠ (b.primary, b.list, b.pos)) →
      (s.mergeSheaves q xs).1.ties = (s.mergeSheaves q ys).1.ties ∧ (s.mergeSheaves q xs).1.invalid = (s.mergeSheaves q ys).1.invalid ∧
      (s.mergeSheaves q xs).1.chaffCount = (s.mergeSheaves q ys).1.chaffCount ∧ (s.mergeSheaves q xs).1.chaffAcc = (s.mergeSheaves q ys).1.chaffAcc)

/-- A bundle that is not well formed raises ILLEGAL. Whenever a core of a running node that goes on stands at a bundle
whose FORMAT is not 1, or with a reserved header bit set, or with a slot whose VALID bit is 0 and that holds a bit, or
with a valid slot that holds a reserved opcode, or a bit outside the opcode byte and the fields that its opcode defines,
then the command of any slot for that core raises cause 1, ILLEGAL, on it and ends the record; no slot takes effect.
(R237) -/
def Obligations.IllFormedBundlesAreIllegal : Prop :=
  ∀ (i : Instr) (c b : Nat) (r : EncRun) (s : State), Runs s → slotCore i = some c → tfind s.enc.runs (c / 8) = some r →
    ((s.core c).halted || (s.core c).atBar || s.coreIso c) = false → (s.modelMem r.r.model).prog[(s.core c).pc]? = some b →
    (bits b 16 4 ≠ 1 ∨ (∃ j, (7 ≤ j ∧ j ≤ 15 ∨ 20 ≤ j ∧ j ≤ 63) ∧ bit b j = true) ∨
      (∃ k, k < 7 ∧ slotValid b k = false ∧ slotBits b k ≠ 0) ∨
      (∃ k, k < 7 ∧ slotValid b k = true ∧ opFields (slotKind k) (opOf (slotBits b k)) = none) ∨
      (∃ k fs j, k < 7 ∧ slotValid b k = true ∧ opFields (slotKind k) (opOf (slotBits b k)) = some fs ∧ 8 ≤ j ∧ bit (slotBits b k) j = true ∧
        ∀ f ∈ fs, j < f.1 ∨ f.1 + f.2 ≤ j)) →
    exec i s = .next (s.keep (s.raise (c / 8) [c] 1))

/-- The conversion of gradient elements. For GFRAC up to 63 and a binary32 pattern of a finite value of n units of 2^-149,
the element is clamp(r, −2^63, 2^63 − 1) with r the integer nearest to g × 2^GFRAC, ties to even, and it counts as clamped
exactly when the clamp moves r; an infinity clamps to the end of its sign; a NaN gives none. A record with a NaN is
dropped whole and counted in EMB_GRAD_NAN; another is converted element by element, its clamped elements counted in
EMB_GRAD_SAT, which also sets GRAD_SAT_EVT where there are any (and a table without an optimiser discards it, R286).
(R283) -/
def Obligations.GradientsConvertOnce : Prop :=
  (∀ (gfrac v : Nat) (n : Int), gfrac < 64 → v < 2 ^ 32 → fp32.read v = some n →
      ∃ r : Int, NearestEven r (n * 2 ^ gfrac) (2 ^ 149) ∧
        gradFix gfrac v = some (max (-2 ^ 63) (min (2 ^ 63 - 1) r), decide (max (-2 ^ 63) (min (2 ^ 63 - 1) r) ≠ r))) ∧
  (∀ (gfrac v : Nat), v < 2 ^ 32 → fp32.read v = none →
      (isNan32 v = true → gradFix gfrac v = none) ∧
      (isNan32 v = false → v < 2 ^ 31 → gradFix gfrac v = some (2 ^ 63 - 1, true)) ∧
      (isNan32 v = false → 2 ^ 31 ≤ v → gradFix gfrac v = some (-2 ^ 63, true))) ∧
  (∀ (t i p gfrac : Nat) (vs : List Nat) (s : State), s.tableIdx t = some i → p = s.get (Reg.EMB_TABLE_PARTITION i) →
      gfrac = s.get (Reg.EMB_TABLE_GFRAC i) →
      ((∃ v ∈ vs, gradFix gfrac v = none) → s.convertGrad t vs = (s.tallyP .EMB_GRAD_NAN p, none, 0)) ∧
      (∀ (g : List (Int × Bool)) (sat : Nat) (u : State), vs.map (gradFix gfrac) = g.map some → sat = g.countP (fun x => x.2) →
        u = (if 0 < sat then (s.tallyP .EMB_GRAD_SAT p sat).setB Reg.EMB_STATUS_GRAD_SAT_EVT true else s.tallyP .EMB_GRAD_SAT p sat) →
        s.convertGrad t vs = (if u.get (Reg.EMB_TABLE_OPT i) = 0 then (u.tallyP .EMB_GRAD_DISCARDED p, none, sat) else (u, some (g.map (fun x => x.1)), sat))))

/-- A shard's commit applies a step's mutations in key order, whatever order they arrived in. The key order is total, and
mutations of equal key share record, admitting node and sequence number. A commit of a shard answers the same for two
lists of mutations that are permutations of each other, when no two of them share a key; and it applies them in ascending
order of the key. (R33, R34) -/
def Obligations.MutationsCommitInKeyOrder : Prop :=
  (∀ a b : Staged, (keyOrder a b = true ∨ keyOrder b a = true) ∧
      (keyOrder a b = true → keyOrder b a = true → (a.m.record, a.m.id.admitter, a.m.id.seq) = (b.m.record, b.m.id.admitter, b.m.id.seq))) ∧
  (∀ gs : List Staged, (sortBy keyOrder gs).Perm gs ∧ (sortBy keyOrder gs).Pairwise (fun a b => keyOrder a b = true)) ∧
  (∀ (sh : Shard) (c : CollCfg) (cap : Option Nat) (pds : List PdsPair) (t : Nat) (xs ys : List Staged) (retires : List FilterOp), xs.Perm ys →
      xs.Pairwise (fun a b => (a.m.record, a.m.id.admitter, a.m.id.seq) ≠ (b.m.record, b.m.id.admitter, b.m.id.seq)) →
      sh.commit c cap pds t xs retires = sh.commit c cap pds t ys retires)

/-- How a tally counts, sticks and is cleared. A count of n in tally i of partition p (0 for a node-wide one): below all-
ones COUNT rises by n; at all-ones or beyond it sticks at all-ones, and where OVF was clear OVF is set and one event
raised, TALLY of the partition or TALLY_STUCK of the node; where OVF was set, nothing more. A bound host's write to a word
of its own partition's page clears COUNT and OVF, counting a write to reserved bits that are not 0. (R399, R400) -/
def Obligations.TalliesStickAtAllOnes : Prop :=
  (∀ (p i n : Nat) (s : State), 0 < n →
      (s.get (Reg.TALLY_PART_COUNT p i) + n < 2 ^ 48 - 1 →
        s.count p i n = s.set (Reg.TALLY_PART_COUNT p i) (s.get (Reg.TALLY_PART_COUNT p i) + n)) ∧
      (2 ^ 48 - 1 ≤ s.get (Reg.TALLY_PART_COUNT p i) + n → s.flag (Reg.TALLY_PART_OVF p i) = true →
        s.count p i n = s.set (Reg.TALLY_PART_COUNT p i) (2 ^ 48 - 1)) ∧
      (2 ^ 48 - 1 ≤ s.get (Reg.TALLY_PART_COUNT p i) + n → s.flag (Reg.TALLY_PART_OVF p i) = false → ∀ u : State,
        u = (s.set (Reg.TALLY_PART_COUNT p i) (2 ^ 48 - 1)).setB (Reg.TALLY_PART_OVF p i) true →
        s.count p i n = (if p = 0 then u.setB Reg.SAFE_STATUS_TALLY_STUCK true else u.event p 8))) ∧
  (∀ (h : HostReq) (p i value : Nat) (u s : State), Takes s → Bound s h p → i < 512 →
      u = (if bits value 48 15 ≠ 0 then s.tallyP .CXP_RSVD_WRITES p else s) →
      exec (.tallyClearWrite h p i value) s = .next (s.keep ((u.set (Reg.TALLY_PART_COUNT p i) 0).set (Reg.TALLY_PART_OVF p i) 0)))

/-- When an event of a partition raises its vector. An event whose bit is already 1 changes nothing; another sets the bit,
and where the partition's events are enabled raises the vector named there, if that is the partition's own. A vector of no
partition is not raised; in a freeze it is held, behind those held before; a masked one sets its pending bit; another is
written out to its destination. (R334, R381, R402) -/
def Obligations.EventsRaiseOnce : Prop :=
  (∀ (p k : Nat) (s : State), s.flag (Reg.PART_EVT_STATUS p k) = true → s.event p k = s) ∧
  (∀ (p k v : Nat) (u s : State), p ≠ 0 → s.flag (Reg.PART_EVT_STATUS p k) = false → u = s.setB (Reg.PART_EVT_STATUS p k) true →
      v = u.get (Reg.PART_EVT_CFG_VECTOR p) →
      s.event p k = (if s.flag (Reg.PART_EVT_CFG_ENABLE p) = true ∧ u.get (Reg.CXP_VEC_PARTITION v) = p then u.raiseVec v else u)) ∧
  (∀ (v : Nat) (s : State), s.get (Reg.CXP_VEC_PARTITION v) = 0 → s.raiseVec v = s) ∧
  (∀ (v : Nat) (s : State), s.get (Reg.CXP_VEC_PARTITION v) ≠ 0 →
      (s.frozen = true → s.raiseVec v = { s with host := { s.host with msixHeld := s.host.msixHeld ++ [v] } }) ∧
      (s.frozen = false → s.flag (Reg.CXP_MSIX_MASK v) = true → s.raiseVec v = s.set Reg.CXP_PBA (s.get Reg.CXP_PBA ||| 2 ^ v)) ∧
      (s.frozen = false → s.flag (Reg.CXP_MSIX_MASK v) = false → s.raiseVec v = s.emit
        (.msix v (s.get (Reg.CXP_VEC_PID v)) (4 * s.get (Reg.CXP_MSIX_ADDR v)) (s.get (Reg.CXP_MSIX_DATA v)))))

/-- A structure closed with its CRC passes the check. For every byte string with room for a CRC at an offset, the string
with its CRC-32C filled in there passes the check at that offset, keeps its length, and differs only in those four bytes.
(The CRC's initial value and final inversion are the model's, assumption 4.) (R86, R101) -/
def Obligations.SealedStructuresPass : Prop :=
  ∀ (b : List Byte) (o : Nat), o + 4 ≤ b.length → crcOk (sealCrc b o) o = true ∧ (sealCrc b o).length = b.length ∧
    (∀ i, i < o ∨ o + 4 ≤ i → (sealCrc b o)[i]? = b[i]?)

/-- A register field and bytes of scratch read back what was written, and nothing else changes. For registers in their
canonical form: after a write a field reads the value cut to its width, every field at another place of the window reads
as before, the form is kept, and nothing but the registers changes. For a scratch in its canonical form (addresses rising,
no zero listed): after a store of bytes at an address, a read of that many bytes from there gives them; every byte outside
reads as before; and the form is kept. (R239, R249, R461, R467) -/
def Obligations.RegistersAndScratchReadBack : Prop :=
  (∀ (s : State) (f : Fld) (v : Nat), tabRising s.regs = true →
    (s.set f v).get f = v % 2 ^ f.w ∧ (∀ g : Fld, g.bit ≠ f.bit → (s.set f v).get g = s.get g) ∧ tabRising (s.set f v).regs = true ∧
    s.set f v = { s with regs := (s.set f v).regs }) ∧
  (∀ (n : NCore) (a : Nat) (d : List Byte), tabWf 0 n.mem = true →
    ({ n with mem := storeBytes n.mem a d } : NCore).load a d.length = d ∧
    (∀ x, x < a ∨ a + d.length ≤ x → tget 0 (storeBytes n.mem a d) x = tget 0 n.mem x) ∧ tabWf 0 (storeBytes n.mem a d) = true)

/-- What a slot that is not its bundle's last leaves unchanged. Where core c of a running node takes slot i of its bundle
with a later valid slot to come, whatever the slot's result: no register, vector, tile, handle, scratch byte, window or
loop of any core changes yet, nor any record's output, shard, store, queue, link or host state; only the core's place in
the bundle, its waiting writes and causes, its cluster's display registers and the count of free values change. (R238,
R239, R256) -/
def Obligations.SlotsInABundleFrame : Prop :=
  ∀ (c b i j : Nat) (x : SlotRes) (s t : State), nextSlot b (i + 1) = some j → t = s.slotTaken c b i x →
    (t.core c).s = (s.core c).s ∧ (t.core c).v = (s.core c).v ∧ (t.core c).t = (s.core c).t ∧ (t.core c).h = (s.core c).h ∧
    (t.core c).mem = (s.core c).mem ∧ (t.core c).pc = (s.core c).pc ∧ (t.core c).windows = (s.core c).windows ∧
    (t.core c).loops = (s.core c).loops ∧ (t.core c).slot = i + 1 ∧
    (∀ d, d ≠ c → t.core d = s.core d) ∧ t.enc.runs = s.enc.runs ∧
    t = { s with regs := t.regs, enc := t.enc, freeCtr := s.freeCtr + 1 }

/-- One sample of the power limiter. On any node whose voltage lies from 0.65 V to VMAX and whose scan rate is at most 100
%: above the cap, or with a request, the voltage falls by 5 mV, but not below 0.65 V; below 97 % of the cap with the die
below 103 °C and no request, the scan rate is restored first, and then the voltage rises by 5 mV up to VMAX; the scan rate
falls by 5 % only at the voltage floor above the cap, and CAP_UNMET is set exactly at both floors above the cap. A voltage
from 0.65 V to VMAX stays there. The registers show the voltage, the scan rate, CAP_UNMET and LIMITING, and nothing else
changes. (R439, R442) -/
def Obligations.LimiterKeepsItsBounds : Prop :=
  ∀ (avg cap die top : Nat) (req : Bool) (s t : State), t = s.limiter avg → cap = s.get Reg.NODE_PWR_CFG_CAP_W → die = s.get Reg.NODE_PWR_STATUS_DIE_C →
    top = 10 * s.get Reg.NODE_PWR_CFG_VMAX_10MV → req = (decide (105 ≤ die) || allStacks.any (fun k => s.flag (Reg.STACK_TEMP_SCAN_HALVED k))) →
    650 ≤ s.pwr.vcore → s.pwr.vcore ≤ top → s.pwr.scanPct ≤ 100 →
    (650 ≤ t.pwr.vcore ∧ t.pwr.vcore ≤ top) ∧
    (cap < avg ∨ req = true → t.pwr.vcore = max 650 (s.pwr.vcore - 5)) ∧
    (avg ≤ cap → req = false → 100 * avg < 97 * cap → die < 103 → s.pwr.scanPct < 100 →
      t.pwr.vcore = s.pwr.vcore ∧ t.pwr.scanPct = min 100 (s.pwr.scanPct + 5)) ∧
    (avg ≤ cap → req = false → 100 * avg < 97 * cap → die < 103 → s.pwr.scanPct = 100 → t.pwr.vcore = min top (s.pwr.vcore + 5) ∧ t.pwr.scanPct = 100) ∧
    (t.pwr.scanPct < s.pwr.scanPct → cap < avg ∧ s.pwr.vcore = 650 ∧ t.pwr.scanPct = s.pwr.scanPct - 5 ∧ s.scanFloor s.pwr.scanPct = false) ∧
    (t.pwr.scanPct ≤ s.pwr.scanPct + 5) ∧
    (cap < avg → s.pwr.vcore = 650 → s.scanFloor s.pwr.scanPct = true → t.pwr.vcore = 650 ∧ t.pwr.scanPct = s.pwr.scanPct) ∧
    t = ((((s.modPwr fun p => { p with vcore := t.pwr.vcore, scanPct := t.pwr.scanPct }).setB Reg.NODE_PWR_STATUS_CAP_UNMET
      (decide (cap < avg ∧ s.pwr.vcore = 650) && s.scanFloor s.pwr.scanPct)).setB Reg.NODE_PWR_STATUS_LIMITING
      (decide (t.pwr.vcore < top ∨ t.pwr.scanPct < 100))).set Reg.NODE_PWR_STATUS_VCORE_10MV (t.pwr.vcore / 10)).set
      Reg.NODE_PWR_STATUS_SCAN_PCT t.pwr.scanPct
end

