-- ==== Sys2Proof/Laws/Dispatch.lean ====
section
/-! SUPPORT. Each command runs its own meaning: the arms of exec as equations, which proofs cite where unfolding exec itself
is slow. -/

namespace Sys2Proof.Machine

open Sys2Proof

theorem exec_iringTailWrite (h) (p) (n) (value) (s : State) : exec (.iringTailWrite h p n value) s = execIringTailWrite h p n value s := rfl
theorem exec_sringHeadWrite (h) (p) (n) (value) (s : State) : exec (.sringHeadWrite h p n value) s = execSringHeadWrite h p n value s := rfl
theorem exec_descriptorFetch (p) (n) (data) (s : State) : exec (.descriptorFetch p n data) s = execDescriptorFetch p n data s := rfl
theorem exec_malformedUnit (s : State) : exec (.malformedUnit) s = execMalformedUnit s := rfl
theorem exec_query (s : State) : exec (.query) s = execQuery s := rfl
theorem exec_filterLoad (s : State) : exec (.filterLoad) s = execFilterLoad s := rfl
theorem exec_filterRetire (s : State) : exec (.filterRetire) s = execFilterRetire s := rfl
theorem exec_insert (s : State) : exec (.insert) s = execInsert s := rfl
theorem exec_delete (s : State) : exec (.delete) s = execDelete s := rfl
theorem exec_replace (s : State) : exec (.replace) s = execReplace s := rfl
theorem exec_recordRead (s : State) : exec (.recordRead) s = execRecordRead s := rfl
theorem exec_embLookup (mem) (lost) (s : State) : exec (.embLookup mem lost) s = execEmbLookup mem lost s := rfl
theorem exec_embUpdate (mem) (lost) (s : State) : exec (.embUpdate mem lost) s = execEmbUpdate mem lost s := rfl
theorem exec_embTableLoad (s : State) : exec (.embTableLoad) s = execEmbTableLoad s := rfl
theorem exec_embTableSave (s : State) : exec (.embTableSave) s = execEmbTableSave s := rfl
theorem exec_encRun (s : State) : exec (.encRun) s = execEncRun s := rfl
theorem exec_shmPublish (s : State) : exec (.shmPublish) s = execShmPublish s := rfl
theorem exec_shmFlush (s : State) : exec (.shmFlush) s = execShmFlush s := rfl
theorem exec_shmStageReset (s : State) : exec (.shmStageReset) s = execShmStageReset s := rfl
theorem exec_syncAdd (h) (obj) (arg) (reply) (tag) (rsvd) (s : State) : exec (.syncAdd h obj arg reply tag rsvd) s = execSyncAdd h obj arg reply tag rsvd s := rfl
theorem exec_syncTake (h) (obj) (arg) (reply) (tag) (rsvd) (s : State) : exec (.syncTake h obj arg reply tag rsvd) s = execSyncTake h obj arg reply tag rsvd s := rfl
theorem exec_syncSet (h) (obj) (arg) (reply) (tag) (rsvd) (s : State) : exec (.syncSet h obj arg reply tag rsvd) s = execSyncSet h obj arg reply tag rsvd s := rfl
theorem exec_syncRead (h) (obj) (arg) (reply) (tag) (rsvd) (s : State) : exec (.syncRead h obj arg reply tag rsvd) s = execSyncRead h obj arg reply tag rsvd s := rfl
theorem exec_syncWait (h) (obj) (arg) (reply) (tag) (rsvd) (s : State) : exec (.syncWait h obj arg reply tag rsvd) s = execSyncWait h obj arg reply tag rsvd s := rfl
theorem exec_syncCancel (h) (obj) (arg) (reply) (tag) (rsvd) (s : State) : exec (.syncCancel h obj arg reply tag rsvd) s = execSyncCancel h obj arg reply tag rsvd s := rfl
theorem exec_syncBadOp (h) (obj) (form) (s : State) : exec (.syncBadOp h obj form) s = execSyncBadOp h obj form s := rfl
theorem exec_syncCtlWrite (h) (obj) (value) (s : State) : exec (.syncCtlWrite h obj value) s = execSyncCtlWrite h obj value s := rfl
theorem exec_homeHintWrite (h) (value) (s : State) : exec (.homeHintWrite h value) s = execHomeHintWrite h value s := rfl
theorem exec_pageIn (h) (p) (slot) (s : State) : exec (.pageIn h p slot) s = execPageIn h p slot s := rfl
theorem exec_pageOut (h) (p) (slot) (s : State) : exec (.pageOut h p slot) s = execPageOut h p slot s := rfl
theorem exec_swapDmaDone (p) (slot) (lines) (lost) (s : State) : exec (.swapDmaDone p slot lines lost) s = execSwapDmaDone p slot lines lost s := rfl
theorem exec_cfgStageSubmit (h) (p) (slot) (data) (s : State) : exec (.cfgStageSubmit h p slot data) s = execCfgStageSubmit h p slot data s := rfl
theorem exec_secReportRequest (h) (p) (slot) (s : State) : exec (.secReportRequest h p slot) s = execSecReportRequest h p slot s := rfl
theorem exec_tallyClearWrite (h) (p) (i) (value) (s : State) : exec (.tallyClearWrite h p i value) s = execTallyClearWrite h p i value s := rfl
theorem exec_msixTableWrite (h) (i) (off) (bytes) (value) (s : State) : exec (.msixTableWrite h i off bytes value) s = execMsixTableWrite h i off bytes value s := rfl
theorem exec_partEvtCfgWrite (h) (p) (value) (s : State) : exec (.partEvtCfgWrite h p value) s = execPartEvtCfgWrite h p value s := rfl
theorem exec_registerWrite (h) (addr) (bytes) (value) (s : State) : exec (.registerWrite h addr bytes value) s = execRegisterWrite h addr bytes value s := rfl
theorem exec_hdmDecoderCommit (h) (bank) (ways) (size) (base) (s : State) : exec (.hdmDecoderCommit h bank ways size base) s = execHdmDecoderCommit h bank ways size base s := rfl
theorem exec_functionLevelReset (h) (s : State) : exec (.functionLevelReset h) s = execFunctionLevelReset h s := rfl
theorem exec_hostMemrdShared (h) (hpa) (s : State) : exec (.hostMemrdShared h hpa) s = execHostMemrdShared h hpa s := rfl
theorem exec_hostMemrdAny (h) (hpa) (s : State) : exec (.hostMemrdAny h hpa) s = execHostMemrdAny h hpa s := rfl
theorem exec_hostMemrdUncached (h) (hpa) (s : State) : exec (.hostMemrdUncached h hpa) s = execHostMemrdUncached h hpa s := rfl
theorem exec_hostMemwrHeld (h) (hpa) (data) (mask) (s : State) : exec (.hostMemwrHeld h hpa data mask) s = execHostMemwrHeld h hpa data mask s := rfl
theorem exec_hostMemwrInvalidating (h) (hpa) (data) (mask) (s : State) : exec (.hostMemwrInvalidating h hpa data mask) s = execHostMemwrInvalidating h hpa data mask s := rfl
theorem exec_bisnpResponse (pid) (line) (data) (s : State) : exec (.bisnpResponse pid line data) s = execBisnpResponse pid line data s := rfl
theorem exec_biTimeout (pid) (line) (s : State) : exec (.biTimeout pid line) s = execBiTimeout pid line s := rfl
theorem exec_cxlLinkDown (port) (s : State) : exec (.cxlLinkDown port) s = execCxlLinkDown port s := rfl
theorem exec_cxlLinkUp (port) (width) (rate) (pid) (s : State) : exec (.cxlLinkUp port width rate pid) s = execCxlLinkUp port width rate pid s := rfl
theorem exec_switchPortDown (pid) (s : State) : exec (.switchPortDown pid) s = execSwitchPortDown pid s := rfl
theorem exec_ideIntegrityFail (port) (s : State) : exec (.ideIntegrityFail port) s = execIdeIntegrityFail port s := rfl
theorem exec_ideKeySet (h) (link) (s : State) : exec (.ideKeySet h link) s = execIdeKeySet h link s := rfl
theorem exec_cxlPerst (port) (low) (s : State) : exec (.cxlPerst port low) s = execCxlPerst port low s := rfl
theorem exec_getVersion (h) (s : State) : exec (.getVersion h) s = execGetVersion h s := rfl
theorem exec_getCapabilities (h) (s : State) : exec (.getCapabilities h) s = execGetCapabilities h s := rfl
theorem exec_negotiateAlgorithms (h) (offered) (s : State) : exec (.negotiateAlgorithms h offered) s = execNegotiateAlgorithms h offered s := rfl
theorem exec_getDigests (h) (s : State) : exec (.getDigests h) s = execGetDigests h s := rfl
theorem exec_getCertificate (h) (offset) (length) (s : State) : exec (.getCertificate h offset length) s = execGetCertificate h offset length s := rfl
theorem exec_challenge (h) (nonce) (s : State) : exec (.challenge h nonce) s = execChallenge h nonce s := rfl
theorem exec_getMeasurements (h) (index) (sign) (nonce) (s : State) : exec (.getMeasurements h index sign nonce) s = execGetMeasurements h index sign nonce s := rfl
theorem exec_keyExchange (h) (data) (certOk) (s : State) : exec (.keyExchange h data certOk) s = execKeyExchange h data certOk s := rfl
theorem exec_finish (h) (ok) (s : State) : exec (.finish h ok) s = execFinish h ok s := rfl
theorem exec_spdmHeartbeat (h) (s : State) : exec (.spdmHeartbeat h) s = execSpdmHeartbeat h s := rfl
theorem exec_keyUpdate (h) (s : State) : exec (.keyUpdate h) s = execKeyUpdate h s := rfl
theorem exec_endSession (h) (s : State) : exec (.endSession h) s = execEndSession h s := rfl
theorem exec_spdmUnsupported (h) (s : State) : exec (.spdmUnsupported h) s = execSpdmUnsupported h s := rfl
theorem exec_admissionWindowExpiry (s : State) : exec (.admissionWindowExpiry) s = execAdmissionWindowExpiry s := rfl
theorem exec_stepClose (m) (src) (s : State) : exec (.stepClose m src) s = execStepClose m src s := rfl
theorem exec_sendStepDone (s : State) : exec (.sendStepDone) s = execSendStepDone s := rfl
theorem exec_stepDone (m) (src) (s : State) : exec (.stepDone m src) s = execStepDone m src s := rfl
theorem exec_rootSendCommit (far) (s : State) : exec (.rootSendCommit far) s = execRootSendCommit far s := rfl
theorem exec_stepCommit (m) (far) (src) (s : State) : exec (.stepCommit m far src) s = execStepCommit m far src s := rfl
theorem exec_stepWaitTimeout (s : State) : exec (.stepWaitTimeout) s = execStepWaitTimeout s := rfl
theorem exec_heartbeatTimer (s : State) : exec (.heartbeatTimer) s = execHeartbeatTimer s := rfl
theorem exec_heartbeat (m) (src) (s : State) : exec (.heartbeat m src) s = execHeartbeat m src s := rfl
theorem exec_suspicionTimeout (y) (s : State) : exec (.suspicionTimeout y) s = execSuspicionTimeout y s := rfl
theorem exec_suspect (m) (src) (s : State) : exec (.suspect m src) s = execSuspect m src s := rfl
theorem exec_clear (m) (src) (s : State) : exec (.clear m src) s = execClear m src s := rfl
theorem exec_membTimeout (y) (s : State) : exec (.membTimeout y) s = execMembTimeout y s := rfl
theorem exec_quorumAbandon (y) (s : State) : exec (.quorumAbandon y) s = execQuorumAbandon y s := rfl
theorem exec_exclude (m) (src) (s : State) : exec (.exclude m src) s = execExclude m src s := rfl
theorem exec_isolationTimeout (s : State) : exec (.isolationTimeout) s = execIsolationTimeout s := rfl
theorem exec_joinReq (m) (src) (s : State) : exec (.joinReq m src) s = execJoinReq m src s := rfl
theorem exec_joinRetryTimeout (s : State) : exec (.joinRetryTimeout) s = execJoinRetryTimeout s := rfl
theorem exec_joinGrant (m) (src) (s : State) : exec (.joinGrant m src) s = execJoinGrant m src s := rfl
theorem exec_formationWaitExpiry (s : State) : exec (.formationWaitExpiry) s = execFormationWaitExpiry s := rfl
theorem exec_queryDist (q) (src) (s : State) : exec (.queryDist q src) s = execQueryDist q src s := rfl
theorem exec_announce (id) (opcode) (src) (s : State) : exec (.announce id opcode src) s = execAnnounce id opcode src s := rfl
theorem exec_release (id) (opcode) (src) (s : State) : exec (.release id opcode src) s = execRelease id opcode src s := rfl
theorem exec_notice (id) (status) (src) (s : State) : exec (.notice id status src) s = execNotice id status src s := rfl
theorem exec_confirm (id) (status) (src) (s : State) : exec (.confirm id status src) s = execConfirm id status src s := rfl
theorem exec_routingComplete (id) (shard) (laneFault) (s : State) : exec (.routingComplete id shard laneFault) s = execRoutingComplete id shard laneFault s := rfl
theorem exec_nbuThresh (id) (shard) (list) (fault) (s : State) : exec (.nbuThresh id shard list fault) s = execNbuThresh id shard list fault s := rfl
theorem exec_nbuGather (id) (bag) (row) (fault) (s : State) : exec (.nbuGather id bag row fault) s = execNbuGather id bag row fault s := rfl
theorem exec_nbuApply (table) (row) (step) (s : State) : exec (.nbuApply table row step) s = execNbuApply table row step s := rfl
theorem exec_nbuCopy (info) (row) (e) (s : State) : exec (.nbuCopy info row e) s = execNbuCopy info row e s := rfl
theorem exec_nbuTest (bank) (ok) (s : State) : exec (.nbuTest bank ok) s = execNbuTest bank ok s := rfl
theorem exec_chainStookDelivery (id) (shard) (list) (winFault) (s : State) : exec (.chainStookDelivery id shard list winFault) s = execChainStookDelivery id shard list winFault s := rfl
theorem exec_fallbackPassDone (id) (shard) (list) (bank) (ok) (s : State) : exec (.fallbackPassDone id shard list bank ok) s = execFallbackPassDone id shard list bank ok s := rfl
theorem exec_gleanRecordArrival (id) (shard) (slot) (gsrc) (unitFault) (s : State) : exec (.gleanRecordArrival id shard slot gsrc unitFault) s = execGleanRecordArrival id shard slot gsrc unitFault s := rfl
theorem exec_transit (id) (src) (sh) (crcOk) (winFault) (s : State) : exec (.transit id src sh crcOk winFault) s = execTransit id src sh crcOk winFault s := rfl
theorem exec_sheafFlushReadDone (id) (s : State) : exec (.sheafFlushReadDone id) s = execSheafFlushReadDone id s := rfl
theorem exec_stook (id) (shard) (list) (entries) (s : State) : exec (.stook id shard list entries) s = execStook id shard list entries s := rfl
theorem exec_stookReq (id) (shard) (list) (floor) (src) (q) (failed) (s : State) : exec (.stookReq id shard list floor src q failed) s = execStookReq id shard list floor src q failed s := rfl
theorem exec_stage (g) (src) (again) (s : State) : exec (.stage g src again) s = execStage g src again s := rfl
theorem exec_digest (id) (digest) (src) (again) (s : State) : exec (.digest id digest src again) s = execDigest id digest src again s := rfl
theorem exec_stageAck (id) (fwd) (src) (s : State) : exec (.stageAck id fwd src) s = execStageAck id fwd src s := rfl
theorem exec_outcome (id) (o) (src) (s : State) : exec (.outcome id o src) s = execOutcome id o src s := rfl
theorem exec_credit (src) (units) (s : State) : exec (.credit src units) s = execCredit src units s := rfl
theorem exec_gradStage (rec) (src) (s : State) : exec (.gradStage rec src) s = execGradStage rec src s := rfl
theorem exec_entries (id) (table) (entries) (fwd) (src) (s : State) : exec (.entries id table entries fwd src) s = execEntries id table entries fwd src s := rfl
theorem exec_partials (id) (sums) (fwd) (onto) (bad) (src) (s : State) : exec (.partials id sums fwd onto bad src) s = execPartials id sums fwd onto bad src s := rfl
theorem exec_loadReport (step) (table) (load) (src) (s : State) : exec (.loadReport step table load src) s = execLoadReport step table load src s := rfl
theorem exec_directory (entry) (src) (s : State) : exec (.directory entry src) s = execDirectory entry src s := rfl
theorem exec_rowMove (table) (row) (step) (data) (src) (s : State) : exec (.rowMove table row step data src) s = execRowMove table row step data src s := rfl
theorem exec_rowDigest (table) (row) (step) (digest) (src) (s : State) : exec (.rowDigest table row step digest src) s = execRowDigest table row step digest src s := rfl
theorem exec_rds (line) (src) (s : State) : exec (.rds line src) s = execRds line src s := rfl
theorem exec_rdo (line) (src) (s : State) : exec (.rdo line src) s = execRdo line src s := rfl
theorem exec_upg (line) (src) (s : State) : exec (.upg line src) s = execUpg line src s := rfl
theorem exec_wbm (line) (data) (src) (s : State) : exec (.wbm line data src) s = execWbm line data src s := rfl
theorem exec_evs (line) (src) (s : State) : exec (.evs line src) s = execEvs line src s := rfl
theorem exec_invWrite (line) (data) (mask) (tag) (src) (s : State) : exec (.invWrite line data mask tag src) s = execInvWrite line data mask tag src s := rfl
theorem exec_cas (id) (region) (expect) (base) (pid) (src) (s : State) : exec (.cas id region expect base pid src) s = execCas id region expect base pid src s := rfl
theorem exec_snpdata (line) (fwd) (src) (s : State) : exec (.snpdata line fwd src) s = execSnpdata line fwd src s := rfl
theorem exec_snpinv (line) (fwd) (src) (s : State) : exec (.snpinv line fwd src) s = execSnpinv line fwd src s := rfl
theorem exec_cohRspData (line) (st) (data) (src) (s : State) : exec (.cohRspData line st data src) s = execCohRspData line st data src s := rfl
theorem exec_grant (line) (src) (s : State) : exec (.grant line src) s = execGrant line src s := rfl
theorem exec_snpRsp (line) (data) (sent) (src) (s : State) : exec (.snpRsp line data sent src) s = execSnpRsp line data sent src s := rfl
theorem exec_casRsp (id) (ok) (version) (pubStep) (src) (s : State) : exec (.casRsp id ok version pubStep src) s = execCasRsp id ok version pubStep src s := rfl
theorem exec_cohDone (line) (tag) (src) (s : State) : exec (.cohDone line tag src) s = execCohDone line tag src s := rfl
theorem exec_holdExpiry (line) (s : State) : exec (.holdExpiry line) s = execHoldExpiry line s := rfl
theorem exec_granuleFillDone (granule) (lost) (s : State) : exec (.granuleFillDone granule lost) s = execGranuleFillDone granule lost s := rfl
theorem exec_writebackTimer (granule) (s : State) : exec (.writebackTimer granule) s = execWritebackTimer granule s := rfl
theorem exec_publishSealDone (id) (prevRelease) (s : State) : exec (.publishSealDone id prevRelease) s = execPublishSealDone id prevRelease s := rfl
theorem exec_lostLog (entries) (src) (s : State) : exec (.lostLog entries src) s = execLostLog entries src s := rfl
theorem exec_reset (pid) (step) (src) (s : State) : exec (.reset pid step src) s = execReset pid step src s := rfl
theorem exec_resetConfirm (pid) (step) (src) (s : State) : exec (.resetConfirm pid step src) s = execResetConfirm pid step src s := rfl
theorem exec_actRecord (r) (src) (s : State) : exec (.actRecord r src) s = execActRecord r src s := rfl
theorem exec_activation (r) (data) (last) (src) (s : State) : exec (.activation r data last src) s = execActivation r data last src s := rfl
theorem exec_actOutput (id) (pos) (status) (out) (sat) (quant) (nan) (grads) (src) (s : State) : exec (.actOutput id pos status out sat quant nan grads src) s = execActOutput id pos status out sat quant nan grads src s := rfl
theorem exec_bulkRecordRead (coll) (shard) (slot) (src) (s : State) : exec (.bulkRecordRead coll shard slot src) s = execBulkRecordRead coll shard slot src s := rfl
theorem exec_bulkRecordReply (coll) (shard) (slot) (ok) (s : State) : exec (.bulkRecordReply coll shard slot ok) s = execBulkRecordReply coll shard slot ok s := rfl
theorem exec_indexPage (coll) (shard) (lpage) (ok) (s : State) : exec (.indexPage coll shard lpage ok) s = execIndexPage coll shard lpage ok s := rfl
theorem exec_filterBits (coll) (shard) (list) (fslot) (ok) (s : State) : exec (.filterBits coll shard list fslot ok) s = execFilterBits coll shard list fslot ok s := rfl
theorem exec_chunks (chan) (priv) (coded) (reb) (s : State) : exec (.chunks chan priv coded reb) s = execChunks chan priv coded reb s := rfl
theorem exec_weights (model) (lpage) (ok) (s : State) : exec (.weights model lpage ok) s = execWeights model lpage ok s := rfl
theorem exec_e2eAck (src) (cls) (route) (seq) (s : State) : exec (.e2eAck src cls route seq) s = execE2eAck src cls route seq s := rfl
theorem exec_e2eNak (src) (cls) (route) (seq) (s : State) : exec (.e2eNak src cls route seq) s = execE2eNak src cls route seq s := rfl
theorem exec_e2eAckTimer (s : State) : exec (.e2eAckTimer) s = execE2eAckTimer s := rfl
theorem exec_flitData (link) (raw) (fec) (s : State) : exec (.flitData link raw fec) s = execFlitData link raw fec s := rfl
theorem exec_flitNak (link) (raw) (fec) (s : State) : exec (.flitNak link raw fec) s = execFlitNak link raw fec s := rfl
theorem exec_flitInit (link) (raw) (fec) (s : State) : exec (.flitInit link raw fec) s = execFlitInit link raw fec s := rfl
theorem exec_flitIdle (link) (raw) (fec) (s : State) : exec (.flitIdle link raw fec) s = execFlitIdle link raw fec s := rfl
theorem exec_replayTimeout (link) (s : State) : exec (.replayTimeout link) s = execReplayTimeout link s := rfl
theorem exec_fastRetrainStart (link) (s : State) : exec (.fastRetrainStart link) s = execFastRetrainStart link s := rfl
theorem exec_fastRetrainDone (link) (s : State) : exec (.fastRetrainDone link) s = execFastRetrainDone link s := rfl
theorem exec_linkTrainingDone (link) (lanes) (s : State) : exec (.linkTrainingDone link lanes) s = execLinkTrainingDone link lanes s := rfl
theorem exec_freezePatternRx (link) (s : State) : exec (.freezePatternRx link) s = execFreezePatternRx link s := rfl
theorem exec_creditRefillTick (s : State) : exec (.creditRefillTick) s = execCreditRefillTick s := rfl
theorem exec_gateEntryExpiry (s : State) : exec (.gateEntryExpiry) s = execGateEntryExpiry s := rfl
theorem exec_encRecordDispatch (mem) (remote) (lost) (s : State) : exec (.encRecordDispatch mem remote lost) s = execEncRecordDispatch mem remote lost s := rfl
theorem exec_loftFillDone (model) (half) (layer) (s : State) : exec (.loftFillDone model half layer) s = execLoftFillDone model half layer s := rfl
theorem exec_streamTransferDone (core) (n) (s : State) : exec (.streamTransferDone core n) s = execStreamTransferDone core n s := rfl
theorem exec_firstPassDone (model) (src) (s : State) : exec (.firstPassDone model src) s = execFirstPassDone model src s := rfl
theorem exec_li (core) (s : State) : exec (.li core) s = execLi core s := rfl
theorem exec_add (core) (s : State) : exec (.add core) s = execAdd core s := rfl
theorem exec_addi (core) (s : State) : exec (.addi core) s = execAddi core s := rfl
theorem exec_sub (core) (s : State) : exec (.sub core) s = execSub core s := rfl
theorem exec_mul (core) (s : State) : exec (.mul core) s = execMul core s := rfl
theorem exec_and (core) (s : State) : exec (.and core) s = execAnd core s := rfl
theorem exec_or (core) (s : State) : exec (.or core) s = execOr core s := rfl
theorem exec_xor (core) (s : State) : exec (.xor core) s = execXor core s := rfl
theorem exec_shl (core) (s : State) : exec (.shl core) s = execShl core s := rfl
theorem exec_shr (core) (s : State) : exec (.shr core) s = execShr core s := rfl
theorem exec_sra (core) (s : State) : exec (.sra core) s = execSra core s := rfl
theorem exec_slt (core) (s : State) : exec (.slt core) s = execSlt core s := rfl
theorem exec_sltu (core) (s : State) : exec (.sltu core) s = execSltu core s := rfl
theorem exec_min (core) (s : State) : exec (.min core) s = execMin core s := rfl
theorem exec_max (core) (s : State) : exec (.max core) s = execMax core s := rfl
theorem exec_mfs (core) (s : State) : exec (.mfs core) s = execMfs core s := rfl
theorem exec_fadd (core) (s : State) : exec (.fadd core) s = execFadd core s := rfl
theorem exec_fmul (core) (s : State) : exec (.fmul core) s = execFmul core s := rfl
theorem exec_fdiv (core) (s : State) : exec (.fdiv core) s = execFdiv core s := rfl
theorem exec_itof (core) (s : State) : exec (.itof core) s = execItof core s := rfl
theorem exec_ftoi (core) (s : State) : exec (.ftoi core) s = execFtoi core s := rfl
theorem exec_qpar (core) (s : State) : exec (.qpar core) s = execQpar core s := rfl
theorem exec_qstat (core) (s : State) : exec (.qstat core) s = execQstat core s := rfl
theorem exec_vadd (core) (s : State) : exec (.vadd core) s = execVadd core s := rfl
theorem exec_vsub (core) (s : State) : exec (.vsub core) s = execVsub core s := rfl
theorem exec_vmul (core) (s : State) : exec (.vmul core) s = execVmul core s := rfl
theorem exec_vfma (core) (s : State) : exec (.vfma core) s = execVfma core s := rfl
theorem exec_vmax (core) (s : State) : exec (.vmax core) s = execVmax core s := rfl
theorem exec_vmin (core) (s : State) : exec (.vmin core) s = execVmin core s := rfl
theorem exec_vexp (core) (s : State) : exec (.vexp core) s = execVexp core s := rfl
theorem exec_vrcp (core) (s : State) : exec (.vrcp core) s = execVrcp core s := rfl
theorem exec_vrsqrt (core) (s : State) : exec (.vrsqrt core) s = execVrsqrt core s := rfl
theorem exec_vsplat (core) (s : State) : exec (.vsplat core) s = execVsplat core s := rfl
theorem exec_vcmp (core) (s : State) : exec (.vcmp core) s = execVcmp core s := rfl
theorem exec_vsel (core) (s : State) : exec (.vsel core) s = execVsel core s := rfl
theorem exec_vcvt (core) (s : State) : exec (.vcvt core) s = execVcvt core s := rfl
theorem exec_vrsum (core) (s : State) : exec (.vrsum core) s = execVrsum core s := rfl
theorem exec_vrmax (core) (s : State) : exec (.vrmax core) s = execVrmax core s := rfl
theorem exec_vrmin (core) (s : State) : exec (.vrmin core) s = execVrmin core s := rfl
theorem exec_vtrd (core) (residueOk) (s : State) : exec (.vtrd core residueOk) s = execVtrd core residueOk s := rfl
theorem exec_vtwr (core) (s : State) : exec (.vtwr core) s = execVtwr core s := rfl
theorem exec_qmm (core) (s : State) : exec (.qmm core) s = execQmm core s := rfl
theorem exec_qcvt (core) (s : State) : exec (.qcvt core) s = execQcvt core s := rfl
theorem exec_qdq (core) (s : State) : exec (.qdq core) s = execQdq core s := rfl
theorem exec_mma (core) (s : State) : exec (.mma core) s = execMma core s := rfl
theorem exec_tclr (core) (s : State) : exec (.tclr core) s = execTclr core s := rfl
theorem exec_tst (core) (residueOk) (s : State) : exec (.tst core residueOk) s = execTst core residueOk s := rfl
theorem exec_vld (core) (s : State) : exec (.vld core) s = execVld core s := rfl
theorem exec_vst (core) (s : State) : exec (.vst core) s = execVst core s := rfl
theorem exec_sld (core) (s : State) : exec (.sld core) s = execSld core s := rfl
theorem exec_sst (core) (s : State) : exec (.sst core) s = execSst core s := rfl
theorem exec_incpy (core) (s : State) : exec (.incpy core) s = execIncpy core s := rfl
theorem exec_outcpy (core) (s : State) : exec (.outcpy core) s = execOutcpy core s := rfl
theorem exec_emb (core) (s : State) : exec (.emb core) s = execEmb core s := rfl
theorem exec_wopen (core) (s : State) : exec (.wopen core) s = execWopen core s := rfl
theorem exec_wclose (core) (s : State) : exec (.wclose core) s = execWclose core s := rfl
theorem exec_xch (core) (s : State) : exec (.xch core) s = execXch core s := rfl
theorem exec_acto (core) (s : State) : exec (.acto core) s = execActo core s := rfl
theorem exec_acti (core) (s : State) : exec (.acti core) s = execActi core s := rfl
theorem exec_grad (core) (s : State) : exec (.grad core) s = execGrad core s := rfl
theorem exec_scrz (core) (s : State) : exec (.scrz core) s = execScrz core s := rfl
theorem exec_br (core) (s : State) : exec (.br core) s = execBr core s := rfl
theorem exec_jmp (core) (s : State) : exec (.jmp core) s = execJmp core s := rfl
theorem exec_loop (core) (s : State) : exec (.loop core) s = execLoop core s := rfl
theorem exec_halt (core) (s : State) : exec (.halt core) s = execHalt core s := rfl
theorem exec_bar (core) (s : State) : exec (.bar core) s = execBar core s := rfl
theorem exec_rxwin (core) (s : State) : exec (.rxwin core) s = execRxwin core s := rfl
theorem exec_trap (core) (s : State) : exec (.trap core) s = execTrap core s := rfl
theorem exec_nop (core) (s : State) : exec (.nop core) s = execNop core s := rfl
theorem exec_flashReadDone (lpage) (retries) (soft) (ok) (s : State) : exec (.flashReadDone lpage retries soft ok) s = execFlashReadDone lpage retries soft ok s := rfl
theorem exec_flashProgramDone (stream) (at_) (units) (ok) (s : State) : exec (.flashProgramDone stream at_ units ok) s = execFlashProgramDone stream at_ units ok s := rfl
theorem exec_superblockVerify (stream) (bad) (s : State) : exec (.superblockVerify stream bad) s = execSuperblockVerify stream bad s := rfl
theorem exec_flashEraseDone (block) (ok) (s : State) : exec (.flashEraseDone block ok) s = execFlashEraseDone block ok s := rfl
theorem exec_gcTrigger (lun) (s : State) : exec (.gcTrigger lun) s = execGcTrigger lun s := rfl
theorem exec_checkpointTimer (s : State) : exec (.checkpointTimer) s = execCheckpointTimer s := rfl
theorem exec_ageTick (s : State) : exec (.ageTick) s = execAgeTick s := rfl
theorem exec_lunTempSample (lun) (temp) (s : State) : exec (.lunTempSample lun temp) s = execLunTempSample lun temp s := rfl
theorem exec_refreshDue (bank) (time) (busy) (s : State) : exec (.refreshDue bank time busy) s = execRefreshDue bank time busy s := rfl
theorem exec_scrubDue (a) (burst) (cls) (redo) (s : State) : exec (.scrubDue a burst cls redo) s = execScrubDue a burst cls redo s := rfl
theorem exec_stackThermalReading (stack) (dies) (s : State) : exec (.stackThermalReading stack dies) s = execStackThermalReading stack dies s := rfl
theorem exec_hotBandExit (stack) (s : State) : exec (.hotBandExit stack) s = execHotBandExit stack s := rfl
theorem exec_stackTimerCrosscheck (stack) (periods) (ticks) (s : State) : exec (.stackTimerCrosscheck stack periods ticks) s = execStackTimerCrosscheck stack periods ticks s := rfl
theorem exec_scanGovernorTick (stack) (demand) (s : State) : exec (.scanGovernorTick stack demand) s = execScanGovernorTick stack demand s := rfl
theorem exec_viaRemap (chan) (via) (s : State) : exec (.viaRemap chan via) s = execViaRemap chan via s := rfl
theorem exec_channelFail (chan) (cause) (s : State) : exec (.channelFail chan cause) s = execChannelFail chan cause s := rfl
theorem exec_channelRebuildDone (chan) (s : State) : exec (.channelRebuildDone chan) s = execChannelRebuildDone chan s := rfl
theorem exec_rowRepair (chan) (bank) (row) (s : State) : exec (.rowRepair chan bank row) s = execRowRepair chan bank row s := rfl
theorem exec_graphRebuildDone (coll) (shard) (edges) (entry) (s : State) : exec (.graphRebuildDone coll shard edges entry) s = execGraphRebuildDone coll shard edges entry s := rfl
theorem exec_upkeepBuildDone (coll) (shard) (list) (s : State) : exec (.upkeepBuildDone coll shard list) s = execUpkeepBuildDone coll shard list s := rfl
theorem exec_filterPlacementDone (coll) (shard) (fslot) (bitmap) (status) (s : State) : exec (.filterPlacementDone coll shard fslot bitmap status) s = execFilterPlacementDone coll shard fslot bitmap status s := rfl
theorem exec_rollingTest (cls) (unit) (ok) (last) (s : State) : exec (.rollingTest cls unit ok last) s = execRollingTest cls unit ok last s := rfl
theorem exec_watchdogExpiry (cls) (unit) (waited) (outside) (ops) (s : State) : exec (.watchdogExpiry cls unit waited outside ops) s = execWatchdogExpiry cls unit waited outside ops s := rfl
theorem exec_invalidCodeword (cls) (unit) (ops) (s : State) : exec (.invalidCodeword cls unit ops) s = execInvalidCodeword cls unit ops s := rfl
theorem exec_safetyReaction (mech) (cls) (unit) (reaction) (ops) (detail) (s : State) : exec (.safetyReaction mech cls unit reaction ops detail) s = execSafetyReaction mech cls unit reaction ops detail s := rfl
theorem exec_lockstepMismatch (s : State) : exec (.lockstepMismatch) s = execLockstepMismatch s := rfl
theorem exec_faultNRelease (s : State) : exec (.faultNRelease) s = execFaultNRelease s := rfl
theorem exec_freezeNFall (s : State) : exec (.freezeNFall) s = execFreezeNFall s := rfl
theorem exec_freezeNRise (s : State) : exec (.freezeNRise) s = execFreezeNRise s := rfl
theorem exec_freeze (s : State) : exec (.freeze) s = execFreeze s := rfl
theorem exec_resume (s : State) : exec (.resume) s = execResume s := rfl
theorem exec_dbgRead (addr) (s : State) : exec (.dbgRead addr) s = execDbgRead addr s := rfl
theorem exec_dbgStatus (s : State) : exec (.dbgStatus) s = execDbgStatus s := rfl
theorem exec_idcode (s : State) : exec (.idcode) s = execIdcode s := rfl
theorem exec_extest (value) (s : State) : exec (.extest value) s = execExtest value s := rfl
theorem exec_samplePreload (value) (s : State) : exec (.samplePreload value) s = execSamplePreload value s := rfl
theorem exec_bypass (s : State) : exec (.bypass) s = execBypass s := rfl
theorem exec_pwrOkRise (s : State) : exec (.pwrOkRise) s = execPwrOkRise s := rfl
theorem exec_pwrOkFall (s : State) : exec (.pwrOkFall) s = execPwrOkFall s := rfl
theorem exec_resetNFall (s : State) : exec (.resetNFall) s = execResetNFall s := rfl
theorem exec_resetNRise (compatG1) (cfgSel) (s : State) : exec (.resetNRise compatG1 cfgSel) s = execResetNRise compatG1 cfgSel s := rfl
theorem exec_pwrFailNFall (s : State) : exec (.pwrFailNFall) s = execPwrFailNFall s := rfl
theorem exec_pwrFailNRise (s : State) : exec (.pwrFailNRise) s = execPwrFailNRise s := rfl
theorem exec_flushDone (s : State) : exec (.flushDone) s = execFlushDone s := rfl
theorem exec_undervoltage (s : State) : exec (.undervoltage) s = execUndervoltage s := rfl
theorem exec_railsOff (s : State) : exec (.railsOff) s = execRailsOff s := rfl
theorem exec_powerLimiterSample (avgW) (vin) (s : State) : exec (.powerLimiterSample avgW vin) s = execPowerLimiterSample avgW vin s := rfl
theorem exec_dieThermalReading (temp) (s : State) : exec (.dieThermalReading temp) s = execDieThermalReading temp s := rfl
theorem exec_i3cEntdaa (addr) (s : State) : exec (.i3cEntdaa addr) s = execI3cEntdaa addr s := rfl
theorem exec_i3cRead (s : State) : exec (.i3cRead) s = execI3cRead s := rfl
theorem exec_pufDeriveDone (flipped) (ok) (s : State) : exec (.pufDeriveDone flipped ok) s = execPufDeriveDone flipped ok s := rfl
theorem exec_imageVerifyDone (device) (r) (s : State) : exec (.imageVerifyDone device r) s = execImageVerifyDone device r s := rfl
theorem exec_stackTrainingDone (failed) (vias) (rows) (s : State) : exec (.stackTrainingDone failed vias rows) s = execStackTrainingDone failed vias rows s := rfl
theorem exec_flashInitDone (luns) (chans) (offline) (s : State) : exec (.flashInitDone luns chans offline) s = execFlashInitDone luns chans offline s := rfl
theorem exec_mapReplayDone (mem) (s : State) : exec (.mapReplayDone mem) s = execMapReplayDone mem s := rfl
theorem exec_catchUpDone (c) (log) (mem) (s : State) : exec (.catchUpDone c log mem) s = execCatchUpDone c log mem s := rfl
theorem exec_amendWrite (raw) (slot) (s : State) : exec (.amendWrite raw slot) s = execAmendWrite raw slot s := rfl
theorem exec_amendModelLoad (raw) (slot) (s : State) : exec (.amendModelLoad raw slot) s = execAmendModelLoad raw slot s := rfl
theorem exec_amendImageStore (raw) (slot) (stored) (s : State) : exec (.amendImageStore raw slot stored) s = execAmendImageStore raw slot stored s := rfl
theorem exec_amendLinkTrain (raw) (slot) (s : State) : exec (.amendLinkTrain raw slot) s = execAmendLinkTrain raw slot s := rfl
theorem exec_amendTallyClear (raw) (slot) (s : State) : exec (.amendTallyClear raw slot) s = execAmendTallyClear raw slot s := rfl
theorem exec_amendLogAppend (raw) (prog) (mem) (src) (s : State) : exec (.amendLogAppend raw prog mem src) s = execAmendLogAppend raw prog mem src s := rfl
theorem exec_amendAppendAck (seq) (bad) (done) (src) (s : State) : exec (.amendAppendAck seq bad done src) s = execAmendAppendAck seq bad done src s := rfl
theorem exec_railsGood (s : State) : exec (.railsGood) s = execRailsGood s := rfl
theorem exec_spanZeroingDone (range) (s : State) : exec (.spanZeroingDone range) s = execSpanZeroingDone range s := rfl
theorem exec_tableLoadFinished (info) (s : State) : exec (.tableLoadFinished info) s = execTableLoadFinished info s := rfl

end Sys2Proof.Machine
end

