-- ==== Sys2Proof/Laws/Guards.lean ====
section
/-! SUPPORT. What each guard of a meaning can do (R402): proofs cite these in place of unfolding a guard. -/

namespace Sys2Proof.Machine

open Sys2Proof

@[simp] theorem State.keep_self (s : State) : s.keep s = s := rfl
@[simp] theorem State.keep_pending (s t : State) : (s.keep t).pending = s.pending := rfl
@[simp] theorem State.keep_held (s t : State) : (s.keep t).held = s.held := rfl
@[simp] theorem State.keep_awake (s t : State) : (s.keep t).awake = s.awake := rfl
@[simp] theorem State.keep_regs (s t : State) : (s.keep t).regs = t.regs := rfl
@[simp] theorem State.keep_get (s t : State) (f : Fld) : (s.keep t).get f = t.get f := rfl
@[simp] theorem State.keep_frozen (s t : State) : (s.keep t).frozen = t.frozen := rfl
@[simp] theorem State.keep_set (s : State) (f : Fld) (v : Nat) : s.keep (s.set f v) = s.set f v := rfl
@[simp] theorem State.keep_setB (s : State) (f : Fld) (b : Bool) : s.keep (s.setB f b) = s.setB f b := rfl
@[simp] theorem State.keep_emit (s : State) (o : Output) : s.keep (s.emit o) = s.emit o := rfl
@[simp] theorem State.keep_keep (s t u : State) : s.keep (t.keep u) = s.keep u := rfl

/-- A running node's event happens. -/
theorem nodeEvt_runs {s : State} (h : Runs s) (f : State → State) : nodeEvt s f = .next (s.keep (f s)) := by
  simp [nodeEvt, h.1, h.2]

/-- A running node with nothing held serves a request. -/
theorem hostCmd_takes {s : State} (h : Takes s) (c : Instr) (f : State → State) : hostCmd s c f = .next (s.keep (f s)) := by
  simp [hostCmd, h.1.1, h.1.2, h.2]

/-- What a freeze does not stop happens on any node. -/
theorem anyEvt_next (s : State) (f : State → State) : anyEvt s f = .next (s.keep (f s)) := rfl

/-- What can reset the node happens on any node. -/
theorem resetEvt_next (s : State) (f : State → State) : resetEvt s f = .next { f s with pending := s.pending } := rfl

/-- A frozen node has no event of its own. -/
theorem nodeEvt_frozen {s : State} (h : s.frozen = true) (f : State → State) : nodeEvt s f = .next s := by
  simp [nodeEvt, h]

/-- A frozen node holds a request. -/
theorem hostCmd_frozen {s : State} (ha : s.awake = true) (h : s.frozen = true) (c : Instr) (f : State → State) :
    hostCmd s c f = .next { s with held := s.held ++ [c] } := by
  simp [hostCmd, ha, h]

/-- A node that is not awake does nothing. -/
theorem nodeEvt_asleep {s : State} (h : s.awake = false) (f : State → State) : nodeEvt s f = .next s := by
  simp [nodeEvt, h]

/-- A node that is not awake serves no request. -/
theorem hostCmd_asleep {s : State} (h : s.awake = false) (c : Instr) (f : State → State) : hostCmd s c f = .next s := by
  simp [hostCmd, h]

/-- Everything an event can do. -/
theorem nodeEvt_cases {s t : State} {f : State → State} (h : nodeEvt s f = .next t) : t = s ∨ Runs s ∧ t = s.keep (f s) := by
  unfold nodeEvt at h
  split at h
  · exact .inl (by cases h; rfl)
  · rename_i hc
    refine .inr ⟨by simpa using hc, by cases h; rfl⟩

/-- Everything a request can do. -/
theorem hostCmd_cases {s t : State} {c : Instr} {f : State → State} (h : hostCmd s c f = .next t) :
    t = s ∨ (s.awake = true ∧ t = { s with held := s.held ++ [c] }) ∨ Takes s ∧ t = s.keep (f s) := by
  unfold hostCmd at h
  split at h
  · exact .inl (by cases h; rfl)
  · rename_i ha
    split at h
    · exact .inr (.inl ⟨by simpa using ha, by cases h; rfl⟩)
    · rename_i hc
      have hc' : s.frozen = false ∧ s.held = [] := by simpa using hc
      exact .inr (.inr ⟨⟨⟨by simpa using ha, hc'.1⟩, hc'.2⟩, by cases h; rfl⟩)

end Sys2Proof.Machine
end

