-- ==== Sys2Proof/Laws/Requests.lean ====
section
/-! SUPPORT. What the shared ways in do with a request or a descriptor that passes their checks. -/

namespace Sys2Proof.Machine

open Sys2Proof

/-- A bound host's write to its partition's page acts. -/
theorem ownPage_bound {s : State} {h : HostReq} {p : Nat} (hb : Bound s h p) (f : State → State) : s.ownPage h p f = f s := by
  unfold State.ownPage
  rw [hb]
  simp

/-- A bound host's write to another partition's page is counted and changes nothing else (R331). -/
theorem ownPage_foreign {s : State} {h : HostReq} {p q : Nat} (hb : Bound s h q) (hn : q ≠ p) (f : State → State) :
    s.ownPage h p f = s.tallyP .CXP_FOREIGN q := by
  unfold State.ownPage
  rw [hb]
  simp [hn]

/-- A request to the host's own function acts where the host is bound. -/
theorem configReq_ok {s : State} {h : HostReq} (hc : Configures s h) (f : State → State) : s.configReq h f = f s := by
  obtain ⟨i, h1, h2, h3⟩ := hc
  unfold State.configReq
  simp [h1, h2, h3]

/-- An SPDM request in its turn acts. -/
theorem spdmReq_ok {s : State} {h : HostReq} (hc : Configures s h) {ready : Spdm → Bool} (hr : ready (s.ctx h.pid).spdm = true)
    (f : State → Spdm → State) : s.spdmReq h ready f = f s (s.ctx h.pid).spdm := by
  unfold State.spdmReq
  rw [configReq_ok hc]
  simp [hr]

/-- An SPDM request out of its turn is answered with the error 4 (R340). -/
theorem spdmReq_early {s : State} {h : HostReq} (hc : Configures s h) {ready : Spdm → Bool} (hr : ready (s.ctx h.pid).spdm = false)
    (f : State → Spdm → State) : s.spdmReq h ready f = s.spdmErr h 4 := by
  unfold State.spdmReq
  rw [configReq_ok hc]
  simp [hr]

/-- The shaper's pick, when no check completes it at once, is taken and runs (R471). -/
theorem serve_served {s : State} {op p n : Nat} {h : Head} {dlv : Delivery} (hs : Served s op p n h dlv)
    (run : State → Taken → Delivery → State) :
    s.serve (isOp op) run = run (s.takeHead p n h).1 (s.takeHead p n h).2 dlv := by
  unfold State.serve
  simp [hs.pick, hs.head, hs.isOp, hs.sound, hs.slot]

/-- The taken descriptor is the head's. -/
theorem takeHead_data (s : State) (p n : Nat) (h : Head) : (s.takeHead p n h).2.data = h.data := by
  unfold State.takeHead
  cases s.completionRing p h.data <;> rfl

/-- It takes the open step and the next admission sequence number of this node (R33, R471). -/
theorem takeHead_id (s : State) (p n : Nat) (h : Head) :
    (s.takeHead p n h).2.id = { step := s.openStep, seq := s.host.admSeq, admitter := s.me } := by
  unfold State.takeHead
  cases s.completionRing p h.data <;> rfl

end Sys2Proof.Machine
end

