-- ==== Sys2Proof/Laws/Shape.lean ====
section
/-! SUPPORT. What every command is: each meaning goes through one of four guards. Proofs about all commands cite this and the
guards' lemmas, and unfold no meaning. -/

namespace Sys2Proof.Machine

open Sys2Proof

/-- A slot command is an event of its core. -/
theorem slot_shape (s : State) (c kind op : Nat) (b : SlotCtx → SlotRes) :
    ∃ f, s.slotCmd c kind op b = nodeEvt s f := ⟨_, rfl⟩

/-- What every command is (R402): a request of a host, an event of the engines, an event that no freeze stops, or one that can
reset the node. -/
theorem exec_shape (c : Instr) (s : State) :
    (actsWhen c = .host ∧ ∃ f, exec c s = hostCmd s c f) ∨ (actsWhen c = .engine ∧ ∃ f, exec c s = nodeEvt s f) ∨
    (actsWhen c = .always ∧ ∃ f, exec c s = anyEvt s f) ∨ (actsWhen c = .power ∧ ∃ f, exec c s = resetEvt s f) := by
  cases c with
  | iringTailWrite => exact .inl ⟨rfl, _, exec_iringTailWrite ..⟩
  | sringHeadWrite => exact .inl ⟨rfl, _, exec_sringHeadWrite ..⟩
  | descriptorFetch => exact .inr <| .inl ⟨rfl, _, exec_descriptorFetch ..⟩
  | malformedUnit => exact .inr <| .inl ⟨rfl, _, exec_malformedUnit ..⟩
  | query => exact .inr <| .inl ⟨rfl, _, exec_query ..⟩
  | filterLoad => exact .inr <| .inl ⟨rfl, _, exec_filterLoad ..⟩
  | filterRetire => exact .inr <| .inl ⟨rfl, _, exec_filterRetire ..⟩
  | insert => exact .inr <| .inl ⟨rfl, _, exec_insert ..⟩
  | delete => exact .inr <| .inl ⟨rfl, _, exec_delete ..⟩
  | replace => exact .inr <| .inl ⟨rfl, _, exec_replace ..⟩
  | recordRead => exact .inr <| .inl ⟨rfl, _, exec_recordRead ..⟩
  | embLookup => exact .inr <| .inl ⟨rfl, _, exec_embLookup ..⟩
  | embUpdate => exact .inr <| .inl ⟨rfl, _, exec_embUpdate ..⟩
  | embTableLoad => exact .inr <| .inl ⟨rfl, _, exec_embTableLoad ..⟩
  | embTableSave => exact .inr <| .inl ⟨rfl, _, exec_embTableSave ..⟩
  | encRun => exact .inr <| .inl ⟨rfl, _, exec_encRun ..⟩
  | shmPublish => exact .inr <| .inl ⟨rfl, _, exec_shmPublish ..⟩
  | shmFlush => exact .inr <| .inl ⟨rfl, _, exec_shmFlush ..⟩
  | shmStageReset => exact .inr <| .inl ⟨rfl, _, exec_shmStageReset ..⟩
  | syncAdd => exact .inl ⟨rfl, _, exec_syncAdd ..⟩
  | syncTake => exact .inl ⟨rfl, _, exec_syncTake ..⟩
  | syncSet => exact .inl ⟨rfl, _, exec_syncSet ..⟩
  | syncRead => exact .inl ⟨rfl, _, exec_syncRead ..⟩
  | syncWait => exact .inl ⟨rfl, _, exec_syncWait ..⟩
  | syncCancel => exact .inl ⟨rfl, _, exec_syncCancel ..⟩
  | syncBadOp => exact .inl ⟨rfl, _, exec_syncBadOp ..⟩
  | syncCtlWrite => exact .inl ⟨rfl, _, exec_syncCtlWrite ..⟩
  | homeHintWrite => exact .inl ⟨rfl, _, exec_homeHintWrite ..⟩
  | pageIn => exact .inl ⟨rfl, _, exec_pageIn ..⟩
  | pageOut => exact .inl ⟨rfl, _, exec_pageOut ..⟩
  | swapDmaDone => exact .inr <| .inl ⟨rfl, _, exec_swapDmaDone ..⟩
  | cfgStageSubmit => exact .inl ⟨rfl, _, exec_cfgStageSubmit ..⟩
  | secReportRequest => exact .inl ⟨rfl, _, exec_secReportRequest ..⟩
  | tallyClearWrite => exact .inl ⟨rfl, _, exec_tallyClearWrite ..⟩
  | msixTableWrite => exact .inl ⟨rfl, _, exec_msixTableWrite ..⟩
  | partEvtCfgWrite => exact .inl ⟨rfl, _, exec_partEvtCfgWrite ..⟩
  | registerWrite => exact .inl ⟨rfl, _, exec_registerWrite ..⟩
  | hdmDecoderCommit => exact .inl ⟨rfl, _, exec_hdmDecoderCommit ..⟩
  | functionLevelReset => exact .inl ⟨rfl, _, exec_functionLevelReset ..⟩
  | hostMemrdShared => exact .inl ⟨rfl, _, exec_hostMemrdShared ..⟩
  | hostMemrdAny => exact .inl ⟨rfl, _, exec_hostMemrdAny ..⟩
  | hostMemrdUncached => exact .inl ⟨rfl, _, exec_hostMemrdUncached ..⟩
  | hostMemwrHeld => exact .inl ⟨rfl, _, exec_hostMemwrHeld ..⟩
  | hostMemwrInvalidating => exact .inl ⟨rfl, _, exec_hostMemwrInvalidating ..⟩
  | bisnpResponse => exact .inr <| .inl ⟨rfl, _, exec_bisnpResponse ..⟩
  | biTimeout => exact .inr <| .inl ⟨rfl, _, exec_biTimeout ..⟩
  | cxlLinkDown => exact .inr <| .inl ⟨rfl, _, exec_cxlLinkDown ..⟩
  | cxlLinkUp => exact .inr <| .inl ⟨rfl, _, exec_cxlLinkUp ..⟩
  | switchPortDown => exact .inr <| .inl ⟨rfl, _, exec_switchPortDown ..⟩
  | ideIntegrityFail => exact .inr <| .inl ⟨rfl, _, exec_ideIntegrityFail ..⟩
  | ideKeySet => exact .inl ⟨rfl, _, exec_ideKeySet ..⟩
  | cxlPerst => exact .inr <| .inr <| .inl ⟨rfl, _, exec_cxlPerst ..⟩
  | getVersion => exact .inl ⟨rfl, _, exec_getVersion ..⟩
  | getCapabilities => exact .inl ⟨rfl, _, exec_getCapabilities ..⟩
  | negotiateAlgorithms => exact .inl ⟨rfl, _, exec_negotiateAlgorithms ..⟩
  | getDigests => exact .inl ⟨rfl, _, exec_getDigests ..⟩
  | getCertificate => exact .inl ⟨rfl, _, exec_getCertificate ..⟩
  | challenge => exact .inl ⟨rfl, _, exec_challenge ..⟩
  | getMeasurements => exact .inl ⟨rfl, _, exec_getMeasurements ..⟩
  | keyExchange => exact .inl ⟨rfl, _, exec_keyExchange ..⟩
  | finish => exact .inl ⟨rfl, _, exec_finish ..⟩
  | spdmHeartbeat => exact .inl ⟨rfl, _, exec_spdmHeartbeat ..⟩
  | keyUpdate => exact .inl ⟨rfl, _, exec_keyUpdate ..⟩
  | endSession => exact .inl ⟨rfl, _, exec_endSession ..⟩
  | spdmUnsupported => exact .inl ⟨rfl, _, exec_spdmUnsupported ..⟩
  | admissionWindowExpiry => exact .inr <| .inl ⟨rfl, _, exec_admissionWindowExpiry ..⟩
  | stepClose => exact .inr <| .inl ⟨rfl, _, exec_stepClose ..⟩
  | sendStepDone => exact .inr <| .inl ⟨rfl, _, exec_sendStepDone ..⟩
  | stepDone => exact .inr <| .inl ⟨rfl, _, exec_stepDone ..⟩
  | rootSendCommit => exact .inr <| .inl ⟨rfl, _, exec_rootSendCommit ..⟩
  | stepCommit => exact .inr <| .inl ⟨rfl, _, exec_stepCommit ..⟩
  | stepWaitTimeout => exact .inr <| .inl ⟨rfl, _, exec_stepWaitTimeout ..⟩
  | heartbeatTimer => exact .inr <| .inl ⟨rfl, _, exec_heartbeatTimer ..⟩
  | heartbeat => exact .inr <| .inl ⟨rfl, _, exec_heartbeat ..⟩
  | suspicionTimeout => exact .inr <| .inl ⟨rfl, _, exec_suspicionTimeout ..⟩
  | suspect => exact .inr <| .inl ⟨rfl, _, exec_suspect ..⟩
  | clear => exact .inr <| .inl ⟨rfl, _, exec_clear ..⟩
  | membTimeout => exact .inr <| .inl ⟨rfl, _, exec_membTimeout ..⟩
  | quorumAbandon => exact .inr <| .inl ⟨rfl, _, exec_quorumAbandon ..⟩
  | exclude => exact .inr <| .inl ⟨rfl, _, exec_exclude ..⟩
  | isolationTimeout => exact .inr <| .inl ⟨rfl, _, exec_isolationTimeout ..⟩
  | joinReq => exact .inr <| .inl ⟨rfl, _, exec_joinReq ..⟩
  | joinRetryTimeout => exact .inr <| .inl ⟨rfl, _, exec_joinRetryTimeout ..⟩
  | joinGrant => exact .inr <| .inl ⟨rfl, _, exec_joinGrant ..⟩
  | formationWaitExpiry => exact .inr <| .inl ⟨rfl, _, exec_formationWaitExpiry ..⟩
  | queryDist => exact .inr <| .inl ⟨rfl, _, exec_queryDist ..⟩
  | announce => exact .inr <| .inl ⟨rfl, _, exec_announce ..⟩
  | release => exact .inr <| .inl ⟨rfl, _, exec_release ..⟩
  | notice => exact .inr <| .inl ⟨rfl, _, exec_notice ..⟩
  | confirm => exact .inr <| .inl ⟨rfl, _, exec_confirm ..⟩
  | routingComplete => exact .inr <| .inl ⟨rfl, _, exec_routingComplete ..⟩
  | nbuThresh => exact .inr <| .inl ⟨rfl, _, exec_nbuThresh ..⟩
  | nbuGather => exact .inr <| .inl ⟨rfl, _, exec_nbuGather ..⟩
  | nbuApply => exact .inr <| .inl ⟨rfl, _, exec_nbuApply ..⟩
  | nbuCopy => exact .inr <| .inl ⟨rfl, _, exec_nbuCopy ..⟩
  | nbuTest => exact .inr <| .inl ⟨rfl, _, exec_nbuTest ..⟩
  | chainStookDelivery => exact .inr <| .inl ⟨rfl, _, exec_chainStookDelivery ..⟩
  | fallbackPassDone => exact .inr <| .inl ⟨rfl, _, exec_fallbackPassDone ..⟩
  | gleanRecordArrival => exact .inr <| .inl ⟨rfl, _, exec_gleanRecordArrival ..⟩
  | transit => exact .inr <| .inl ⟨rfl, _, exec_transit ..⟩
  | sheafFlushReadDone => exact .inr <| .inl ⟨rfl, _, exec_sheafFlushReadDone ..⟩
  | stook => exact .inr <| .inl ⟨rfl, _, exec_stook ..⟩
  | stookReq => exact .inr <| .inl ⟨rfl, _, exec_stookReq ..⟩
  | stage => exact .inr <| .inl ⟨rfl, _, exec_stage ..⟩
  | digest => exact .inr <| .inl ⟨rfl, _, exec_digest ..⟩
  | stageAck => exact .inr <| .inl ⟨rfl, _, exec_stageAck ..⟩
  | outcome => exact .inr <| .inl ⟨rfl, _, exec_outcome ..⟩
  | credit => exact .inr <| .inl ⟨rfl, _, exec_credit ..⟩
  | gradStage => exact .inr <| .inl ⟨rfl, _, exec_gradStage ..⟩
  | entries => exact .inr <| .inl ⟨rfl, _, exec_entries ..⟩
  | partials => exact .inr <| .inl ⟨rfl, _, exec_partials ..⟩
  | loadReport => exact .inr <| .inl ⟨rfl, _, exec_loadReport ..⟩
  | directory => exact .inr <| .inl ⟨rfl, _, exec_directory ..⟩
  | rowMove => exact .inr <| .inl ⟨rfl, _, exec_rowMove ..⟩
  | rowDigest => exact .inr <| .inl ⟨rfl, _, exec_rowDigest ..⟩
  | rds => exact .inr <| .inl ⟨rfl, _, exec_rds ..⟩
  | rdo => exact .inr <| .inl ⟨rfl, _, exec_rdo ..⟩
  | upg => exact .inr <| .inl ⟨rfl, _, exec_upg ..⟩
  | wbm => exact .inr <| .inl ⟨rfl, _, exec_wbm ..⟩
  | evs => exact .inr <| .inl ⟨rfl, _, exec_evs ..⟩
  | invWrite => exact .inr <| .inl ⟨rfl, _, exec_invWrite ..⟩
  | cas => exact .inr <| .inl ⟨rfl, _, exec_cas ..⟩
  | snpdata => exact .inr <| .inl ⟨rfl, _, exec_snpdata ..⟩
  | snpinv => exact .inr <| .inl ⟨rfl, _, exec_snpinv ..⟩
  | cohRspData => exact .inr <| .inl ⟨rfl, _, exec_cohRspData ..⟩
  | grant => exact .inr <| .inl ⟨rfl, _, exec_grant ..⟩
  | snpRsp => exact .inr <| .inl ⟨rfl, _, exec_snpRsp ..⟩
  | casRsp => exact .inr <| .inl ⟨rfl, _, exec_casRsp ..⟩
  | cohDone => exact .inr <| .inl ⟨rfl, _, exec_cohDone ..⟩
  | holdExpiry => exact .inr <| .inl ⟨rfl, _, exec_holdExpiry ..⟩
  | granuleFillDone => exact .inr <| .inl ⟨rfl, _, exec_granuleFillDone ..⟩
  | writebackTimer => exact .inr <| .inl ⟨rfl, _, exec_writebackTimer ..⟩
  | publishSealDone => exact .inr <| .inl ⟨rfl, _, exec_publishSealDone ..⟩
  | lostLog => exact .inr <| .inl ⟨rfl, _, exec_lostLog ..⟩
  | reset => exact .inr <| .inl ⟨rfl, _, exec_reset ..⟩
  | resetConfirm => exact .inr <| .inl ⟨rfl, _, exec_resetConfirm ..⟩
  | actRecord => exact .inr <| .inl ⟨rfl, _, exec_actRecord ..⟩
  | activation => exact .inr <| .inl ⟨rfl, _, exec_activation ..⟩
  | actOutput => exact .inr <| .inl ⟨rfl, _, exec_actOutput ..⟩
  | bulkRecordRead => exact .inr <| .inl ⟨rfl, _, exec_bulkRecordRead ..⟩
  | bulkRecordReply => exact .inr <| .inl ⟨rfl, _, exec_bulkRecordReply ..⟩
  | indexPage => exact .inr <| .inl ⟨rfl, _, exec_indexPage ..⟩
  | filterBits => exact .inr <| .inl ⟨rfl, _, exec_filterBits ..⟩
  | chunks => exact .inr <| .inl ⟨rfl, _, exec_chunks ..⟩
  | weights => exact .inr <| .inl ⟨rfl, _, exec_weights ..⟩
  | e2eAck => exact .inr <| .inl ⟨rfl, _, exec_e2eAck ..⟩
  | e2eNak => exact .inr <| .inl ⟨rfl, _, exec_e2eNak ..⟩
  | e2eAckTimer => exact .inr <| .inl ⟨rfl, _, exec_e2eAckTimer ..⟩
  | flitData => exact .inr <| .inl ⟨rfl, _, exec_flitData ..⟩
  | flitNak => exact .inr <| .inl ⟨rfl, _, exec_flitNak ..⟩
  | flitInit => exact .inr <| .inl ⟨rfl, _, exec_flitInit ..⟩
  | flitIdle => exact .inr <| .inl ⟨rfl, _, exec_flitIdle ..⟩
  | replayTimeout => exact .inr <| .inl ⟨rfl, _, exec_replayTimeout ..⟩
  | fastRetrainStart => exact .inr <| .inl ⟨rfl, _, exec_fastRetrainStart ..⟩
  | fastRetrainDone => exact .inr <| .inl ⟨rfl, _, exec_fastRetrainDone ..⟩
  | linkTrainingDone => exact .inr <| .inl ⟨rfl, _, exec_linkTrainingDone ..⟩
  | freezePatternRx => exact .inr <| .inl ⟨rfl, _, exec_freezePatternRx ..⟩
  | creditRefillTick => exact .inr <| .inr <| .inl ⟨rfl, _, exec_creditRefillTick ..⟩
  | gateEntryExpiry => exact .inr <| .inl ⟨rfl, _, exec_gateEntryExpiry ..⟩
  | encRecordDispatch => exact .inr <| .inl ⟨rfl, _, exec_encRecordDispatch ..⟩
  | loftFillDone => exact .inr <| .inl ⟨rfl, _, exec_loftFillDone ..⟩
  | streamTransferDone => exact .inr <| .inl ⟨rfl, _, exec_streamTransferDone ..⟩
  | firstPassDone => exact .inr <| .inl ⟨rfl, _, exec_firstPassDone ..⟩
  | li => exact .inr <| .inl ⟨rfl, by rw [exec_li]; exact slot_shape ..⟩
  | add => exact .inr <| .inl ⟨rfl, by rw [exec_add]; exact slot_shape ..⟩
  | addi => exact .inr <| .inl ⟨rfl, by rw [exec_addi]; exact slot_shape ..⟩
  | sub => exact .inr <| .inl ⟨rfl, by rw [exec_sub]; exact slot_shape ..⟩
  | mul => exact .inr <| .inl ⟨rfl, by rw [exec_mul]; exact slot_shape ..⟩
  | and => exact .inr <| .inl ⟨rfl, by rw [exec_and]; exact slot_shape ..⟩
  | or => exact .inr <| .inl ⟨rfl, by rw [exec_or]; exact slot_shape ..⟩
  | xor => exact .inr <| .inl ⟨rfl, by rw [exec_xor]; exact slot_shape ..⟩
  | shl => exact .inr <| .inl ⟨rfl, by rw [exec_shl]; exact slot_shape ..⟩
  | shr => exact .inr <| .inl ⟨rfl, by rw [exec_shr]; exact slot_shape ..⟩
  | sra => exact .inr <| .inl ⟨rfl, by rw [exec_sra]; exact slot_shape ..⟩
  | slt => exact .inr <| .inl ⟨rfl, by rw [exec_slt]; exact slot_shape ..⟩
  | sltu => exact .inr <| .inl ⟨rfl, by rw [exec_sltu]; exact slot_shape ..⟩
  | min => exact .inr <| .inl ⟨rfl, by rw [exec_min]; exact slot_shape ..⟩
  | max => exact .inr <| .inl ⟨rfl, by rw [exec_max]; exact slot_shape ..⟩
  | mfs => exact .inr <| .inl ⟨rfl, by rw [exec_mfs]; exact slot_shape ..⟩
  | fadd => exact .inr <| .inl ⟨rfl, by rw [exec_fadd]; exact slot_shape ..⟩
  | fmul => exact .inr <| .inl ⟨rfl, by rw [exec_fmul]; exact slot_shape ..⟩
  | fdiv => exact .inr <| .inl ⟨rfl, by rw [exec_fdiv]; exact slot_shape ..⟩
  | itof => exact .inr <| .inl ⟨rfl, by rw [exec_itof]; exact slot_shape ..⟩
  | ftoi => exact .inr <| .inl ⟨rfl, by rw [exec_ftoi]; exact slot_shape ..⟩
  | qpar => exact .inr <| .inl ⟨rfl, by rw [exec_qpar]; exact slot_shape ..⟩
  | qstat => exact .inr <| .inl ⟨rfl, by rw [exec_qstat]; exact slot_shape ..⟩
  | vadd => exact .inr <| .inl ⟨rfl, by rw [exec_vadd]; exact slot_shape ..⟩
  | vsub => exact .inr <| .inl ⟨rfl, by rw [exec_vsub]; exact slot_shape ..⟩
  | vmul => exact .inr <| .inl ⟨rfl, by rw [exec_vmul]; exact slot_shape ..⟩
  | vfma => exact .inr <| .inl ⟨rfl, by rw [exec_vfma]; exact slot_shape ..⟩
  | vmax => exact .inr <| .inl ⟨rfl, by rw [exec_vmax]; exact slot_shape ..⟩
  | vmin => exact .inr <| .inl ⟨rfl, by rw [exec_vmin]; exact slot_shape ..⟩
  | vexp => exact .inr <| .inl ⟨rfl, by rw [exec_vexp]; exact slot_shape ..⟩
  | vrcp => exact .inr <| .inl ⟨rfl, by rw [exec_vrcp]; exact slot_shape ..⟩
  | vrsqrt => exact .inr <| .inl ⟨rfl, by rw [exec_vrsqrt]; exact slot_shape ..⟩
  | vsplat => exact .inr <| .inl ⟨rfl, by rw [exec_vsplat]; exact slot_shape ..⟩
  | vcmp => exact .inr <| .inl ⟨rfl, by rw [exec_vcmp]; exact slot_shape ..⟩
  | vsel => exact .inr <| .inl ⟨rfl, by rw [exec_vsel]; exact slot_shape ..⟩
  | vcvt => exact .inr <| .inl ⟨rfl, by rw [exec_vcvt]; exact slot_shape ..⟩
  | vrsum => exact .inr <| .inl ⟨rfl, by rw [exec_vrsum]; exact slot_shape ..⟩
  | vrmax => exact .inr <| .inl ⟨rfl, by rw [exec_vrmax]; exact slot_shape ..⟩
  | vrmin => exact .inr <| .inl ⟨rfl, by rw [exec_vrmin]; exact slot_shape ..⟩
  | vtrd => exact .inr <| .inl ⟨rfl, _, exec_vtrd ..⟩
  | vtwr => exact .inr <| .inl ⟨rfl, by rw [exec_vtwr]; exact slot_shape ..⟩
  | qmm => exact .inr <| .inl ⟨rfl, by rw [exec_qmm]; exact slot_shape ..⟩
  | qcvt => exact .inr <| .inl ⟨rfl, by rw [exec_qcvt]; exact slot_shape ..⟩
  | qdq => exact .inr <| .inl ⟨rfl, by rw [exec_qdq]; exact slot_shape ..⟩
  | mma => exact .inr <| .inl ⟨rfl, by rw [exec_mma]; exact slot_shape ..⟩
  | tclr => exact .inr <| .inl ⟨rfl, by rw [exec_tclr]; exact slot_shape ..⟩
  | tst => exact .inr <| .inl ⟨rfl, _, exec_tst ..⟩
  | vld => exact .inr <| .inl ⟨rfl, by rw [exec_vld]; exact slot_shape ..⟩
  | vst => exact .inr <| .inl ⟨rfl, by rw [exec_vst]; exact slot_shape ..⟩
  | sld => exact .inr <| .inl ⟨rfl, by rw [exec_sld]; exact slot_shape ..⟩
  | sst => exact .inr <| .inl ⟨rfl, by rw [exec_sst]; exact slot_shape ..⟩
  | incpy => exact .inr <| .inl ⟨rfl, by rw [exec_incpy]; exact slot_shape ..⟩
  | outcpy => exact .inr <| .inl ⟨rfl, by rw [exec_outcpy]; exact slot_shape ..⟩
  | emb => exact .inr <| .inl ⟨rfl, by rw [exec_emb]; exact slot_shape ..⟩
  | wopen => exact .inr <| .inl ⟨rfl, by rw [exec_wopen]; exact slot_shape ..⟩
  | wclose => exact .inr <| .inl ⟨rfl, by rw [exec_wclose]; exact slot_shape ..⟩
  | xch => exact .inr <| .inl ⟨rfl, by rw [exec_xch]; exact slot_shape ..⟩
  | acto => exact .inr <| .inl ⟨rfl, by rw [exec_acto]; exact slot_shape ..⟩
  | acti => exact .inr <| .inl ⟨rfl, by rw [exec_acti]; exact slot_shape ..⟩
  | grad => exact .inr <| .inl ⟨rfl, by rw [exec_grad]; exact slot_shape ..⟩
  | scrz => exact .inr <| .inl ⟨rfl, by rw [exec_scrz]; exact slot_shape ..⟩
  | br => exact .inr <| .inl ⟨rfl, by rw [exec_br]; exact slot_shape ..⟩
  | jmp => exact .inr <| .inl ⟨rfl, by rw [exec_jmp]; exact slot_shape ..⟩
  | loop => exact .inr <| .inl ⟨rfl, by rw [exec_loop]; exact slot_shape ..⟩
  | halt => exact .inr <| .inl ⟨rfl, by rw [exec_halt]; exact slot_shape ..⟩
  | bar => exact .inr <| .inl ⟨rfl, by rw [exec_bar]; exact slot_shape ..⟩
  | rxwin => exact .inr <| .inl ⟨rfl, by rw [exec_rxwin]; exact slot_shape ..⟩
  | trap => exact .inr <| .inl ⟨rfl, by rw [exec_trap]; exact slot_shape ..⟩
  | nop => exact .inr <| .inl ⟨rfl, _, exec_nop ..⟩
  | flashReadDone => exact .inr <| .inl ⟨rfl, _, exec_flashReadDone ..⟩
  | flashProgramDone => exact .inr <| .inl ⟨rfl, _, exec_flashProgramDone ..⟩
  | superblockVerify => exact .inr <| .inl ⟨rfl, _, exec_superblockVerify ..⟩
  | flashEraseDone => exact .inr <| .inl ⟨rfl, _, exec_flashEraseDone ..⟩
  | gcTrigger => exact .inr <| .inl ⟨rfl, _, exec_gcTrigger ..⟩
  | checkpointTimer => exact .inr <| .inl ⟨rfl, _, exec_checkpointTimer ..⟩
  | ageTick => exact .inr <| .inl ⟨rfl, _, exec_ageTick ..⟩
  | lunTempSample => exact .inr <| .inl ⟨rfl, _, exec_lunTempSample ..⟩
  | refreshDue => exact .inr <| .inr <| .inl ⟨rfl, _, exec_refreshDue ..⟩
  | scrubDue => exact .inr <| .inl ⟨rfl, _, exec_scrubDue ..⟩
  | stackThermalReading => exact .inr <| .inr <| .inr ⟨rfl, _, exec_stackThermalReading ..⟩
  | hotBandExit => exact .inr <| .inr <| .inl ⟨rfl, _, exec_hotBandExit ..⟩
  | stackTimerCrosscheck => exact .inr <| .inl ⟨rfl, _, exec_stackTimerCrosscheck ..⟩
  | scanGovernorTick => exact .inr <| .inl ⟨rfl, _, exec_scanGovernorTick ..⟩
  | viaRemap => exact .inr <| .inl ⟨rfl, _, exec_viaRemap ..⟩
  | channelFail => exact .inr <| .inl ⟨rfl, _, exec_channelFail ..⟩
  | channelRebuildDone => exact .inr <| .inl ⟨rfl, _, exec_channelRebuildDone ..⟩
  | rowRepair => exact .inr <| .inl ⟨rfl, _, exec_rowRepair ..⟩
  | graphRebuildDone => exact .inr <| .inl ⟨rfl, _, exec_graphRebuildDone ..⟩
  | upkeepBuildDone => exact .inr <| .inl ⟨rfl, _, exec_upkeepBuildDone ..⟩
  | filterPlacementDone => exact .inr <| .inl ⟨rfl, _, exec_filterPlacementDone ..⟩
  | rollingTest => exact .inr <| .inl ⟨rfl, _, exec_rollingTest ..⟩
  | watchdogExpiry => exact .inr <| .inl ⟨rfl, _, exec_watchdogExpiry ..⟩
  | invalidCodeword => exact .inr <| .inl ⟨rfl, _, exec_invalidCodeword ..⟩
  | safetyReaction => exact .inr <| .inl ⟨rfl, _, exec_safetyReaction ..⟩
  | lockstepMismatch => exact .inr <| .inl ⟨rfl, _, exec_lockstepMismatch ..⟩
  | faultNRelease => exact .inr <| .inl ⟨rfl, _, exec_faultNRelease ..⟩
  | freezeNFall => exact .inr <| .inr <| .inl ⟨rfl, _, exec_freezeNFall ..⟩
  | freezeNRise => exact .inr <| .inr <| .inl ⟨rfl, _, exec_freezeNRise ..⟩
  | freeze => exact .inr <| .inr <| .inl ⟨rfl, _, exec_freeze ..⟩
  | resume => exact .inr <| .inr <| .inl ⟨rfl, _, exec_resume ..⟩
  | dbgRead => exact .inr <| .inr <| .inl ⟨rfl, _, exec_dbgRead ..⟩
  | dbgStatus => exact .inr <| .inr <| .inl ⟨rfl, _, exec_dbgStatus ..⟩
  | idcode => exact .inr <| .inr <| .inl ⟨rfl, _, exec_idcode ..⟩
  | extest => exact .inr <| .inr <| .inl ⟨rfl, _, exec_extest ..⟩
  | samplePreload => exact .inr <| .inr <| .inl ⟨rfl, _, exec_samplePreload ..⟩
  | bypass => exact .inr <| .inr <| .inl ⟨rfl, _, exec_bypass ..⟩
  | pwrOkRise => exact .inr <| .inr <| .inl ⟨rfl, _, exec_pwrOkRise ..⟩
  | pwrOkFall => exact .inr <| .inr <| .inl ⟨rfl, _, exec_pwrOkFall ..⟩
  | resetNFall => exact .inr <| .inr <| .inr ⟨rfl, _, exec_resetNFall ..⟩
  | resetNRise => exact .inr <| .inr <| .inr ⟨rfl, _, exec_resetNRise ..⟩
  | pwrFailNFall => exact .inr <| .inr <| .inl ⟨rfl, _, exec_pwrFailNFall ..⟩
  | pwrFailNRise => exact .inr <| .inr <| .inl ⟨rfl, _, exec_pwrFailNRise ..⟩
  | flushDone => exact .inr <| .inr <| .inr ⟨rfl, _, exec_flushDone ..⟩
  | undervoltage => exact .inr <| .inr <| .inl ⟨rfl, _, exec_undervoltage ..⟩
  | railsOff => exact .inr <| .inr <| .inr ⟨rfl, _, exec_railsOff ..⟩
  | powerLimiterSample => exact .inr <| .inl ⟨rfl, _, exec_powerLimiterSample ..⟩
  | dieThermalReading => exact .inr <| .inr <| .inr ⟨rfl, _, exec_dieThermalReading ..⟩
  | i3cEntdaa => exact .inr <| .inr <| .inl ⟨rfl, _, exec_i3cEntdaa ..⟩
  | i3cRead => exact .inr <| .inr <| .inl ⟨rfl, _, exec_i3cRead ..⟩
  | pufDeriveDone => exact .inr <| .inl ⟨rfl, _, exec_pufDeriveDone ..⟩
  | imageVerifyDone => exact .inr <| .inl ⟨rfl, _, exec_imageVerifyDone ..⟩
  | stackTrainingDone => exact .inr <| .inl ⟨rfl, _, exec_stackTrainingDone ..⟩
  | flashInitDone => exact .inr <| .inl ⟨rfl, _, exec_flashInitDone ..⟩
  | mapReplayDone => exact .inr <| .inl ⟨rfl, _, exec_mapReplayDone ..⟩
  | catchUpDone => exact .inr <| .inl ⟨rfl, _, exec_catchUpDone ..⟩
  | amendWrite => exact .inr <| .inl ⟨rfl, _, exec_amendWrite ..⟩
  | amendModelLoad => exact .inr <| .inl ⟨rfl, _, exec_amendModelLoad ..⟩
  | amendImageStore => exact .inr <| .inl ⟨rfl, _, exec_amendImageStore ..⟩
  | amendLinkTrain => exact .inr <| .inl ⟨rfl, _, exec_amendLinkTrain ..⟩
  | amendTallyClear => exact .inr <| .inl ⟨rfl, _, exec_amendTallyClear ..⟩
  | amendLogAppend => exact .inr <| .inl ⟨rfl, _, exec_amendLogAppend ..⟩
  | amendAppendAck => exact .inr <| .inl ⟨rfl, _, exec_amendAppendAck ..⟩
  | railsGood => exact .inr <| .inr <| .inr ⟨rfl, _, exec_railsGood ..⟩
  | spanZeroingDone => exact .inr <| .inl ⟨rfl, _, exec_spanZeroingDone ..⟩
  | tableLoadFinished => exact .inr <| .inl ⟨rfl, _, exec_tableLoadFinished ..⟩

end Sys2Proof.Machine
end

