-- ==== Sys2Proof/Laws/Slots.lean ====
section
/-! SUPPORT. What a slot command does when its core is about to run its slot. -/

namespace Sys2Proof.Machine

open Sys2Proof

/-- The slot is taken with the result of its body. -/
theorem runSlot_ready {s : State} {c kind op : Nat} {r : EncRun} {b i : Nat} (h : SlotReady s c kind op r b i)
    (body : SlotCtx → SlotRes) : s.runSlot c kind op body = s.slotTaken c b i (body (s.slotView c r b i)) := by
  unfold State.runSlot State.slotTaken State.slotView
  have hr := h.ready
  unfold State.slotView at hr
  simp only [h.run, h.goes, h.bundle, h.formed, h.next, h.ofKind, h.ofOp, hr, Bool.false_eq_true, if_false, Bool.not_true,
    ne_eq, not_true, or_self]
  rfl

/-- The command answers the state with the slot taken. -/
theorem slotCmd_ready {s : State} {c kind op : Nat} {r : EncRun} {b i : Nat} (hs : Runs s) (h : SlotReady s c kind op r b i)
    (body : SlotCtx → SlotRes) : s.slotCmd c kind op body = .next (s.keep (s.slotTaken c b i (body (s.slotView c r b i)))) := by
  unfold State.slotCmd
  rw [nodeEvt_runs hs, runSlot_ready h]

end Sys2Proof.Machine
end

