-- ==== Sys2Proof/Laws/Tab.lean ====
section
/-! SUPPORT. Sparse tables and sorted lists: what each operation reads afterwards, that the canonical form is kept, and that a
sort depends only on what is sorted. -/

namespace Sys2Proof

variable {α : Type}

/-! ### Reading after writing -/

/-- A key that was put reads its value. -/
@[simp] theorem tfind_tput_self (t : Tab α) (k : Nat) (v : α) : tfind (tput t k v) k = some v := by
  induction t with
  | nil => simp [tput, tfind]
  | cons e t ih =>
    obtain ⟨j, w⟩ := e
    simp only [tput]
    split
    · simp [tfind]
    · split
      · simp [tfind]
      · rename_i h1 h2
        simp [tfind, h2, ih]

/-- Every other key reads as before. -/
@[simp] theorem tfind_tput_ne (t : Tab α) {k q : Nat} (v : α) (h : q ≠ k) : tfind (tput t k v) q = tfind t q := by
  induction t with
  | nil => simp [tput, tfind, h]
  | cons e t ih =>
    obtain ⟨j, w⟩ := e
    simp only [tput]
    split
    · simp [tfind, h]
    · split
      · rename_i h2
        subst h2
        simp [tfind, h]
      · simp only [tfind, ih]

/-- A key other than the one taken away reads as before. -/
@[simp] theorem tfind_tdel_ne (t : Tab α) {k q : Nat} (h : q ≠ k) : tfind (tdel t k) q = tfind t q := by
  induction t with
  | nil => rfl
  | cons e t ih =>
    obtain ⟨j, w⟩ := e
    simp only [tdel]
    split
    · rename_i h2
      subst h2
      simp [tfind, h]
    · simp only [tfind, ih]

/-- In a rising table every key behind an entry is greater. -/
theorem tabRising_tail {e : Nat × α} {t : Tab α} (h : tabRising (e :: t) = true) :
    tabRising t = true ∧ ∀ x ∈ t, e.1 < x.1 := by
  induction t generalizing e with
  | nil => simp [tabRising]
  | cons b t ih =>
    simp only [tabRising, Bool.and_eq_true, decide_eq_true_eq] at h
    refine ⟨h.2, fun x hx => ?_⟩
    rcases List.mem_cons.1 hx with rfl | hx
    · exact h.1
    · exact h.1.trans ((ih h.2).2 x hx)

/-- A table is rising when its head is below every key of a rising rest. -/
theorem tabRising_cons {e : Nat × α} {t : Tab α} (h : tabRising t = true) (hl : ∀ x ∈ t, e.1 < x.1) : tabRising (e :: t) = true := by
  cases t with
  | nil => rfl
  | cons b t => simp [tabRising, h, hl b (by simp)]

/-- A key below every listed one is not found. -/
theorem tfind_below {t : Tab α} {k : Nat} (h : ∀ x ∈ t, k < x.1) : tfind t k = none := by
  induction t with
  | nil => rfl
  | cons e t ih =>
    have := h e (by simp)
    rw [tfind, if_neg (by omega), ih (fun x hx => h x (by simp [hx]))]

/-- In a rising table a key taken away is not found. -/
theorem tfind_tdel_self {t : Tab α} (k : Nat) (h : tabRising t = true) : tfind (tdel t k) k = none := by
  induction t with
  | nil => rfl
  | cons e t ih =>
    obtain ⟨j, w⟩ := e
    have ht := tabRising_tail h
    simp only [tdel]
    split
    · rename_i hk
      subst hk
      exact tfind_below ht.2
    · rename_i hk
      rw [tfind, if_neg hk, ih ht.1]

/-- The entries of a table with a key put are the key's and the others'. -/
theorem mem_tput {t : Tab α} {k : Nat} {v : α} {x : Nat × α} (h : x ∈ tput t k v) : x = (k, v) ∨ x ∈ t := by
  induction t with
  | nil => simpa [tput] using h
  | cons e t ih =>
    obtain ⟨j, w⟩ := e
    simp only [tput] at h
    split at h
    · simpa using h
    · split at h
      · rcases List.mem_cons.1 h with h | h
        · exact .inl h
        · exact .inr (by simp [h])
      · rcases List.mem_cons.1 h with h | h
        · exact .inr (by simp [h])
        · rcases ih h with h | h
          · exact .inl h
          · exact .inr (by simp [h])

/-- Taking a key away leaves entries of the table. -/
theorem mem_tdel {t : Tab α} {k : Nat} {x : Nat × α} (h : x ∈ tdel t k) : x ∈ t := by
  induction t with
  | nil => exact h
  | cons e t ih =>
    obtain ⟨j, w⟩ := e
    simp only [tdel] at h
    split at h
    · simp [h]
    · rcases List.mem_cons.1 h with h | h
      · simp [h]
      · simp [ih h]

/-! ### The canonical form -/

/-- Putting a key keeps the keys rising. -/
theorem tabRising_tput {t : Tab α} (k : Nat) (v : α) (h : tabRising t = true) : tabRising (tput t k v) = true := by
  induction t with
  | nil => rfl
  | cons e t ih =>
    obtain ⟨j, w⟩ := e
    have ht := tabRising_tail h
    simp only [tput]
    split
    · rename_i hk
      exact tabRising_cons h (fun x hx => by
        rcases List.mem_cons.1 hx with rfl | hx
        · exact hk
        · exact hk.trans (ht.2 x hx))
    · split
      · rename_i hk
        subst hk
        exact tabRising_cons ht.1 ht.2
      · refine tabRising_cons (ih ht.1) (fun x hx => ?_)
        rcases mem_tput hx with rfl | hx
        · show j < k
          omega
        · exact ht.2 x hx

/-- Taking a key away keeps the keys rising. -/
theorem tabRising_tdel {t : Tab α} (k : Nat) (h : tabRising t = true) : tabRising (tdel t k) = true := by
  induction t with
  | nil => rfl
  | cons e t ih =>
    obtain ⟨j, w⟩ := e
    have ht := tabRising_tail h
    simp only [tdel]
    split
    · exact ht.1
    · exact tabRising_cons (ih ht.1) (fun x hx => ht.2 x (mem_tdel hx))

variable [DecidableEq α]

/-- Setting a key keeps the keys rising. -/
theorem tabRising_tset (d : α) {t : Tab α} (k : Nat) (v : α) (h : tabRising t = true) : tabRising (tset d t k v) = true := by
  unfold tset
  split
  · exact tabRising_tdel k h
  · exact tabRising_tput k v h

/-- Setting a key keeps the canonical form. -/
theorem tabWf_tset (d : α) {t : Tab α} (k : Nat) (v : α) (h : tabWf d t = true) : tabWf d (tset d t k v) = true := by
  simp only [tabWf, Bool.and_eq_true, List.all_eq_true, decide_eq_true_eq] at h ⊢
  refine ⟨tabRising_tset d k v h.1, fun x hx => ?_⟩
  unfold tset at hx
  split at hx
  · exact h.2 x (mem_tdel hx)
  · rename_i hv
    rcases mem_tput hx with rfl | hx
    · exact hv
    · exact h.2 x hx

/-- A key that was set reads its value. -/
theorem tget_tset_self (d : α) {t : Tab α} (k : Nat) (v : α) (h : tabRising t = true) : tget d (tset d t k v) k = v := by
  unfold tset
  split
  · rename_i hv
    simp [tget, tfind_tdel_self k h, hv]
  · simp [tget]

/-- A key that was set to a value other than the default reads it, in any table. -/
theorem tget_tset_listed (d : α) (t : Tab α) (k : Nat) {v : α} (hv : v ≠ d) : tget d (tset d t k v) k = v := by
  simp [tset, tget, hv]

/-- Every other key reads as before, whatever its default. -/
@[simp] theorem tget_tset_ne (d c : α) (t : Tab α) {k q : Nat} (v : α) (h : q ≠ k) : tget c (tset d t k v) q = tget c t q := by
  unfold tset
  split <;> simp [tget, h]

omit [DecidableEq α]

/-! ### Sorting -/

/-- An insertion permutes. -/
theorem insSorted_perm (le : α → α → Bool) (x : α) (l : List α) : (insSorted le x l).Perm (x :: l) := by
  induction l with
  | nil => exact .refl _
  | cons y ys ih =>
    simp only [insSorted]
    split
    · exact .refl _
    · exact (ih.cons y).trans (.swap x y ys)

/-- A sort permutes. -/
theorem sortBy_perm (le : α → α → Bool) (l : List α) : (sortBy le l).Perm l := by
  induction l with
  | nil => exact .refl _
  | cons x xs ih => exact (insSorted_perm le x _).trans (ih.cons x)

/-- An insertion into a list in order leaves it in order. -/
theorem insSorted_sorted {le : α → α → Bool} (total : ∀ a b, le a b = true ∨ le b a = true)
    (trans : ∀ a b c, le a b = true → le b c = true → le a c = true) (x : α) {l : List α}
    (h : l.Pairwise (fun a b => le a b = true)) : (insSorted le x l).Pairwise (fun a b => le a b = true) := by
  induction l with
  | nil => simp [insSorted]
  | cons y ys ih =>
    have hy := List.pairwise_cons.1 h
    simp only [insSorted]
    split
    · rename_i hx
      refine List.pairwise_cons.2 ⟨fun z hz => ?_, h⟩
      rcases List.mem_cons.1 hz with rfl | hz
      · exact hx
      · exact trans _ _ _ hx (hy.1 z hz)
    · rename_i hx
      refine List.pairwise_cons.2 ⟨fun z hz => ?_, ih hy.2⟩
      rcases List.mem_cons.1 ((insSorted_perm le x ys).mem_iff.1 hz) with rfl | hz
      · exact (total y z).resolve_right hx
      · exact hy.1 z hz

/-- A sort by a total order stands in order. -/
theorem sortBy_sorted {le : α → α → Bool} (total : ∀ a b, le a b = true ∨ le b a = true)
    (trans : ∀ a b c, le a b = true → le b c = true → le a c = true) (l : List α) :
    (sortBy le l).Pairwise (fun a b => le a b = true) := by
  induction l with
  | nil => exact .nil
  | cons x xs ih => exact insSorted_sorted total trans x ih

/-- Two lists of the same entries sort alike, when entries of equal rank are the same. -/
theorem sortBy_of_perm {le : α → α → Bool} (total : ∀ a b, le a b = true ∨ le b a = true)
    (trans : ∀ a b c, le a b = true → le b c = true → le a c = true) {l m : List α}
    (anti : ∀ a ∈ l, ∀ b ∈ l, le a b = true → le b a = true → a = b) (h : l.Perm m) : sortBy le l = sortBy le m := by
  refine List.Perm.eq_of_pairwise (fun a b ha hb => anti a ((sortBy_perm le l).mem_iff.1 ha) b (h.symm.mem_iff.1 ((sortBy_perm le m).mem_iff.1 hb)))
    (sortBy_sorted total trans l) (sortBy_sorted total trans m) ?_
  exact (sortBy_perm le l).trans (h.trans (sortBy_perm le m).symm)

end Sys2Proof
end

