-- ==== Sys2Proof/Laws/State.lean ====
section
/-! SUPPORT. One lemma per field of State per update, so that no proof unfolds an update, and what a register field reads after a
write. -/

namespace Sys2Proof.Machine

open Sys2Proof

variable (s : State)

/-! ### set -/

@[simp] theorem State.set_host (f : Fld) (v : Nat) : (s.set f v).host = s.host := rfl
@[simp] theorem State.set_ovl (f : Fld) (v : Nat) : (s.set f v).ovl = s.ovl := rfl
@[simp] theorem State.set_stp (f : Fld) (v : Nat) : (s.set f v).stp = s.stp := rfl
@[simp] theorem State.set_srch (f : Fld) (v : Nat) : (s.set f v).srch = s.srch := rfl
@[simp] theorem State.set_safe (f : Fld) (v : Nat) : (s.set f v).safe = s.safe := rfl
@[simp] theorem State.set_stk (f : Fld) (v : Nat) : (s.set f v).stk = s.stk := rfl
@[simp] theorem State.set_gran (f : Fld) (v : Nat) : (s.set f v).gran = s.gran := rfl
@[simp] theorem State.set_cfg (f : Fld) (v : Nat) : (s.set f v).cfg = s.cfg := rfl
@[simp] theorem State.set_pwr (f : Fld) (v : Nat) : (s.set f v).pwr = s.pwr := rfl
@[simp] theorem State.set_enc (f : Fld) (v : Nat) : (s.set f v).enc = s.enc := rfl
@[simp] theorem State.set_emb (f : Fld) (v : Nat) : (s.set f v).emb = s.emb := rfl
@[simp] theorem State.set_home (f : Fld) (v : Nat) : (s.set f v).home = s.home := rfl
@[simp] theorem State.set_now (f : Fld) (v : Nat) : (s.set f v).now = s.now := rfl
@[simp] theorem State.set_awake (f : Fld) (v : Nat) : (s.set f v).awake = s.awake := rfl
@[simp] theorem State.set_freeCtr (f : Fld) (v : Nat) : (s.set f v).freeCtr = s.freeCtr := rfl
@[simp] theorem State.set_out (f : Fld) (v : Nat) : (s.set f v).out = s.out := rfl
@[simp] theorem State.set_held (f : Fld) (v : Nat) : (s.set f v).held = s.held := rfl
@[simp] theorem State.set_pending (f : Fld) (v : Nat) : (s.set f v).pending = s.pending := rfl
@[simp] theorem State.set_frozen (f : Fld) (v : Nat) : (s.set f v).frozen = s.frozen := rfl

/-! ### setB -/

@[simp] theorem State.setB_host (f : Fld) (b : Bool) : (s.setB f b).host = s.host := rfl
@[simp] theorem State.setB_ovl (f : Fld) (b : Bool) : (s.setB f b).ovl = s.ovl := rfl
@[simp] theorem State.setB_stp (f : Fld) (b : Bool) : (s.setB f b).stp = s.stp := rfl
@[simp] theorem State.setB_srch (f : Fld) (b : Bool) : (s.setB f b).srch = s.srch := rfl
@[simp] theorem State.setB_safe (f : Fld) (b : Bool) : (s.setB f b).safe = s.safe := rfl
@[simp] theorem State.setB_stk (f : Fld) (b : Bool) : (s.setB f b).stk = s.stk := rfl
@[simp] theorem State.setB_gran (f : Fld) (b : Bool) : (s.setB f b).gran = s.gran := rfl
@[simp] theorem State.setB_cfg (f : Fld) (b : Bool) : (s.setB f b).cfg = s.cfg := rfl
@[simp] theorem State.setB_pwr (f : Fld) (b : Bool) : (s.setB f b).pwr = s.pwr := rfl
@[simp] theorem State.setB_enc (f : Fld) (b : Bool) : (s.setB f b).enc = s.enc := rfl
@[simp] theorem State.setB_emb (f : Fld) (b : Bool) : (s.setB f b).emb = s.emb := rfl
@[simp] theorem State.setB_home (f : Fld) (b : Bool) : (s.setB f b).home = s.home := rfl
@[simp] theorem State.setB_now (f : Fld) (b : Bool) : (s.setB f b).now = s.now := rfl
@[simp] theorem State.setB_awake (f : Fld) (b : Bool) : (s.setB f b).awake = s.awake := rfl
@[simp] theorem State.setB_freeCtr (f : Fld) (b : Bool) : (s.setB f b).freeCtr = s.freeCtr := rfl
@[simp] theorem State.setB_out (f : Fld) (b : Bool) : (s.setB f b).out = s.out := rfl
@[simp] theorem State.setB_held (f : Fld) (b : Bool) : (s.setB f b).held = s.held := rfl
@[simp] theorem State.setB_pending (f : Fld) (b : Bool) : (s.setB f b).pending = s.pending := rfl
@[simp] theorem State.setB_frozen (f : Fld) (b : Bool) : (s.setB f b).frozen = s.frozen := rfl

/-! ### setI -/

@[simp] theorem State.setI_host (f : Fld) (v : Int) : (s.setI f v).host = s.host := rfl
@[simp] theorem State.setI_ovl (f : Fld) (v : Int) : (s.setI f v).ovl = s.ovl := rfl
@[simp] theorem State.setI_stp (f : Fld) (v : Int) : (s.setI f v).stp = s.stp := rfl
@[simp] theorem State.setI_srch (f : Fld) (v : Int) : (s.setI f v).srch = s.srch := rfl
@[simp] theorem State.setI_safe (f : Fld) (v : Int) : (s.setI f v).safe = s.safe := rfl
@[simp] theorem State.setI_stk (f : Fld) (v : Int) : (s.setI f v).stk = s.stk := rfl
@[simp] theorem State.setI_gran (f : Fld) (v : Int) : (s.setI f v).gran = s.gran := rfl
@[simp] theorem State.setI_cfg (f : Fld) (v : Int) : (s.setI f v).cfg = s.cfg := rfl
@[simp] theorem State.setI_pwr (f : Fld) (v : Int) : (s.setI f v).pwr = s.pwr := rfl
@[simp] theorem State.setI_enc (f : Fld) (v : Int) : (s.setI f v).enc = s.enc := rfl
@[simp] theorem State.setI_emb (f : Fld) (v : Int) : (s.setI f v).emb = s.emb := rfl
@[simp] theorem State.setI_home (f : Fld) (v : Int) : (s.setI f v).home = s.home := rfl
@[simp] theorem State.setI_now (f : Fld) (v : Int) : (s.setI f v).now = s.now := rfl
@[simp] theorem State.setI_awake (f : Fld) (v : Int) : (s.setI f v).awake = s.awake := rfl
@[simp] theorem State.setI_freeCtr (f : Fld) (v : Int) : (s.setI f v).freeCtr = s.freeCtr := rfl
@[simp] theorem State.setI_out (f : Fld) (v : Int) : (s.setI f v).out = s.out := rfl
@[simp] theorem State.setI_held (f : Fld) (v : Int) : (s.setI f v).held = s.held := rfl
@[simp] theorem State.setI_pending (f : Fld) (v : Int) : (s.setI f v).pending = s.pending := rfl
@[simp] theorem State.setI_frozen (f : Fld) (v : Int) : (s.setI f v).frozen = s.frozen := rfl

/-! ### stick -/

@[simp] theorem State.stick_host (f : Fld) (n : Nat) : (s.stick f n).host = s.host := rfl
@[simp] theorem State.stick_ovl (f : Fld) (n : Nat) : (s.stick f n).ovl = s.ovl := rfl
@[simp] theorem State.stick_stp (f : Fld) (n : Nat) : (s.stick f n).stp = s.stp := rfl
@[simp] theorem State.stick_srch (f : Fld) (n : Nat) : (s.stick f n).srch = s.srch := rfl
@[simp] theorem State.stick_safe (f : Fld) (n : Nat) : (s.stick f n).safe = s.safe := rfl
@[simp] theorem State.stick_stk (f : Fld) (n : Nat) : (s.stick f n).stk = s.stk := rfl
@[simp] theorem State.stick_gran (f : Fld) (n : Nat) : (s.stick f n).gran = s.gran := rfl
@[simp] theorem State.stick_cfg (f : Fld) (n : Nat) : (s.stick f n).cfg = s.cfg := rfl
@[simp] theorem State.stick_pwr (f : Fld) (n : Nat) : (s.stick f n).pwr = s.pwr := rfl
@[simp] theorem State.stick_enc (f : Fld) (n : Nat) : (s.stick f n).enc = s.enc := rfl
@[simp] theorem State.stick_emb (f : Fld) (n : Nat) : (s.stick f n).emb = s.emb := rfl
@[simp] theorem State.stick_home (f : Fld) (n : Nat) : (s.stick f n).home = s.home := rfl
@[simp] theorem State.stick_now (f : Fld) (n : Nat) : (s.stick f n).now = s.now := rfl
@[simp] theorem State.stick_awake (f : Fld) (n : Nat) : (s.stick f n).awake = s.awake := rfl
@[simp] theorem State.stick_freeCtr (f : Fld) (n : Nat) : (s.stick f n).freeCtr = s.freeCtr := rfl
@[simp] theorem State.stick_out (f : Fld) (n : Nat) : (s.stick f n).out = s.out := rfl
@[simp] theorem State.stick_held (f : Fld) (n : Nat) : (s.stick f n).held = s.held := rfl
@[simp] theorem State.stick_pending (f : Fld) (n : Nat) : (s.stick f n).pending = s.pending := rfl
@[simp] theorem State.stick_frozen (f : Fld) (n : Nat) : (s.stick f n).frozen = s.frozen := rfl

/-! ### emit -/

@[simp] theorem State.emit_out (o : Output) : (s.emit o).out = o :: s.out := rfl
@[simp] theorem State.emit_regs (o : Output) : (s.emit o).regs = s.regs := rfl
@[simp] theorem State.emit_host (o : Output) : (s.emit o).host = s.host := rfl
@[simp] theorem State.emit_ovl (o : Output) : (s.emit o).ovl = s.ovl := rfl
@[simp] theorem State.emit_stp (o : Output) : (s.emit o).stp = s.stp := rfl
@[simp] theorem State.emit_srch (o : Output) : (s.emit o).srch = s.srch := rfl
@[simp] theorem State.emit_safe (o : Output) : (s.emit o).safe = s.safe := rfl
@[simp] theorem State.emit_stk (o : Output) : (s.emit o).stk = s.stk := rfl
@[simp] theorem State.emit_gran (o : Output) : (s.emit o).gran = s.gran := rfl
@[simp] theorem State.emit_cfg (o : Output) : (s.emit o).cfg = s.cfg := rfl
@[simp] theorem State.emit_pwr (o : Output) : (s.emit o).pwr = s.pwr := rfl
@[simp] theorem State.emit_enc (o : Output) : (s.emit o).enc = s.enc := rfl
@[simp] theorem State.emit_emb (o : Output) : (s.emit o).emb = s.emb := rfl
@[simp] theorem State.emit_home (o : Output) : (s.emit o).home = s.home := rfl
@[simp] theorem State.emit_now (o : Output) : (s.emit o).now = s.now := rfl
@[simp] theorem State.emit_awake (o : Output) : (s.emit o).awake = s.awake := rfl
@[simp] theorem State.emit_freeCtr (o : Output) : (s.emit o).freeCtr = s.freeCtr := rfl
@[simp] theorem State.emit_held (o : Output) : (s.emit o).held = s.held := rfl
@[simp] theorem State.emit_pending (o : Output) : (s.emit o).pending = s.pending := rfl
@[simp] theorem State.emit_get (o : Output) (g : Fld) : (s.emit o).get g = s.get g := rfl
@[simp] theorem State.emit_flag (o : Output) (g : Fld) : (s.emit o).flag g = s.flag g := rfl
@[simp] theorem State.emit_frozen (o : Output) : (s.emit o).frozen = s.frozen := rfl

/-! ### modHost -/

@[simp] theorem State.modHost_host (f : HostSt → HostSt) : (s.modHost f).host = f s.host := rfl
@[simp] theorem State.modHost_regs (f : HostSt → HostSt) : (s.modHost f).regs = s.regs := rfl
@[simp] theorem State.modHost_ovl (f : HostSt → HostSt) : (s.modHost f).ovl = s.ovl := rfl
@[simp] theorem State.modHost_stp (f : HostSt → HostSt) : (s.modHost f).stp = s.stp := rfl
@[simp] theorem State.modHost_srch (f : HostSt → HostSt) : (s.modHost f).srch = s.srch := rfl
@[simp] theorem State.modHost_safe (f : HostSt → HostSt) : (s.modHost f).safe = s.safe := rfl
@[simp] theorem State.modHost_stk (f : HostSt → HostSt) : (s.modHost f).stk = s.stk := rfl
@[simp] theorem State.modHost_gran (f : HostSt → HostSt) : (s.modHost f).gran = s.gran := rfl
@[simp] theorem State.modHost_cfg (f : HostSt → HostSt) : (s.modHost f).cfg = s.cfg := rfl
@[simp] theorem State.modHost_pwr (f : HostSt → HostSt) : (s.modHost f).pwr = s.pwr := rfl
@[simp] theorem State.modHost_enc (f : HostSt → HostSt) : (s.modHost f).enc = s.enc := rfl
@[simp] theorem State.modHost_emb (f : HostSt → HostSt) : (s.modHost f).emb = s.emb := rfl
@[simp] theorem State.modHost_home (f : HostSt → HostSt) : (s.modHost f).home = s.home := rfl
@[simp] theorem State.modHost_now (f : HostSt → HostSt) : (s.modHost f).now = s.now := rfl
@[simp] theorem State.modHost_awake (f : HostSt → HostSt) : (s.modHost f).awake = s.awake := rfl
@[simp] theorem State.modHost_freeCtr (f : HostSt → HostSt) : (s.modHost f).freeCtr = s.freeCtr := rfl
@[simp] theorem State.modHost_out (f : HostSt → HostSt) : (s.modHost f).out = s.out := rfl
@[simp] theorem State.modHost_held (f : HostSt → HostSt) : (s.modHost f).held = s.held := rfl
@[simp] theorem State.modHost_pending (f : HostSt → HostSt) : (s.modHost f).pending = s.pending := rfl
@[simp] theorem State.modHost_get (f : HostSt → HostSt) (g : Fld) : (s.modHost f).get g = s.get g := rfl
@[simp] theorem State.modHost_flag (f : HostSt → HostSt) (g : Fld) : (s.modHost f).flag g = s.flag g := rfl
@[simp] theorem State.modHost_frozen (f : HostSt → HostSt) : (s.modHost f).frozen = s.frozen := rfl

/-! ### modOvl -/

@[simp] theorem State.modOvl_ovl (f : OvlSt → OvlSt) : (s.modOvl f).ovl = f s.ovl := rfl
@[simp] theorem State.modOvl_regs (f : OvlSt → OvlSt) : (s.modOvl f).regs = s.regs := rfl
@[simp] theorem State.modOvl_host (f : OvlSt → OvlSt) : (s.modOvl f).host = s.host := rfl
@[simp] theorem State.modOvl_stp (f : OvlSt → OvlSt) : (s.modOvl f).stp = s.stp := rfl
@[simp] theorem State.modOvl_srch (f : OvlSt → OvlSt) : (s.modOvl f).srch = s.srch := rfl
@[simp] theorem State.modOvl_safe (f : OvlSt → OvlSt) : (s.modOvl f).safe = s.safe := rfl
@[simp] theorem State.modOvl_stk (f : OvlSt → OvlSt) : (s.modOvl f).stk = s.stk := rfl
@[simp] theorem State.modOvl_gran (f : OvlSt → OvlSt) : (s.modOvl f).gran = s.gran := rfl
@[simp] theorem State.modOvl_cfg (f : OvlSt → OvlSt) : (s.modOvl f).cfg = s.cfg := rfl
@[simp] theorem State.modOvl_pwr (f : OvlSt → OvlSt) : (s.modOvl f).pwr = s.pwr := rfl
@[simp] theorem State.modOvl_enc (f : OvlSt → OvlSt) : (s.modOvl f).enc = s.enc := rfl
@[simp] theorem State.modOvl_emb (f : OvlSt → OvlSt) : (s.modOvl f).emb = s.emb := rfl
@[simp] theorem State.modOvl_home (f : OvlSt → OvlSt) : (s.modOvl f).home = s.home := rfl
@[simp] theorem State.modOvl_now (f : OvlSt → OvlSt) : (s.modOvl f).now = s.now := rfl
@[simp] theorem State.modOvl_awake (f : OvlSt → OvlSt) : (s.modOvl f).awake = s.awake := rfl
@[simp] theorem State.modOvl_freeCtr (f : OvlSt → OvlSt) : (s.modOvl f).freeCtr = s.freeCtr := rfl
@[simp] theorem State.modOvl_out (f : OvlSt → OvlSt) : (s.modOvl f).out = s.out := rfl
@[simp] theorem State.modOvl_held (f : OvlSt → OvlSt) : (s.modOvl f).held = s.held := rfl
@[simp] theorem State.modOvl_pending (f : OvlSt → OvlSt) : (s.modOvl f).pending = s.pending := rfl
@[simp] theorem State.modOvl_get (f : OvlSt → OvlSt) (g : Fld) : (s.modOvl f).get g = s.get g := rfl
@[simp] theorem State.modOvl_flag (f : OvlSt → OvlSt) (g : Fld) : (s.modOvl f).flag g = s.flag g := rfl
@[simp] theorem State.modOvl_frozen (f : OvlSt → OvlSt) : (s.modOvl f).frozen = s.frozen := rfl

/-! ### modStp -/

@[simp] theorem State.modStp_stp (f : StepSt → StepSt) : (s.modStp f).stp = f s.stp := rfl
@[simp] theorem State.modStp_regs (f : StepSt → StepSt) : (s.modStp f).regs = s.regs := rfl
@[simp] theorem State.modStp_host (f : StepSt → StepSt) : (s.modStp f).host = s.host := rfl
@[simp] theorem State.modStp_ovl (f : StepSt → StepSt) : (s.modStp f).ovl = s.ovl := rfl
@[simp] theorem State.modStp_srch (f : StepSt → StepSt) : (s.modStp f).srch = s.srch := rfl
@[simp] theorem State.modStp_safe (f : StepSt → StepSt) : (s.modStp f).safe = s.safe := rfl
@[simp] theorem State.modStp_stk (f : StepSt → StepSt) : (s.modStp f).stk = s.stk := rfl
@[simp] theorem State.modStp_gran (f : StepSt → StepSt) : (s.modStp f).gran = s.gran := rfl
@[simp] theorem State.modStp_cfg (f : StepSt → StepSt) : (s.modStp f).cfg = s.cfg := rfl
@[simp] theorem State.modStp_pwr (f : StepSt → StepSt) : (s.modStp f).pwr = s.pwr := rfl
@[simp] theorem State.modStp_enc (f : StepSt → StepSt) : (s.modStp f).enc = s.enc := rfl
@[simp] theorem State.modStp_emb (f : StepSt → StepSt) : (s.modStp f).emb = s.emb := rfl
@[simp] theorem State.modStp_home (f : StepSt → StepSt) : (s.modStp f).home = s.home := rfl
@[simp] theorem State.modStp_now (f : StepSt → StepSt) : (s.modStp f).now = s.now := rfl
@[simp] theorem State.modStp_awake (f : StepSt → StepSt) : (s.modStp f).awake = s.awake := rfl
@[simp] theorem State.modStp_freeCtr (f : StepSt → StepSt) : (s.modStp f).freeCtr = s.freeCtr := rfl
@[simp] theorem State.modStp_out (f : StepSt → StepSt) : (s.modStp f).out = s.out := rfl
@[simp] theorem State.modStp_held (f : StepSt → StepSt) : (s.modStp f).held = s.held := rfl
@[simp] theorem State.modStp_pending (f : StepSt → StepSt) : (s.modStp f).pending = s.pending := rfl
@[simp] theorem State.modStp_get (f : StepSt → StepSt) (g : Fld) : (s.modStp f).get g = s.get g := rfl
@[simp] theorem State.modStp_flag (f : StepSt → StepSt) (g : Fld) : (s.modStp f).flag g = s.flag g := rfl
@[simp] theorem State.modStp_frozen (f : StepSt → StepSt) : (s.modStp f).frozen = s.frozen := rfl

/-! ### modSrch -/

@[simp] theorem State.modSrch_srch (f : SearchSt → SearchSt) : (s.modSrch f).srch = f s.srch := rfl
@[simp] theorem State.modSrch_regs (f : SearchSt → SearchSt) : (s.modSrch f).regs = s.regs := rfl
@[simp] theorem State.modSrch_host (f : SearchSt → SearchSt) : (s.modSrch f).host = s.host := rfl
@[simp] theorem State.modSrch_ovl (f : SearchSt → SearchSt) : (s.modSrch f).ovl = s.ovl := rfl
@[simp] theorem State.modSrch_stp (f : SearchSt → SearchSt) : (s.modSrch f).stp = s.stp := rfl
@[simp] theorem State.modSrch_safe (f : SearchSt → SearchSt) : (s.modSrch f).safe = s.safe := rfl
@[simp] theorem State.modSrch_stk (f : SearchSt → SearchSt) : (s.modSrch f).stk = s.stk := rfl
@[simp] theorem State.modSrch_gran (f : SearchSt → SearchSt) : (s.modSrch f).gran = s.gran := rfl
@[simp] theorem State.modSrch_cfg (f : SearchSt → SearchSt) : (s.modSrch f).cfg = s.cfg := rfl
@[simp] theorem State.modSrch_pwr (f : SearchSt → SearchSt) : (s.modSrch f).pwr = s.pwr := rfl
@[simp] theorem State.modSrch_enc (f : SearchSt → SearchSt) : (s.modSrch f).enc = s.enc := rfl
@[simp] theorem State.modSrch_emb (f : SearchSt → SearchSt) : (s.modSrch f).emb = s.emb := rfl
@[simp] theorem State.modSrch_home (f : SearchSt → SearchSt) : (s.modSrch f).home = s.home := rfl
@[simp] theorem State.modSrch_now (f : SearchSt → SearchSt) : (s.modSrch f).now = s.now := rfl
@[simp] theorem State.modSrch_awake (f : SearchSt → SearchSt) : (s.modSrch f).awake = s.awake := rfl
@[simp] theorem State.modSrch_freeCtr (f : SearchSt → SearchSt) : (s.modSrch f).freeCtr = s.freeCtr := rfl
@[simp] theorem State.modSrch_out (f : SearchSt → SearchSt) : (s.modSrch f).out = s.out := rfl
@[simp] theorem State.modSrch_held (f : SearchSt → SearchSt) : (s.modSrch f).held = s.held := rfl
@[simp] theorem State.modSrch_pending (f : SearchSt → SearchSt) : (s.modSrch f).pending = s.pending := rfl
@[simp] theorem State.modSrch_get (f : SearchSt → SearchSt) (g : Fld) : (s.modSrch f).get g = s.get g := rfl
@[simp] theorem State.modSrch_flag (f : SearchSt → SearchSt) (g : Fld) : (s.modSrch f).flag g = s.flag g := rfl
@[simp] theorem State.modSrch_frozen (f : SearchSt → SearchSt) : (s.modSrch f).frozen = s.frozen := rfl

/-! ### modSafe -/

@[simp] theorem State.modSafe_safe (f : SafeSt → SafeSt) : (s.modSafe f).safe = f s.safe := rfl
@[simp] theorem State.modSafe_regs (f : SafeSt → SafeSt) : (s.modSafe f).regs = s.regs := rfl
@[simp] theorem State.modSafe_host (f : SafeSt → SafeSt) : (s.modSafe f).host = s.host := rfl
@[simp] theorem State.modSafe_ovl (f : SafeSt → SafeSt) : (s.modSafe f).ovl = s.ovl := rfl
@[simp] theorem State.modSafe_stp (f : SafeSt → SafeSt) : (s.modSafe f).stp = s.stp := rfl
@[simp] theorem State.modSafe_srch (f : SafeSt → SafeSt) : (s.modSafe f).srch = s.srch := rfl
@[simp] theorem State.modSafe_stk (f : SafeSt → SafeSt) : (s.modSafe f).stk = s.stk := rfl
@[simp] theorem State.modSafe_gran (f : SafeSt → SafeSt) : (s.modSafe f).gran = s.gran := rfl
@[simp] theorem State.modSafe_cfg (f : SafeSt → SafeSt) : (s.modSafe f).cfg = s.cfg := rfl
@[simp] theorem State.modSafe_pwr (f : SafeSt → SafeSt) : (s.modSafe f).pwr = s.pwr := rfl
@[simp] theorem State.modSafe_enc (f : SafeSt → SafeSt) : (s.modSafe f).enc = s.enc := rfl
@[simp] theorem State.modSafe_emb (f : SafeSt → SafeSt) : (s.modSafe f).emb = s.emb := rfl
@[simp] theorem State.modSafe_home (f : SafeSt → SafeSt) : (s.modSafe f).home = s.home := rfl
@[simp] theorem State.modSafe_now (f : SafeSt → SafeSt) : (s.modSafe f).now = s.now := rfl
@[simp] theorem State.modSafe_awake (f : SafeSt → SafeSt) : (s.modSafe f).awake = s.awake := rfl
@[simp] theorem State.modSafe_freeCtr (f : SafeSt → SafeSt) : (s.modSafe f).freeCtr = s.freeCtr := rfl
@[simp] theorem State.modSafe_out (f : SafeSt → SafeSt) : (s.modSafe f).out = s.out := rfl
@[simp] theorem State.modSafe_held (f : SafeSt → SafeSt) : (s.modSafe f).held = s.held := rfl
@[simp] theorem State.modSafe_pending (f : SafeSt → SafeSt) : (s.modSafe f).pending = s.pending := rfl
@[simp] theorem State.modSafe_get (f : SafeSt → SafeSt) (g : Fld) : (s.modSafe f).get g = s.get g := rfl
@[simp] theorem State.modSafe_flag (f : SafeSt → SafeSt) (g : Fld) : (s.modSafe f).flag g = s.flag g := rfl

/-! ### modStk -/

@[simp] theorem State.modStk_stk (f : StackSt → StackSt) : (s.modStk f).stk = f s.stk := rfl
@[simp] theorem State.modStk_regs (f : StackSt → StackSt) : (s.modStk f).regs = s.regs := rfl
@[simp] theorem State.modStk_host (f : StackSt → StackSt) : (s.modStk f).host = s.host := rfl
@[simp] theorem State.modStk_ovl (f : StackSt → StackSt) : (s.modStk f).ovl = s.ovl := rfl
@[simp] theorem State.modStk_stp (f : StackSt → StackSt) : (s.modStk f).stp = s.stp := rfl
@[simp] theorem State.modStk_srch (f : StackSt → StackSt) : (s.modStk f).srch = s.srch := rfl
@[simp] theorem State.modStk_safe (f : StackSt → StackSt) : (s.modStk f).safe = s.safe := rfl
@[simp] theorem State.modStk_gran (f : StackSt → StackSt) : (s.modStk f).gran = s.gran := rfl
@[simp] theorem State.modStk_cfg (f : StackSt → StackSt) : (s.modStk f).cfg = s.cfg := rfl
@[simp] theorem State.modStk_pwr (f : StackSt → StackSt) : (s.modStk f).pwr = s.pwr := rfl
@[simp] theorem State.modStk_enc (f : StackSt → StackSt) : (s.modStk f).enc = s.enc := rfl
@[simp] theorem State.modStk_emb (f : StackSt → StackSt) : (s.modStk f).emb = s.emb := rfl
@[simp] theorem State.modStk_home (f : StackSt → StackSt) : (s.modStk f).home = s.home := rfl
@[simp] theorem State.modStk_now (f : StackSt → StackSt) : (s.modStk f).now = s.now := rfl
@[simp] theorem State.modStk_awake (f : StackSt → StackSt) : (s.modStk f).awake = s.awake := rfl
@[simp] theorem State.modStk_freeCtr (f : StackSt → StackSt) : (s.modStk f).freeCtr = s.freeCtr := rfl
@[simp] theorem State.modStk_out (f : StackSt → StackSt) : (s.modStk f).out = s.out := rfl
@[simp] theorem State.modStk_held (f : StackSt → StackSt) : (s.modStk f).held = s.held := rfl
@[simp] theorem State.modStk_pending (f : StackSt → StackSt) : (s.modStk f).pending = s.pending := rfl
@[simp] theorem State.modStk_get (f : StackSt → StackSt) (g : Fld) : (s.modStk f).get g = s.get g := rfl
@[simp] theorem State.modStk_flag (f : StackSt → StackSt) (g : Fld) : (s.modStk f).flag g = s.flag g := rfl
@[simp] theorem State.modStk_frozen (f : StackSt → StackSt) : (s.modStk f).frozen = s.frozen := rfl

/-! ### modGran -/

@[simp] theorem State.modGran_gran (f : GranSt → GranSt) : (s.modGran f).gran = f s.gran := rfl
@[simp] theorem State.modGran_regs (f : GranSt → GranSt) : (s.modGran f).regs = s.regs := rfl
@[simp] theorem State.modGran_host (f : GranSt → GranSt) : (s.modGran f).host = s.host := rfl
@[simp] theorem State.modGran_ovl (f : GranSt → GranSt) : (s.modGran f).ovl = s.ovl := rfl
@[simp] theorem State.modGran_stp (f : GranSt → GranSt) : (s.modGran f).stp = s.stp := rfl
@[simp] theorem State.modGran_srch (f : GranSt → GranSt) : (s.modGran f).srch = s.srch := rfl
@[simp] theorem State.modGran_safe (f : GranSt → GranSt) : (s.modGran f).safe = s.safe := rfl
@[simp] theorem State.modGran_stk (f : GranSt → GranSt) : (s.modGran f).stk = s.stk := rfl
@[simp] theorem State.modGran_cfg (f : GranSt → GranSt) : (s.modGran f).cfg = s.cfg := rfl
@[simp] theorem State.modGran_pwr (f : GranSt → GranSt) : (s.modGran f).pwr = s.pwr := rfl
@[simp] theorem State.modGran_enc (f : GranSt → GranSt) : (s.modGran f).enc = s.enc := rfl
@[simp] theorem State.modGran_emb (f : GranSt → GranSt) : (s.modGran f).emb = s.emb := rfl
@[simp] theorem State.modGran_home (f : GranSt → GranSt) : (s.modGran f).home = s.home := rfl
@[simp] theorem State.modGran_now (f : GranSt → GranSt) : (s.modGran f).now = s.now := rfl
@[simp] theorem State.modGran_awake (f : GranSt → GranSt) : (s.modGran f).awake = s.awake := rfl
@[simp] theorem State.modGran_freeCtr (f : GranSt → GranSt) : (s.modGran f).freeCtr = s.freeCtr := rfl
@[simp] theorem State.modGran_out (f : GranSt → GranSt) : (s.modGran f).out = s.out := rfl
@[simp] theorem State.modGran_held (f : GranSt → GranSt) : (s.modGran f).held = s.held := rfl
@[simp] theorem State.modGran_pending (f : GranSt → GranSt) : (s.modGran f).pending = s.pending := rfl
@[simp] theorem State.modGran_get (f : GranSt → GranSt) (g : Fld) : (s.modGran f).get g = s.get g := rfl
@[simp] theorem State.modGran_flag (f : GranSt → GranSt) (g : Fld) : (s.modGran f).flag g = s.flag g := rfl
@[simp] theorem State.modGran_frozen (f : GranSt → GranSt) : (s.modGran f).frozen = s.frozen := rfl

/-! ### modCfg -/

@[simp] theorem State.modCfg_cfg (f : CfgSt → CfgSt) : (s.modCfg f).cfg = f s.cfg := rfl
@[simp] theorem State.modCfg_regs (f : CfgSt → CfgSt) : (s.modCfg f).regs = s.regs := rfl
@[simp] theorem State.modCfg_host (f : CfgSt → CfgSt) : (s.modCfg f).host = s.host := rfl
@[simp] theorem State.modCfg_ovl (f : CfgSt → CfgSt) : (s.modCfg f).ovl = s.ovl := rfl
@[simp] theorem State.modCfg_stp (f : CfgSt → CfgSt) : (s.modCfg f).stp = s.stp := rfl
@[simp] theorem State.modCfg_srch (f : CfgSt → CfgSt) : (s.modCfg f).srch = s.srch := rfl
@[simp] theorem State.modCfg_safe (f : CfgSt → CfgSt) : (s.modCfg f).safe = s.safe := rfl
@[simp] theorem State.modCfg_stk (f : CfgSt → CfgSt) : (s.modCfg f).stk = s.stk := rfl
@[simp] theorem State.modCfg_gran (f : CfgSt → CfgSt) : (s.modCfg f).gran = s.gran := rfl
@[simp] theorem State.modCfg_pwr (f : CfgSt → CfgSt) : (s.modCfg f).pwr = s.pwr := rfl
@[simp] theorem State.modCfg_enc (f : CfgSt → CfgSt) : (s.modCfg f).enc = s.enc := rfl
@[simp] theorem State.modCfg_emb (f : CfgSt → CfgSt) : (s.modCfg f).emb = s.emb := rfl
@[simp] theorem State.modCfg_home (f : CfgSt → CfgSt) : (s.modCfg f).home = s.home := rfl
@[simp] theorem State.modCfg_now (f : CfgSt → CfgSt) : (s.modCfg f).now = s.now := rfl
@[simp] theorem State.modCfg_awake (f : CfgSt → CfgSt) : (s.modCfg f).awake = s.awake := rfl
@[simp] theorem State.modCfg_freeCtr (f : CfgSt → CfgSt) : (s.modCfg f).freeCtr = s.freeCtr := rfl
@[simp] theorem State.modCfg_out (f : CfgSt → CfgSt) : (s.modCfg f).out = s.out := rfl
@[simp] theorem State.modCfg_held (f : CfgSt → CfgSt) : (s.modCfg f).held = s.held := rfl
@[simp] theorem State.modCfg_pending (f : CfgSt → CfgSt) : (s.modCfg f).pending = s.pending := rfl
@[simp] theorem State.modCfg_get (f : CfgSt → CfgSt) (g : Fld) : (s.modCfg f).get g = s.get g := rfl
@[simp] theorem State.modCfg_flag (f : CfgSt → CfgSt) (g : Fld) : (s.modCfg f).flag g = s.flag g := rfl
@[simp] theorem State.modCfg_frozen (f : CfgSt → CfgSt) : (s.modCfg f).frozen = s.frozen := rfl

/-! ### modPwr -/

@[simp] theorem State.modPwr_pwr (f : PwrSt → PwrSt) : (s.modPwr f).pwr = f s.pwr := rfl
@[simp] theorem State.modPwr_regs (f : PwrSt → PwrSt) : (s.modPwr f).regs = s.regs := rfl
@[simp] theorem State.modPwr_host (f : PwrSt → PwrSt) : (s.modPwr f).host = s.host := rfl
@[simp] theorem State.modPwr_ovl (f : PwrSt → PwrSt) : (s.modPwr f).ovl = s.ovl := rfl
@[simp] theorem State.modPwr_stp (f : PwrSt → PwrSt) : (s.modPwr f).stp = s.stp := rfl
@[simp] theorem State.modPwr_srch (f : PwrSt → PwrSt) : (s.modPwr f).srch = s.srch := rfl
@[simp] theorem State.modPwr_safe (f : PwrSt → PwrSt) : (s.modPwr f).safe = s.safe := rfl
@[simp] theorem State.modPwr_stk (f : PwrSt → PwrSt) : (s.modPwr f).stk = s.stk := rfl
@[simp] theorem State.modPwr_gran (f : PwrSt → PwrSt) : (s.modPwr f).gran = s.gran := rfl
@[simp] theorem State.modPwr_cfg (f : PwrSt → PwrSt) : (s.modPwr f).cfg = s.cfg := rfl
@[simp] theorem State.modPwr_enc (f : PwrSt → PwrSt) : (s.modPwr f).enc = s.enc := rfl
@[simp] theorem State.modPwr_emb (f : PwrSt → PwrSt) : (s.modPwr f).emb = s.emb := rfl
@[simp] theorem State.modPwr_home (f : PwrSt → PwrSt) : (s.modPwr f).home = s.home := rfl
@[simp] theorem State.modPwr_now (f : PwrSt → PwrSt) : (s.modPwr f).now = s.now := rfl
@[simp] theorem State.modPwr_awake (f : PwrSt → PwrSt) : (s.modPwr f).awake = s.awake := rfl
@[simp] theorem State.modPwr_freeCtr (f : PwrSt → PwrSt) : (s.modPwr f).freeCtr = s.freeCtr := rfl
@[simp] theorem State.modPwr_out (f : PwrSt → PwrSt) : (s.modPwr f).out = s.out := rfl
@[simp] theorem State.modPwr_held (f : PwrSt → PwrSt) : (s.modPwr f).held = s.held := rfl
@[simp] theorem State.modPwr_pending (f : PwrSt → PwrSt) : (s.modPwr f).pending = s.pending := rfl
@[simp] theorem State.modPwr_get (f : PwrSt → PwrSt) (g : Fld) : (s.modPwr f).get g = s.get g := rfl
@[simp] theorem State.modPwr_flag (f : PwrSt → PwrSt) (g : Fld) : (s.modPwr f).flag g = s.flag g := rfl
@[simp] theorem State.modPwr_frozen (f : PwrSt → PwrSt) : (s.modPwr f).frozen = s.frozen := rfl

/-! ### modEnc -/

@[simp] theorem State.modEnc_enc (f : EncSt → EncSt) : (s.modEnc f).enc = f s.enc := rfl
@[simp] theorem State.modEnc_regs (f : EncSt → EncSt) : (s.modEnc f).regs = s.regs := rfl
@[simp] theorem State.modEnc_host (f : EncSt → EncSt) : (s.modEnc f).host = s.host := rfl
@[simp] theorem State.modEnc_ovl (f : EncSt → EncSt) : (s.modEnc f).ovl = s.ovl := rfl
@[simp] theorem State.modEnc_stp (f : EncSt → EncSt) : (s.modEnc f).stp = s.stp := rfl
@[simp] theorem State.modEnc_srch (f : EncSt → EncSt) : (s.modEnc f).srch = s.srch := rfl
@[simp] theorem State.modEnc_safe (f : EncSt → EncSt) : (s.modEnc f).safe = s.safe := rfl
@[simp] theorem State.modEnc_stk (f : EncSt → EncSt) : (s.modEnc f).stk = s.stk := rfl
@[simp] theorem State.modEnc_gran (f : EncSt → EncSt) : (s.modEnc f).gran = s.gran := rfl
@[simp] theorem State.modEnc_cfg (f : EncSt → EncSt) : (s.modEnc f).cfg = s.cfg := rfl
@[simp] theorem State.modEnc_pwr (f : EncSt → EncSt) : (s.modEnc f).pwr = s.pwr := rfl
@[simp] theorem State.modEnc_emb (f : EncSt → EncSt) : (s.modEnc f).emb = s.emb := rfl
@[simp] theorem State.modEnc_home (f : EncSt → EncSt) : (s.modEnc f).home = s.home := rfl
@[simp] theorem State.modEnc_now (f : EncSt → EncSt) : (s.modEnc f).now = s.now := rfl
@[simp] theorem State.modEnc_awake (f : EncSt → EncSt) : (s.modEnc f).awake = s.awake := rfl
@[simp] theorem State.modEnc_freeCtr (f : EncSt → EncSt) : (s.modEnc f).freeCtr = s.freeCtr := rfl
@[simp] theorem State.modEnc_out (f : EncSt → EncSt) : (s.modEnc f).out = s.out := rfl
@[simp] theorem State.modEnc_held (f : EncSt → EncSt) : (s.modEnc f).held = s.held := rfl
@[simp] theorem State.modEnc_pending (f : EncSt → EncSt) : (s.modEnc f).pending = s.pending := rfl
@[simp] theorem State.modEnc_get (f : EncSt → EncSt) (g : Fld) : (s.modEnc f).get g = s.get g := rfl
@[simp] theorem State.modEnc_flag (f : EncSt → EncSt) (g : Fld) : (s.modEnc f).flag g = s.flag g := rfl
@[simp] theorem State.modEnc_frozen (f : EncSt → EncSt) : (s.modEnc f).frozen = s.frozen := rfl

/-! ### modEmb -/

@[simp] theorem State.modEmb_emb (f : EmbSt → EmbSt) : (s.modEmb f).emb = f s.emb := rfl
@[simp] theorem State.modEmb_regs (f : EmbSt → EmbSt) : (s.modEmb f).regs = s.regs := rfl
@[simp] theorem State.modEmb_host (f : EmbSt → EmbSt) : (s.modEmb f).host = s.host := rfl
@[simp] theorem State.modEmb_ovl (f : EmbSt → EmbSt) : (s.modEmb f).ovl = s.ovl := rfl
@[simp] theorem State.modEmb_stp (f : EmbSt → EmbSt) : (s.modEmb f).stp = s.stp := rfl
@[simp] theorem State.modEmb_srch (f : EmbSt → EmbSt) : (s.modEmb f).srch = s.srch := rfl
@[simp] theorem State.modEmb_safe (f : EmbSt → EmbSt) : (s.modEmb f).safe = s.safe := rfl
@[simp] theorem State.modEmb_stk (f : EmbSt → EmbSt) : (s.modEmb f).stk = s.stk := rfl
@[simp] theorem State.modEmb_gran (f : EmbSt → EmbSt) : (s.modEmb f).gran = s.gran := rfl
@[simp] theorem State.modEmb_cfg (f : EmbSt → EmbSt) : (s.modEmb f).cfg = s.cfg := rfl
@[simp] theorem State.modEmb_pwr (f : EmbSt → EmbSt) : (s.modEmb f).pwr = s.pwr := rfl
@[simp] theorem State.modEmb_enc (f : EmbSt → EmbSt) : (s.modEmb f).enc = s.enc := rfl
@[simp] theorem State.modEmb_home (f : EmbSt → EmbSt) : (s.modEmb f).home = s.home := rfl
@[simp] theorem State.modEmb_now (f : EmbSt → EmbSt) : (s.modEmb f).now = s.now := rfl
@[simp] theorem State.modEmb_awake (f : EmbSt → EmbSt) : (s.modEmb f).awake = s.awake := rfl
@[simp] theorem State.modEmb_freeCtr (f : EmbSt → EmbSt) : (s.modEmb f).freeCtr = s.freeCtr := rfl
@[simp] theorem State.modEmb_out (f : EmbSt → EmbSt) : (s.modEmb f).out = s.out := rfl
@[simp] theorem State.modEmb_held (f : EmbSt → EmbSt) : (s.modEmb f).held = s.held := rfl
@[simp] theorem State.modEmb_pending (f : EmbSt → EmbSt) : (s.modEmb f).pending = s.pending := rfl
@[simp] theorem State.modEmb_get (f : EmbSt → EmbSt) (g : Fld) : (s.modEmb f).get g = s.get g := rfl
@[simp] theorem State.modEmb_flag (f : EmbSt → EmbSt) (g : Fld) : (s.modEmb f).flag g = s.flag g := rfl
@[simp] theorem State.modEmb_frozen (f : EmbSt → EmbSt) : (s.modEmb f).frozen = s.frozen := rfl

/-! ### modHome -/

@[simp] theorem State.modHome_home (f : HomeSt → HomeSt) : (s.modHome f).home = f s.home := rfl
@[simp] theorem State.modHome_regs (f : HomeSt → HomeSt) : (s.modHome f).regs = s.regs := rfl
@[simp] theorem State.modHome_host (f : HomeSt → HomeSt) : (s.modHome f).host = s.host := rfl
@[simp] theorem State.modHome_ovl (f : HomeSt → HomeSt) : (s.modHome f).ovl = s.ovl := rfl
@[simp] theorem State.modHome_stp (f : HomeSt → HomeSt) : (s.modHome f).stp = s.stp := rfl
@[simp] theorem State.modHome_srch (f : HomeSt → HomeSt) : (s.modHome f).srch = s.srch := rfl
@[simp] theorem State.modHome_safe (f : HomeSt → HomeSt) : (s.modHome f).safe = s.safe := rfl
@[simp] theorem State.modHome_stk (f : HomeSt → HomeSt) : (s.modHome f).stk = s.stk := rfl
@[simp] theorem State.modHome_gran (f : HomeSt → HomeSt) : (s.modHome f).gran = s.gran := rfl
@[simp] theorem State.modHome_cfg (f : HomeSt → HomeSt) : (s.modHome f).cfg = s.cfg := rfl
@[simp] theorem State.modHome_pwr (f : HomeSt → HomeSt) : (s.modHome f).pwr = s.pwr := rfl
@[simp] theorem State.modHome_enc (f : HomeSt → HomeSt) : (s.modHome f).enc = s.enc := rfl
@[simp] theorem State.modHome_emb (f : HomeSt → HomeSt) : (s.modHome f).emb = s.emb := rfl
@[simp] theorem State.modHome_now (f : HomeSt → HomeSt) : (s.modHome f).now = s.now := rfl
@[simp] theorem State.modHome_awake (f : HomeSt → HomeSt) : (s.modHome f).awake = s.awake := rfl
@[simp] theorem State.modHome_freeCtr (f : HomeSt → HomeSt) : (s.modHome f).freeCtr = s.freeCtr := rfl
@[simp] theorem State.modHome_out (f : HomeSt → HomeSt) : (s.modHome f).out = s.out := rfl
@[simp] theorem State.modHome_held (f : HomeSt → HomeSt) : (s.modHome f).held = s.held := rfl
@[simp] theorem State.modHome_pending (f : HomeSt → HomeSt) : (s.modHome f).pending = s.pending := rfl
@[simp] theorem State.modHome_get (f : HomeSt → HomeSt) (g : Fld) : (s.modHome f).get g = s.get g := rfl
@[simp] theorem State.modHome_flag (f : HomeSt → HomeSt) (g : Fld) : (s.modHome f).flag g = s.flag g := rfl
@[simp] theorem State.modHome_frozen (f : HomeSt → HomeSt) : (s.modHome f).frozen = s.frozen := rfl

/-! ### Registers -/

/-- A register's field at another place reads as before. -/
theorem State.get_set_ne {f g : Fld} (v : Nat) (h : g.bit ≠ f.bit) : (s.set f v).get g = s.get g := tget_tset_ne f.dflt g.dflt s.regs _ h

/-- In canonical registers a field reads what was written, cut to its width. -/
theorem State.get_set_self (f : Fld) (v : Nat) (h : tabRising s.regs = true) : (s.set f v).get f = v % 2 ^ f.w :=
  tget_tset_self f.dflt f.bit _ h

/-- A value other than the default reads back in any registers. -/
theorem State.get_set_listed (f : Fld) {v : Nat} (h : v % 2 ^ f.w ≠ f.dflt) : (s.set f v).get f = v % 2 ^ f.w :=
  tget_tset_listed f.dflt s.regs f.bit h

/-- A write keeps the registers canonical. -/
theorem State.regs_rising (f : Fld) (v : Nat) (h : tabRising s.regs = true) : tabRising (s.set f v).regs = true :=
  tabRising_tset f.dflt f.bit _ h

/-! ### Free values -/

@[simp] theorem State.draw_value (b : Nat) : (s.draw b).1 = Config.freeValue s.freeCtr % b := rfl
@[simp] theorem State.draw_state (b : Nat) : (s.draw b).2 = { s with freeCtr := s.freeCtr + 1 } := rfl

end Sys2Proof.Machine
end

