-- ==== Sys2Proof/Laws/Step.lean ====
section
/-! SUPPORT. Everything a step can do: the command at the front runs, the oldest held request is served, or the node idles. -/

namespace Sys2Proof.Machine

open Sys2Proof

/-- The front command runs with the queue's rest. -/
theorem step_front {s : State} {c : Instr} {rest : List Instr} (h : s.pending = c :: rest) :
    step s = exec c { s with pending := rest } := by
  unfold step
  rw [h]

/-- With no command waiting the held requests are looked at. -/
theorem step_empty {s : State} (h : s.pending = []) : step s = serveHeld s := by
  unfold step
  rw [h]

/-- A frozen node serves nothing. -/
theorem serveHeld_frozen {s : State} (h : s.frozen = true) : serveHeld s = .next s := by
  unfold serveHeld
  rw [if_pos h]

/-- A node with nothing held idles. -/
theorem serveHeld_none {s : State} (h : s.held = []) : serveHeld s = .next s := by
  unfold serveHeld
  rw [h]
  split <;> rfl

/-- A node that is not frozen serves the oldest held request as if it held none. -/
theorem serveHeld_some {s t : State} {c : Instr} {rest : List Instr} (hf : s.frozen = false) (h : s.held = c :: rest)
    (ht : exec c { s with held := [] } = .next t) : serveHeld s = .next { t with held := rest ++ t.held } := by
  unfold serveHeld
  rw [hf, h]
  simp [ht]

end Sys2Proof.Machine
end

