-- ==== Sys2Proof/WellFormed.lean ====
section
/-! DEFINITION. Well-formed commands: every operand within the range its field has in the spec. The meanings take any
operands; a statement may ask for well-formed ones. -/

namespace Sys2Proof

/-- An 8-bit field. -/
def u8 (n : Nat) : Bool := decide (n < 2 ^ 8)
/-- A 16-bit field. -/
def u16 (n : Nat) : Bool := decide (n < 2 ^ 16)
/-- A 32-bit field. -/
def u32 (n : Nat) : Bool := decide (n < 2 ^ 32)
/-- A 64-bit field. -/
def u64 (n : Nat) : Bool := decide (n < 2 ^ 64)
/-- A partition, 1 to 64 (R367). -/
def partOk (n : Nat) : Bool := decide (1 ≤ n ∧ n ≤ 64)
/-- A node identifier, 12 bits (R18). -/
def nodeOk (n : Nat) : Bool := decide (n < 4096)
/-- A host's port identifier, 12 bits (R327). -/
def pidOk (n : Nat) : Bool := decide (n < 4096)
/-- A CXL port (R329). -/
def portOk (n : Nat) : Bool := decide (n < 2)
/-- An Ovane link (R347). -/
def linkOk (n : Nat) : Bool := decide (n < 8)
/-- A Nyiskah core (R235). -/
def coreOk (n : Nat) : Bool := decide (n < 64)
/-- A channel of the stacked memory (R168). -/
def chanOk (n : Nat) : Bool := decide (n < 512)
/-- A stack (R168). -/
def stackOk (n : Nat) : Bool := decide (n < 8)
/-- A synchronisation object (R335). -/
def objOk (n : Nat) : Bool := decide (n < 131072)
/-- A collection handle (R85). -/
def collOk (n : Nat) : Bool := decide (n < 4096)
/-- An index of the model table (R235). -/
def modelOk (n : Nat) : Bool := decide (n < 256)
/-- A die half (R231). -/
def halfOk (n : Nat) : Bool := decide (n < 2)
/-- A ring of a partition (R88, R103). -/
def ringOk (n : Nat) : Bool := decide (n < 16)
/-- A slot of a command page (R303, R434, R435). -/
def slotOk (n : Nat) : Bool := decide (n < 2 ^ 32)
/-- A 64-byte line of the shared space (R296). -/
def lineOk (n : Nat) : Bool := decide (n < 2 ^ 58)
/-- A granule of the shared space (R298). -/
def granuleOk (n : Nat) : Bool := decide (n < 2 ^ 52)
/-- The data of one line (R306). -/
def lineData (n : Nat) : Bool := decide (n < 2 ^ 512)
/-- A range or a region (R324). -/
def rangeOk (n : Nat) : Bool := decide (n < 4096)
/-- A filter slot (R75). -/
def fslotOk (n : Nat) : Bool := decide (n < 16)
/-- A message class (R356). -/
def classOk (n : Nat) : Bool := decide (n < 11)
/-- A message's route (R355). -/
def routeOk (n : Nat) : Bool := decide (n < 4)
/-- A completion status (R9). -/
def statusOk (n : Nat) : Bool := decide (n < 11)
/-- A configuration device (R409). -/
def deviceOk (n : Nat) : Bool := decide (n < 2)
/-- A via of a channel (R168). -/
def viaOk (n : Nat) : Bool := decide (n < 256)
/-- A host's request: its identifier and port. -/
def hostOk (h : HostReq) : Bool := pidOk h.pid && portOk h.port
/-- An operation's identity (R356). -/
def opOk (i : OpId) : Bool := u64 i.step && u64 i.seq && nodeOk i.admitter
/-- A step or membership message (R32). -/
def msgOk (m : StepMsg) : Bool := nodeOk m.sender && u32 m.epoch && u64 m.step && u16 m.subject && u16 m.count
/-- A stage slot: its node, partition and number (R434). -/
def stageSlotOk (x : StageSlot) : Bool := nodeOk x.node && partOk x.part && decide (x.slot < 8)
/-- A query's identity and collection (R94). -/
def queryOk (q : Query) : Bool := opOk q.id && collOk q.handle
/-- A chunk of the stacked memory (R168). -/
def chunkOk (a : ChunkAddr) : Bool := chanOk a.chan
/-- Whole 64-byte units (R87). -/
def unitsOk (b : List Byte) : Bool := decide (b.length % 64 = 0 ∧ b.length ≠ 0)
/-- A flit's 256 bytes (R350). -/
def flitOk (b : List Byte) : Bool := decide (b.length = 256)

/-- Every operand of a command lies in its range. -/
def wellFormed (i : Instr) : Bool :=
  match i with
  | .iringTailWrite h p n value => hostOk h && partOk p && ringOk n && u64 value
  | .sringHeadWrite h p n value => hostOk h && partOk p && ringOk n && u64 value
  | .descriptorFetch p n data => partOk p && ringOk n && unitsOk data
  | .embLookup _ _ => true
  | .embUpdate _ _ => true
  | .syncAdd h obj arg reply tag _ => hostOk h && objOk obj && u64 arg && u64 reply && u16 tag
  | .syncTake h obj arg reply tag _ => hostOk h && objOk obj && u64 arg && u64 reply && u16 tag
  | .syncSet h obj arg reply tag _ => hostOk h && objOk obj && u64 arg && u64 reply && u16 tag
  | .syncRead h obj arg reply tag _ => hostOk h && objOk obj && u64 arg && u64 reply && u16 tag
  | .syncWait h obj arg reply tag _ => hostOk h && objOk obj && u64 arg && u64 reply && u16 tag
  | .syncCancel h obj arg reply tag _ => hostOk h && objOk obj && u64 arg && u64 reply && u16 tag
  | .syncBadOp h obj _ => hostOk h && objOk obj
  | .syncCtlWrite h obj value => hostOk h && objOk obj && u64 value
  | .homeHintWrite h value => hostOk h && u64 value
  | .pageIn h p slot => hostOk h && partOk p && slotOk slot
  | .pageOut h p slot => hostOk h && partOk p && slotOk slot
  | .swapDmaDone p slot _ _ => partOk p && slotOk slot
  | .cfgStageSubmit h p slot _ => hostOk h && partOk p && slotOk slot
  | .secReportRequest h p slot => hostOk h && partOk p && slotOk slot
  | .tallyClearWrite h p i value => hostOk h && partOk p && u16 i && u64 value
  | .msixTableWrite h i _ _ value => hostOk h && u16 i && u64 value
  | .partEvtCfgWrite h p value => hostOk h && partOk p && u64 value
  | .registerWrite h addr _ _ => hostOk h && u64 addr
  | .hdmDecoderCommit h _ _ _ _ => hostOk h
  | .functionLevelReset h => hostOk h
  | .hostMemrdShared h hpa => hostOk h && u64 hpa
  | .hostMemrdAny h hpa => hostOk h && u64 hpa
  | .hostMemrdUncached h hpa => hostOk h && u64 hpa
  | .hostMemwrHeld h hpa data mask => hostOk h && u64 hpa && lineData data && u64 mask
  | .hostMemwrInvalidating h hpa data mask => hostOk h && u64 hpa && lineData data && u64 mask
  | .bisnpResponse pid line _ => pidOk pid && lineOk line
  | .biTimeout pid line => pidOk pid && lineOk line
  | .cxlLinkDown port => portOk port
  | .cxlLinkUp port width rate pid => portOk port && u8 width && u8 rate && pidOk pid
  | .switchPortDown pid => pidOk pid
  | .ideIntegrityFail port => portOk port
  | .ideKeySet h _ => hostOk h
  | .cxlPerst port _ => portOk port
  | .getVersion h => hostOk h
  | .getCapabilities h => hostOk h
  | .negotiateAlgorithms h _ => hostOk h
  | .getDigests h => hostOk h
  | .getCertificate h _ _ => hostOk h
  | .challenge h _ => hostOk h
  | .getMeasurements h index _ _ => hostOk h && u8 index
  | .keyExchange h _ _ => hostOk h
  | .finish h _ => hostOk h
  | .spdmHeartbeat h => hostOk h
  | .keyUpdate h => hostOk h
  | .endSession h => hostOk h
  | .spdmUnsupported h => hostOk h
  | .stepClose m src => msgOk m && nodeOk src
  | .stepDone m src => msgOk m && nodeOk src
  | .stepCommit m _ src => msgOk m && nodeOk src
  | .heartbeat m src => msgOk m && nodeOk src
  | .suspicionTimeout y => nodeOk y
  | .suspect m src => msgOk m && nodeOk src
  | .clear m src => msgOk m && nodeOk src
  | .membTimeout y => nodeOk y
  | .quorumAbandon y => nodeOk y
  | .exclude m src => msgOk m && nodeOk src
  | .joinReq m src => msgOk m && nodeOk src
  | .joinGrant m src => msgOk m && nodeOk src
  | .queryDist q src => queryOk q && nodeOk src
  | .announce id opcode src => opOk id && u8 opcode && nodeOk src
  | .release id opcode src => opOk id && u8 opcode && nodeOk src
  | .notice id status src => opOk id && statusOk status && nodeOk src
  | .confirm id status src => opOk id && statusOk status && nodeOk src
  | .routingComplete id shard _ => opOk id && u16 shard
  | .nbuThresh id shard list _ => opOk id && u16 shard && u32 list
  | .nbuGather id _ row _ => opOk id && u32 row
  | .nbuApply table row step => u32 table && u32 row && u64 step
  | .nbuCopy _ row _ => u32 row
  | .chainStookDelivery id shard list _ => opOk id && u16 shard && u32 list
  | .fallbackPassDone id shard list bank _ => opOk id && u16 shard && u32 list && u16 bank
  | .gleanRecordArrival id shard slot _ _ => opOk id && u16 shard && slotOk slot
  | .transit id src _ _ _ => opOk id && nodeOk src
  | .sheafFlushReadDone id => opOk id
  | .stook id shard list _ => opOk id && u16 shard && u32 list
  | .stookReq id shard list _ src q _ => opOk id && u16 shard && u32 list && nodeOk src && queryOk q
  | .stage _ src _ => nodeOk src
  | .digest id _ src _ => opOk id && nodeOk src
  | .stageAck id fwd src => opOk id && decide (fwd < 2) && nodeOk src
  | .outcome id _ src => opOk id && nodeOk src
  | .credit src _ => nodeOk src
  | .gradStage _ src => nodeOk src
  | .entries id table _ _ src => opOk id && u32 table && nodeOk src
  | .partials id _ _ _ _ src => opOk id && nodeOk src
  | .loadReport step table load src => u64 step && u32 table && u32 load && nodeOk src
  | .directory _ src => nodeOk src
  | .rowMove table row step _ src => u32 table && u32 row && u64 step && nodeOk src
  | .rowDigest table row step _ src => u32 table && u32 row && u64 step && nodeOk src
  | .rds line src => lineOk line && nodeOk src
  | .rdo line src => lineOk line && nodeOk src
  | .upg line src => lineOk line && nodeOk src
  | .wbm line data src => lineOk line && lineData data && nodeOk src
  | .evs line src => lineOk line && nodeOk src
  | .invWrite line data mask tag src => lineOk line && lineData data && u64 mask && u64 tag && nodeOk src
  | .cas id region expect _ pid src => opOk id && rangeOk region && u64 expect && pidOk pid && nodeOk src
  | .snpdata line _ src => lineOk line && nodeOk src
  | .snpinv line _ src => lineOk line && nodeOk src
  | .cohRspData line _ _ src => lineOk line && nodeOk src
  | .grant line src => lineOk line && nodeOk src
  | .snpRsp line _ _ src => lineOk line && nodeOk src
  | .casRsp id _ version pubStep src => opOk id && u64 version && u64 pubStep && nodeOk src
  | .cohDone line tag src => lineOk line && u64 tag && nodeOk src
  | .holdExpiry line => lineOk line
  | .granuleFillDone granule _ => granuleOk granule
  | .writebackTimer granule => granuleOk granule
  | .publishSealDone id _ => opOk id
  | .lostLog _ src => nodeOk src
  | .reset pid step src => pidOk pid && u64 step && nodeOk src
  | .resetConfirm pid step src => pidOk pid && u64 step && nodeOk src
  | .actRecord _ src => nodeOk src
  | .activation _ _ _ src => nodeOk src
  | .actOutput id pos status _ sat quant _ _ src => opOk id && u32 pos && statusOk status && u64 sat && u64 quant && nodeOk src
  | .bulkRecordRead coll shard slot src => collOk coll && u16 shard && slotOk slot && nodeOk src
  | .bulkRecordReply coll shard slot _ => collOk coll && u16 shard && slotOk slot
  | .indexPage coll shard lpage _ => collOk coll && u16 shard && u32 lpage
  | .filterBits coll shard list fslot _ => collOk coll && u16 shard && u32 list && fslotOk fslot
  | .chunks chan _ _ _ => chanOk chan
  | .weights model lpage _ => modelOk model && u32 lpage
  | .e2eAck src cls route seq => nodeOk src && classOk cls && routeOk route && u64 seq
  | .e2eNak src cls route seq => nodeOk src && classOk cls && routeOk route && u64 seq
  | .flitData link raw _ => linkOk link && flitOk raw
  | .flitNak link raw _ => linkOk link && flitOk raw
  | .flitInit link raw _ => linkOk link && flitOk raw
  | .flitIdle link raw _ => linkOk link && flitOk raw
  | .replayTimeout link => linkOk link
  | .fastRetrainStart link => linkOk link
  | .fastRetrainDone link => linkOk link
  | .linkTrainingDone link lanes => linkOk link && u8 lanes
  | .freezePatternRx link => linkOk link
  | .encRecordDispatch _ _ _ => true
  | .loftFillDone model half layer => modelOk model && halfOk half && u8 layer
  | .streamTransferDone core n => coreOk core && u8 n
  | .firstPassDone model _ => modelOk model
  | .li core => coreOk core
  | .add core => coreOk core
  | .addi core => coreOk core
  | .sub core => coreOk core
  | .mul core => coreOk core
  | .and core => coreOk core
  | .or core => coreOk core
  | .xor core => coreOk core
  | .shl core => coreOk core
  | .shr core => coreOk core
  | .sra core => coreOk core
  | .slt core => coreOk core
  | .sltu core => coreOk core
  | .min core => coreOk core
  | .max core => coreOk core
  | .mfs core => coreOk core
  | .fadd core => coreOk core
  | .fmul core => coreOk core
  | .fdiv core => coreOk core
  | .itof core => coreOk core
  | .ftoi core => coreOk core
  | .qpar core => coreOk core
  | .qstat core => coreOk core
  | .vadd core => coreOk core
  | .vsub core => coreOk core
  | .vmul core => coreOk core
  | .vfma core => coreOk core
  | .vmax core => coreOk core
  | .vmin core => coreOk core
  | .vexp core => coreOk core
  | .vrcp core => coreOk core
  | .vrsqrt core => coreOk core
  | .vsplat core => coreOk core
  | .vcmp core => coreOk core
  | .vsel core => coreOk core
  | .vcvt core => coreOk core
  | .vrsum core => coreOk core
  | .vrmax core => coreOk core
  | .vrmin core => coreOk core
  | .vtrd core _ => coreOk core
  | .vtwr core => coreOk core
  | .qmm core => coreOk core
  | .qcvt core => coreOk core
  | .qdq core => coreOk core
  | .mma core => coreOk core
  | .tclr core => coreOk core
  | .tst core _ => coreOk core
  | .vld core => coreOk core
  | .vst core => coreOk core
  | .sld core => coreOk core
  | .sst core => coreOk core
  | .incpy core => coreOk core
  | .outcpy core => coreOk core
  | .emb core => coreOk core
  | .wopen core => coreOk core
  | .wclose core => coreOk core
  | .xch core => coreOk core
  | .acto core => coreOk core
  | .acti core => coreOk core
  | .grad core => coreOk core
  | .scrz core => coreOk core
  | .br core => coreOk core
  | .jmp core => coreOk core
  | .loop core => coreOk core
  | .halt core => coreOk core
  | .bar core => coreOk core
  | .rxwin core => coreOk core
  | .trap core => coreOk core
  | .nop core => coreOk core
  | .flashReadDone lpage _ _ _ => u32 lpage
  | .flashProgramDone stream _ _ _ => u8 stream
  | .superblockVerify stream _ => u8 stream
  | .flashEraseDone _ _ => true
  | .gcTrigger _ => true
  | .lunTempSample _ temp => u16 temp
  | .hotBandExit stack => stackOk stack
  | .graphRebuildDone coll shard _ _ => collOk coll && u16 shard
  | .upkeepBuildDone coll shard list => collOk coll && u16 shard && u32 list
  | .filterPlacementDone coll shard fslot _ status => collOk coll && u16 shard && fslotOk fslot && statusOk status
  | .rollingTest _ unit _ _ => u16 unit
  | .watchdogExpiry _ unit _ _ _ => u16 unit
  | .invalidCodeword _ unit _ => u16 unit
  | .safetyReaction mech _ unit reaction _ _ => u8 mech && u16 unit && u8 reaction
  | .dbgRead addr => u64 addr
  | .extest _ => true
  | .samplePreload _ => true
  | .resetNRise _ _ => true
  | .powerLimiterSample _ _ => true
  | .dieThermalReading temp => u16 temp
  | .i3cEntdaa addr => u64 addr
  | .pufDeriveDone _ _ => true
  | .imageVerifyDone device _ => deviceOk device
  | .stackTrainingDone _ _ _ => true
  | .flashInitDone _ _ _ => true
  | .mapReplayDone _ => true
  | .catchUpDone _ _ _ => true
  | .amendWrite _ slot => stageSlotOk slot
  | .amendModelLoad _ slot => stageSlotOk slot
  | .amendImageStore _ slot _ => stageSlotOk slot
  | .amendLinkTrain _ slot => stageSlotOk slot
  | .amendTallyClear _ slot => stageSlotOk slot
  | .amendLogAppend _ _ _ src => nodeOk src
  | .amendAppendAck seq _ _ src => u64 seq && nodeOk src
  | .spanZeroingDone range => rangeOk range
  | .tableLoadFinished _ => true
  | .stackThermalReading stack _ => stackOk stack
  | .scrubDue a _ cls _ => chunkOk a && u8 cls
  | .refreshDue bank _ _ => u16 bank
  | .scanGovernorTick stack _ => stackOk stack
  | .stackTimerCrosscheck stack _ _ => stackOk stack
  | .viaRemap chan via => chanOk chan && viaOk via
  | .rowRepair chan bank row => chanOk chan && u16 bank && u32 row
  | .channelFail chan _ => chanOk chan
  | .channelRebuildDone chan => chanOk chan
  | .nbuTest bank _ => u16 bank
  | .rootSendCommit _ => true
  | .malformedUnit => true
  | .query => true
  | .filterLoad => true
  | .filterRetire => true
  | .insert => true
  | .delete => true
  | .replace => true
  | .recordRead => true
  | .embTableLoad => true
  | .embTableSave => true
  | .encRun => true
  | .shmPublish => true
  | .shmFlush => true
  | .shmStageReset => true
  | .admissionWindowExpiry => true
  | .sendStepDone => true
  | .stepWaitTimeout => true
  | .heartbeatTimer => true
  | .isolationTimeout => true
  | .joinRetryTimeout => true
  | .formationWaitExpiry => true
  | .e2eAckTimer => true
  | .creditRefillTick => true
  | .gateEntryExpiry => true
  | .checkpointTimer => true
  | .ageTick => true
  | .lockstepMismatch => true
  | .faultNRelease => true
  | .freezeNFall => true
  | .freezeNRise => true
  | .freeze => true
  | .resume => true
  | .dbgStatus => true
  | .idcode => true
  | .bypass => true
  | .pwrOkRise => true
  | .pwrOkFall => true
  | .resetNFall => true
  | .pwrFailNFall => true
  | .pwrFailNRise => true
  | .flushDone => true
  | .undervoltage => true
  | .railsOff => true
  | .i3cRead => true
  | .railsGood => true

end Sys2Proof
end

