-- ==== Sys2Proof/Tests/Slice0.lean ====
section
/-! SUPPORT. Tests: values that the spec works out, commands that are not well formed, and for each statement a state and
operands that meet what each of its clauses asks for. Where a clause asks that a signature holds, the witness says so of a
concrete record: the signature functions of Config have no body. -/

namespace Sys2Proof.Tests

set_option Elab.async false

open Sys2Proof Sys2Proof.Machine

/-! ### Values -/

def aDelivery : Delivery := ⟨0, 0, 0, 0, 0, 0, 0, 0, 0⟩
def aOpId : OpId := ⟨0, 0, 0⟩
def aAdmitted : Admitted := ⟨aOpId, 0, aDelivery, 0, 0, none, false, [], [], [], false, 0⟩
def aAmend : Amend := ⟨0, 0, [], false, none, none, false, false⟩
def aBlock : Block := ⟨0, 0, 0, 0, 0, 0⟩
def aCatchUp : CatchUp := ⟨[], [], [], [], [], [], [], [], 0, 0, 0, 0⟩
def aChainRec : ChainRec := ⟨aOpId, 0, 0, 0, 0, [], [], 0, 0, false, []⟩
def aChunkAddr : ChunkAddr := ⟨0, 0, 0, 0⟩
def aCollCfg : CollCfg := ⟨0, 0, 0, 0, 0, false, 0, 0, 0, 0, 0, 0, 0, 0, 0, 0, 0, [], []⟩
def aEncRec : EncRec := ⟨aOpId, 0, 0, 0, 0⟩
def aEncRun : EncRun := ⟨aEncRec, 0, [], [], [], 0, 0, 0, 0, false, false, 0, false, [], 0, 0, 0, [], [], 0⟩
def aEntryReq : EntryReq := ⟨aOpId, 0, 0, 0, 0, 0⟩
def aFilterOp : FilterOp := ⟨aOpId, 0, 0, 0, none, false, 0, 0⟩
def aFlashPage : FlashPage := ⟨0, 0, 0, 0, 0⟩
def aFlush : Flush := ⟨aOpId, 0, [], []⟩
def aFrame : Frame := ⟨0, 0, 0, 0⟩
def aGradRec : GradRec := ⟨aOpId, 0, 0, 0, 0, 0, []⟩
def aLList : LList := ⟨0, 0, [], [], [], false, 0, 0, none, (0, 0, 0, 0)⟩
def aLink : Link := ⟨0, none, [], 0, none, [], 0, 0, [], 0, 0, (0, 0), 0⟩
def aListPass : ListPass := ⟨0, none, false, none, false, false, none⟩
def aLoadInfo : LoadInfo := ⟨aOpId, 0, 0, 0, 0, false⟩
def aLookup : Lookup := ⟨aOpId, 0, 0, false, 0, 0, [], [], [], 0, 0⟩
def aModelMem : ModelMem := ⟨[], [], 0, 0, 0, 0, 0, 0, 0, false, false, false⟩
def aHostReq : HostReq := ⟨0, 0, false⟩
def aMsg : Msg := ⟨0, 0, 0, 0, 0, 0, 0, (.cmd (.iringTailWrite aHostReq 0 0 0)), false, 0⟩
def aMutOutcome : MutOutcome := ⟨0, 0, 0, 0, 0, 0⟩
def aMutation : Mutation := ⟨aOpId, 0, 0, 0, 0, 0, 0, []⟩
def aNCore : NCore := ⟨[], [], [], [], [], 0, 0, [], none, [], [], [], false, false⟩
def aNodeLine : NodeLine := ⟨.modified, 0, 0, false, []⟩
def aPartial : Partial := ⟨aOpId, 0, [], 0, 0, [], 0⟩
def aPassSrc : PassSrc := ⟨false, false, [], []⟩
def aProfile : Profile := ⟨0, 0, 0, 0, 0, 0⟩
def aPublish : Publish := ⟨aOpId, 0, 0, 0, false, false⟩
def aQuery : Query := ⟨aOpId, 0, 0, 0, 0, 0, 0, false, 0, 0, 0, 0, [], [], aDelivery⟩
def aQWork : QWork := ⟨aQuery, [], none, none, none, [], [], [], false, 0, none⟩
def aRebuild : Rebuild := ⟨0, none, [], 0⟩
def aRerank : Rerank := ⟨0, 0, 0, []⟩
def aSentFlit : SentFlit := ⟨0, 0⟩
def aShard : Shard := ⟨0, 0, 0, 0, [], [], [], none, none, 0, [], [], [], [], [], false, 0, 0, 0, 0⟩
def aShardWork : ShardWork := ⟨0, false, [], [], none, [], none, false⟩
def aSheaf : Sheaf := ⟨[], 0, 0, 0, 0, 0, [], none, 0⟩
def aSheafEntry : SheafEntry := ⟨0, 0, 0, 0, 0⟩
def aStageSlot : StageSlot := ⟨0, 0, 0⟩
def aStageDone : StageDone := ⟨aStageSlot, 0, 0, 0, 0⟩
def aStaged : Staged := ⟨aMutation, [], 0, [], 0, none, false, false⟩
def aStepMsg : StepMsg := ⟨0, 0, 0, 0, 0, 0, 0, false⟩
def aStookEntry : StookEntry := ⟨0, 0, 0, 0⟩
def aSuper : Super := ⟨0, [], [], false⟩
def aSwap : Swap := ⟨0, 0, 0, 0, 0, 0, false⟩
def aTableLoad : TableLoad := ⟨aLoadInfo, [], false, 0⟩

/-- A state with some register fields written. -/
def with_ (s : State) (l : List (Fld × Nat)) : State := l.foldl (fun s f => s.set f.1 f.2) s

/-- A lone member of its network, at its root. -/
def base : State :=
  with_ { State.reset with now := 2000000, ovl := { OvlSt.reset with neighbours := [(0, [])] } }
    [(Reg.STEP_MEMBERS, 1), (Reg.STEP_OPEN, 1), (Reg.GRAN_LEASE, 10)]

/-- A member whose neighbour, node 1, has been silent for long. -/
def quiet : State :=
  with_ { State.reset with now := 2000000, ovl := { OvlSt.reset with neighbours := [(0, [1]), (1, [0])] } }
    [(Reg.STEP_MEMBERS, 3), (Reg.OVL_LINK_STATE 0, 3), (Reg.OVL_LINK_PEER 0, 1), (Reg.STEP_ROLE_ROOT_ID, 2)]

/-- The same member after it has suspected node 1. -/
def quiet2 : State := quiet.setSuspect 1 true

/-- A member that hears none of its neighbours. -/
def cut : State := quiet

/-- A sound step message of step 0. -/
def good : StepMsg := { aStepMsg with crcOk := true }

/-- A member whose root is its neighbour. -/
def child : State :=
  with_ { base with ovl := { OvlSt.reset with neighbours := [(0, [1]), (1, [0])], treeParent := [(0, 1)] } }
    [(Reg.STEP_MEMBERS, 3), (Reg.STEP_ROLE_ROOT_ID, 1), (Reg.OVL_TREE_ROOT 0, 1), (Reg.STEP_OPEN, 2)]

/-- A flit of a kind with a payload of zeros. -/
def flit (kind len : Nat) : List Byte :=
  let b := natLe 6 (kind * 2 ^ 45 + len * 2 ^ 31) ++ List.replicate 246 0
  b ++ natLe 4 (crc32c b).toNat

/-- Its header. -/
def hdr (kind len : Nat) : FlitHdr :=
  { kind := kind, cls := 0, seg := 0, len := len, seq := 0, ack := 0, crcl := 0, credits := 0, payload := List.replicate len 0 }

/-- A flit whose last four bytes are the CRC of the others passes its check. -/
theorem flit_crc (b : List Byte) (h : b.length = 252) : (b ++ natLe 4 (crc32c b).toNat).length = 256 ∧
    crc32c ((b ++ natLe 4 (crc32c b).toNat).take 252) = BitVec.ofNat 32 (leNat (b ++ natLe 4 (crc32c b).toNat) 252 4) := by
  have hx : (crc32c b).toNat < 2 ^ 32 := BitVec.isLt _
  have hv : leNat (b ++ natLe 4 (crc32c b).toNat) 252 4 = (crc32c b).toNat := by
    simp only [leNat, natLe, List.drop_append, h]
    simp [h]
    omega
  refine ⟨by simp [natLe, h], ?_⟩
  rw [hv, List.take_append_of_le_length (by omega), List.take_of_length_le (by omega)]
  simp

/-- Such a flit is read. -/
theorem readFlit_flit (kind len : Nat) (h : (kind, len) ∈ [(0, 0), (1, 1), (2, 0), (3, 0)]) :
    readFlit (flit kind len) = some (hdr kind len) := by
  obtain ⟨h1, h2⟩ := flit_crc (natLe 6 (kind * 2 ^ 45 + len * 2 ^ 31) ++ List.replicate 246 0) (by rw [List.length_append, List.length_replicate]; rfl)
  simp only [List.mem_cons, Prod.mk.injEq, List.not_mem_nil, or_false] at h
  rcases h with ⟨rfl, rfl⟩ | ⟨rfl, rfl⟩ | ⟨rfl, rfl⟩ | ⟨rfl, rfl⟩ <;>
    (unfold readFlit flit; dsimp only; rw [if_pos]
     · exact congrArg some (by decide +kernel)
     · exact ⟨h1, h2, by decide +kernel⟩)

/-- A descriptor of some units, with an operation and fields as offset, bytes and value, and its CRC. -/
def desc (units op : Nat) (l : List (Nat × Nat × Nat)) : List Byte :=
  sealCrc (((0, 1, op) :: (2, 2, units) :: l).foldl (fun b f => spliceAt b f.1 (natLe f.2.1 f.2.2)) (List.replicate (64 * units) 0)) 12

/-- Partition 1 with one host, bound here, and its rings. -/
def hosted : State :=
  with_ State.reset [(Reg.STEP_MEMBERS, 1), (Reg.STEP_OPEN, 1), (Reg.CXP_BIND_PARTITION 0, 1), (Reg.CXP_BIND_IO_OK 0, 1), (Reg.PART_CFG_ENABLE 1, 1),
    (Reg.IRING_CTL_ENABLE 1 0, 1), (Reg.SRING_CTL_ENABLE 1 0, 1), (Reg.CFG_STATUS_STAGE, 6)]

/-- The same partition with a collection. -/
def withColl : State :=
  with_ { hosted with srch := { SearchSt.reset with colls := [(0, { CollInfo.none with loads := [(0, 0, 0, 0)] })] } }
    [(Reg.COLL_DESC_PARTITION 0, 1), (Reg.COLL_DESC_STATE 0, 2), (Reg.COLL_DESC_FILTERS 0, 1), (Reg.COLL_DESC_SHARDS 0, 1),
      (Reg.PART_QUOTA_MAX_INFLIGHT 1, 4)]

/-- The same partition with a staging range of a region. -/
def withRange : State :=
  with_ hosted [(Reg.HOME_RANGE_LENGTH 0, 2 ^ 20), (Reg.HOME_RANGE_PARTITION 0, 1), (Reg.HOME_RANGE_HOST 0, 0xFFFF),
    (Reg.HOME_RANGE_CAN_READ 0, 1), (Reg.HOME_RANGE_CAN_WRITE 0, 1), (Reg.PART_QUOTA_MAX_INFLIGHT 1, 4)]

/-- With its region. -/
def withRegion : State :=
  with_ withRange [(Reg.HOME_RANGE_KIND 0, 1), (Reg.HOME_REGION_STATE 0, 1), (Reg.HOME_REGION_PARTITION 0, 1), (Reg.HOME_REGION_LENGTH 0, 2 ^ 20)]

/-- With a table of one row of one element. -/
def withTable : State :=
  with_ withRange [(Reg.EMB_TABLE_PARTITION 0, 1), (Reg.EMB_TABLE_STATE 0, 2), (Reg.EMB_TABLE_DIM 0, 1)]

/-- With a second one, and an optimiser for the first. -/
def withTables : State :=
  with_ withTable [(Reg.EMB_TABLE_OPT 0, 1), (Reg.EMB_TABLE_TABLE 1, 1), (Reg.EMB_TABLE_PARTITION 1, 1), (Reg.EMB_TABLE_STATE 1, 2), (Reg.EMB_TABLE_DIM 1, 1)]

/-- A sharded table with a row that has moved to node 1. -/
def withMoved : State :=
  { with_ withTables [(Reg.EMB_TABLE_PLACEMENT 0, 1), (Reg.EMB_TABLE_SHARDS 0, 1), (Reg.STEP_MEMBERS, 3)] with
    emb := { EmbSt.reset with nodes := [(0, [0])], dir := [{ table := 0, row := 0, owner := 1, mirror := 1, step := 0 }] } }

/-- With a model. -/
def withModel : State :=
  with_ withRange [(Reg.ENC_MODEL_MODEL_ID 0, 1), (Reg.ENC_MODEL_PARTITION 0, 1), (Reg.ENC_MODEL_STATE 0, 2), (Reg.ENC_CFG_BACKLOG_MAX, 8)]

/-- Its shaper with a fetched descriptor. -/
def served (s : State) (d : List Byte) : State := { s with host := { HostSt.reset with heads := [(16, ⟨d, d.length / 64⟩)] } }

theorem served_of {s : State} {op p n : Nat} {h : Head} {dlv : Delivery} (e : s.pick = some (p, n) ∧ s.head? p n = some h ∧
    isOp op h.data = true ∧ s.headVerdict p n h.data = none ∧ (s.takeHead p n h).2.dlv = some dlv) : Served s op p n h dlv :=
  ⟨e.1, e.2.1, e.2.2.1, e.2.2.2.1, e.2.2.2.2⟩

/-- With a published range. -/
def withPub : State :=
  with_ withTables [(Reg.HOME_RANGE_BASE 1, 2 ^ 20), (Reg.HOME_RANGE_LENGTH 1, 2 ^ 20),
    (Reg.HOME_RANGE_PARTITION 1, 1), (Reg.HOME_RANGE_HOST 1, 0xFFFF), (Reg.HOME_RANGE_CAN_READ 1, 1), (Reg.HOME_RANGE_KIND 1, 2)]

/-- A partition whose host has written a doorbell. -/
def belled : State := with_ hosted [(Reg.IRING_TAIL 1 0, 1)]

/-- A bundle of one slot, of one operation with all its other fields zero. -/
def bundle (i op : Nat) : Nat := 2 ^ 16 + 2 ^ i + op * 2 ^ (if i = 6 then 896 else 64 + 128 * i)

theorem slotReady_of {s : State} {c kind op : Nat} {r : EncRun} {b i : Nat} (e : tfind s.enc.runs (c / 8) = some r ∧
    ((s.core c).halted || (s.core c).atBar || s.coreIso c) = false ∧ (s.modelMem r.r.model).prog[(s.core c).pc]? = some b ∧
    bundleOk b = true ∧ nextSlot b (s.core c).slot = some i ∧ slotKind i = kind ∧ opOf (slotBits b i) = op ∧
    s.slotWaits (s.slotView c r b i) kind = false) : SlotReady s c kind op r b i :=
  ⟨e.1, e.2.1, e.2.2.1, e.2.2.2.1, e.2.2.2.2.1, e.2.2.2.2.2.1, e.2.2.2.2.2.2.1, e.2.2.2.2.2.2.2⟩

/-- The same partition with a counting object. -/
def synced : State := with_ hosted [(Reg.PART_SYNC_SYNC_COUNT 1, 8), (Reg.SYNC_TYPE 0, 1), (Reg.SYNC_ENABLE 0, 1)]

/-- The same partition with shared memory of one exporter, served here. -/
def withMem : State :=
  with_ { withRange with home := { HomeSt.reset with exports := [0] },
                         host := { HostSt.reset with ctx := [(0, { HostCtx.fresh with hdmShared := some 0 })] } }
    [(Reg.CXP_BIND_MEM_OK 0, 1), (Reg.HOME_MODE_SERVING, 1), (Reg.HOME_MODE_SWAP_ONLY, 0), (Reg.HOME_CFG_EXPORTERS, 1), (Reg.HOME_CFG_SHARE_64G, 1)]

/-- Appending a record that carries no model keeps the node's number. -/
theorem me_takeAppend (s : State) (r : List Byte) (h : amKind r ≠ 2) : (s.takeAppend r).me = s.me := by
  unfold State.takeAppend State.me
  dsimp only
  split
  · rfl
  · rw [if_neg (fun x => h x.1), State.modCfg_get, State.get_set_ne (f := Reg.CFG_HEAD_DIGEST) (g := Reg.STEP_ROLE_NODE_ID) _ _ (by decide),
      State.get_set_ne (f := Reg.CFG_HEAD) (g := Reg.STEP_ROLE_NODE_ID) _ _ (by decide)]

/-- With no register of the region table written, no line is a region's descriptor. -/
theorem noDescLine_of (s : State) (lo hi : Nat) (h : s.regs.all (fun e => decide (e.1 < 8 * 0x1650000 ∨ 8 * 0x1670000 ≤ e.1)) = true) :
    s.noDescLine lo hi = true := by
  have hf : ∀ (t : Tab Nat) (k : Nat), t.all (fun e => decide (e.1 < 8 * 0x1650000 ∨ 8 * 0x1670000 ≤ e.1)) = true →
      8 * 0x1650000 ≤ k → k < 8 * 0x1670000 → tfind t k = none := by
    intro t k ht hk hl
    induction t with
    | nil => rfl
    | cons e t ih =>
      simp only [List.all_cons, Bool.and_eq_true, decide_eq_true_eq] at ht
      simp only [tfind]
      rw [if_neg (by omega)]
      exact ih ht.2
  unfold State.noDescLine
  refine List.all_eq_true.mpr fun i hi => ?_
  have hi : i < 4096 := List.mem_range.mp hi
  have : s.get (Reg.HOME_REGION_PARTITION i) = 0 := by
    unfold State.get tget
    rw [hf _ _ h (by simp only [Reg.HOME_REGION_PARTITION]; omega) (by simp only [Reg.HOME_REGION_PARTITION]; omega)]
    rfl
  simp [this]

/-- A record of a kind and signer, with a body and a signature of zeros. -/
def record1 (kind signer part : Nat) (b : List Byte) : List Byte :=
  natLe 2 kind ++ natLe 1 signer ++ natLe 1 part ++ natLe 4 (104 + b.length) ++ natLe 8 2000 ++ List.replicate 16 0 ++ natLe 8 0xFFFF ++ b ++
    List.replicate 64 0

/-- A root that holds keys and has room in its logs. -/
def judging : State :=
  with_ { State.reset with cfg := { CfgSt.reset with ownerKey := [0], safetyKey := [0], partKeys := [(1, [0])], logLen := (4096, 4096) } }
    [(Reg.STEP_ROLE_IS_ROOT, 1), (Reg.PART_CFG_ENABLE 1, 1), (Reg.PART_QUOTA_MAX_MODELS 1, 1), (Reg.HOME_CFG_EXPORTERS, 1)]

/-- A write of STEP_MEMB_CFG, a load of a model, a training of link 0 and a clearing of tallies. -/
def writeRec : List Byte := record1 1 0 0 (natLe 4 0x100024 ++ natLe 4 4 ++ natLe 8 125000)
def loadRec : List Byte := record1 2 2 1 (natLe 4 1 ++ natLe 124 (1 + 256 ^ 7) ++ List.replicate 56 0)
def trainRec : List Byte := record1 4 0 0 (List.replicate 8 0)
def clearRec : List Byte := record1 5 1 0 (List.replicate 8 0)

theorem judge_write (h : judging.signedBy writeRec = true) : judging.judge 1 writeRec = none := by
  unfold State.judge; dsimp only
  rw [h, if_neg (by decide +kernel), if_neg (by decide), if_neg (by decide +kernel),
    if_neg (by decide +kernel), if_neg (by decide +kernel), if_neg (by decide +kernel), if_neg (by decide +kernel),
    if_neg (by decide +kernel), if_neg (by decide +kernel), if_neg (by decide +kernel), if_neg (by decide +kernel)]

theorem judge_load (h : judging.signedBy loadRec = true) : judging.judge 2 loadRec = none := by
  unfold State.judge; dsimp only
  rw [h, if_neg (by decide +kernel), if_neg (by decide), if_neg (by decide +kernel),
    if_neg (by decide +kernel), if_neg (by decide +kernel), if_neg (by decide +kernel), if_neg (by decide +kernel),
    if_neg (by decide +kernel), if_neg (by decide +kernel), if_neg (by decide +kernel), if_neg (by decide +kernel)]

theorem judge_train (h : judging.signedBy trainRec = true) (g : Config.linkBody (amBody trainRec) < 8) : judging.judge 4 trainRec = none := by
  unfold State.judge; dsimp only
  rw [h, if_neg (by decide +kernel), if_neg (by decide), if_neg (by decide +kernel),
    if_neg (by decide +kernel), if_neg (by decide +kernel), if_neg (by decide +kernel), if_neg (by decide +kernel),
    if_neg (by decide +kernel), if_neg (by rw [show namesOk trainRec = true from decide_eq_true g]; decide +kernel), if_neg (by decide +kernel), if_neg (by decide +kernel)]

theorem judge_clear (h : judging.signedBy clearRec = true) (g : (Config.tallyBody (amBody clearRec)).all (fun i => decide (i < ntallyNames.length)) = true) : judging.judge 5 clearRec = none := by
  unfold State.judge; dsimp only
  rw [h, if_neg (by decide +kernel), if_neg (by decide), if_neg (by decide +kernel),
    if_neg (by decide +kernel), if_neg (by decide +kernel), if_neg (by decide +kernel), if_neg (by decide +kernel),
    if_neg (by decide +kernel), if_neg (by rw [show namesOk clearRec = true from g]; decide +kernel), if_neg (by decide +kernel), if_neg (by decide +kernel)]


/-! ### Worked values of the spec -/

/-- The addresses of partition 12's pages (22_address_map.md). -/
theorem test_page_addresses : (Reg.IRING_TAIL 12 3).bit = 8 * 0x004B106C ∧ (Reg.SHAPE_ADM_RATE 12).bit / 256 = 0x00301160 / 32 ∧
    (Reg.COLL_DESC_PARTITION 0x44).bit / 1024 = 0x01082200 / 128 := by decide +kernel

/-- One address in both views (R158). -/
theorem test_bank_view : toBankView (2 ^ 36) 0x12345678 = 0xA41009178 ∧ fromBankView (2 ^ 36) 0xA41009178 = 0x12345678 := by
  decide +kernel

/-- One address in both windows (R296, R298): granule 21 of 16 exporters has its home at place 14 of the list. -/
theorem test_home_place :
    (with_ State.reset [(Reg.HOME_CFG_EXPORTERS, 16)]).homePos (0x151C0 / 4096) = 14 := by decide +kernel

/-- A query of 13 units costs 896 bytes under OVERHEAD 64 (R375), and eleven of them take a credit of 8,960 bytes to −896. -/
theorem test_admission_cost : let s := with_ State.reset [(Reg.SHAPE_ADM_RATE 12, 184), (Reg.SHAPE_ADM_OVERHEAD 12, 64)]
    s.cost 12 13 = 896 ∧ (((List.range 11).foldl (fun s _ => s.chargeAdm 12 896) (s.setI (Reg.SHAPE_ADM_CREDIT 12) 2293760)).getI
      (Reg.SHAPE_ADM_CREDIT 12)) = -229376 := by decide +kernel

/-- QPAR of the pair (−3.0, 5.5) under the bounds −4.0 and 4.0 (R254): scale 0x3CE0E0E1 and z = −19. -/
theorem test_qpar : qpar (0xC0400000 + 0x40B00000 * 2 ^ 32) (0xC0800000 + 0x40800000 * 2 ^ 32) 0 = 0x3CE0E0E1 + (256 - 19) * 2 ^ 32 := by
  decide +kernel

/-- The three rows' owners (R276), the bag's result (R279) and the two gradients (R283). -/
theorem test_look_up : [1207, 88410, 5003117].map (shardOf 16) = [7, 2, 10] ∧ pooledValue 294914 0x3F000000 (-16) = 0x40100040 ∧
    gradFix 32 0x3F400000 = some (3221225472, false) ∧ gradFix 32 0xBE800000 = some (-1073741824, false) := by decide +kernel

/-- The momentum step of the same row (R286). -/
theorem test_momentum : (with_ State.reset [(Reg.EMB_TABLE_OPT 0, 1), (Reg.EMB_TABLE_MU 0, 58982), (Reg.EMB_TABLE_LR 0, 167772),
    (Reg.EMB_TABLE_LR_SHIFT 0, 40)]).applyElem 0 98304 1073741824 2147483648 = (97829, 3113844736, false, false) := by decide +kernel

/-! ### Well-formed commands -/

/-- Each check refuses the first value past its range. -/
theorem test_wellFormed_refuses :
    wellFormed (.getVersion ⟨4096, 0, false⟩) = false ∧ wellFormed (.getVersion ⟨0, 2, false⟩) = false ∧
    wellFormed (.pageIn ⟨0, 0, false⟩ 0 0) = false ∧ wellFormed (.pageIn ⟨0, 0, false⟩ 65 0) = false ∧
    wellFormed (.pageIn ⟨0, 0, false⟩ 1 (2 ^ 32)) = false ∧ wellFormed (.iringTailWrite ⟨0, 0, false⟩ 1 16 0) = false ∧
    wellFormed (.iringTailWrite ⟨0, 0, false⟩ 1 0 (2 ^ 64)) = false ∧ wellFormed (.descriptorFetch 1 0 []) = false ∧
    wellFormed (.descriptorFetch 1 0 [0]) = false ∧ wellFormed (.syncCtlWrite ⟨0, 0, false⟩ 131072 0) = false ∧
    wellFormed (.tallyClearWrite ⟨0, 0, false⟩ 1 65536 0) = false ∧
    wellFormed (.bisnpResponse 4096 0 none) = false ∧
    wellFormed (.bisnpResponse 0 (2 ^ 58) none) = false ∧ wellFormed (.cxlLinkDown 2) = false ∧ wellFormed (.cxlLinkUp 0 256 0 0) = false ∧
    wellFormed (.stepClose { good with sender := 4096 } 0) = false ∧ wellFormed (.stepClose { good with epoch := 2 ^ 32 } 0) = false ∧
    wellFormed (.stepClose good 4096) = false ∧ wellFormed (.release ⟨2 ^ 64, 0, 0⟩ 0 0) = false ∧
    wellFormed (.notice ⟨0, 0, 0⟩ 11 0) = false ∧ wellFormed (.bulkRecordRead 4096 0 0 0) = false ∧
    wellFormed (.filterBits 0 0 0 16 0) = false ∧ wellFormed (.weights 256 0 true) = false ∧ wellFormed (.e2eAck 0 11 0 0) = false ∧
    wellFormed (.e2eAck 0 0 4 0) = false ∧ wellFormed (.flitData 8 (flit 0 0) none) = false ∧ wellFormed (.flitData 0 [] none) = false ∧
    wellFormed (.loftFillDone 0 2 0) = false ∧ wellFormed (.li 64) = false ∧ wellFormed (.channelFail 512 .via) = false ∧
    wellFormed (.hotBandExit 8) = false ∧ wellFormed (.viaRemap 0 256) = false ∧ wellFormed (.imageVerifyDone 2 .noDevice) = false ∧
    wellFormed (.granuleFillDone (2 ^ 52) []) = false ∧ wellFormed (.spanZeroingDone 4096) = false ∧
    wellFormed (.amendWrite [] ⟨0, 1, 8⟩) = false ∧ lineData (2 ^ 256 * 2 ^ 256) = false := by decide +kernel

/-- And takes the last value in it. -/
theorem test_wellFormed_takes :
    wellFormed (.pageIn ⟨4095, 1, false⟩ 64 (2 ^ 32 - 1)) = true ∧ wellFormed (.iringTailWrite ⟨0, 0, true⟩ 1 15 (2 ^ 64 - 1)) = true ∧
    wellFormed (.descriptorFetch 1 0 (List.replicate 64 0)) = true ∧ wellFormed (.trap 63) = true ∧ wellFormed (.hotBandExit 7) = true := by
  decide

/-! ### Hypotheses that are met -/

/-- A node whose core 0 is about to run slot i of a bundle of one slot, of a cluster with a record. -/
def slotState (i w : Nat) : State :=
  { State.reset with enc := { EncSt.reset with runs := [(0, aEncRun)], cores := [(0, aNCore)],
                                               models := [(0, { aModelMem with prog := [bundle i w] })] } }

/-- Every operation of a slot (R240 to R253): the slot, its kind, and its operation with, for QDQ, TYPE 2. -/
def slotList : List (Nat × Nat × Nat) :=
  (List.range 23).map (fun o => (0, 0, o + 1)) ++ (List.range 20).map (fun o => (2, 1, o + 1)) ++ [(2, 1, 0x15 + 2 * 2 ^ 8)] ++
    (List.range 3).map (fun o => (3, 2, o + 1)) ++ (List.range 14).map (fun o => (4, 3, o + 1)) ++ (List.range 8).map (fun o => (6, 4, o))

/-- What the five slot statements of scalar, vector and stream slots and CoherenceRequestsRun ask for: a running node holds no
request, and each operation of a slot has a core that is about to run it. -/
theorem witness_slots : Takes State.reset ∧ ∀ x ∈ slotList, Runs (slotState x.1 x.2.2) ∧
    ∃ r : EncRun, SlotReady (slotState x.1 x.2.2) 0 x.2.1 (x.2.2 % 256) r (bundle x.1 x.2.2) x.1 := by
  have e : ∀ x ∈ slotList, Runs (slotState x.1 x.2.2) ∧ (tfind (slotState x.1 x.2.2).enc.runs (0 / 8) = some aEncRun ∧
      (((slotState x.1 x.2.2).core 0).halted || ((slotState x.1 x.2.2).core 0).atBar || (slotState x.1 x.2.2).coreIso 0) = false ∧
      ((slotState x.1 x.2.2).modelMem aEncRun.r.model).prog[((slotState x.1 x.2.2).core 0).pc]? = some (bundle x.1 x.2.2) ∧
      bundleOk (bundle x.1 x.2.2) = true ∧ nextSlot (bundle x.1 x.2.2) ((slotState x.1 x.2.2).core 0).slot = some x.1 ∧
      slotKind x.1 = x.2.1 ∧ opOf (slotBits (bundle x.1 x.2.2) x.1) = x.2.2 % 256 ∧
      (slotState x.1 x.2.2).slotWaits ((slotState x.1 x.2.2).slotView 0 aEncRun (bundle x.1 x.2.2) x.1) x.2.1 = false) := by
    decide +kernel
  exact ⟨by decide, fun x hx => ⟨(e x hx).1, aEncRun, slotReady_of (e x hx).2⟩⟩

/-- What each clause of StepAgreementRuns asks for can be met. -/
theorem witness_StepAgreementRuns :
    (∃ (m : StepMsg) (s : State), Runs s ∧ s.stepBad m = false ∧ s.isMember s.me = true ∧ s.openStep ≤ m.step) ∧
    (∃ (s : State), Runs s ∧ s.actsRoot = true ∧ s.openStep = s.get Reg.STEP_COMMITTED + 1 ∧ s.stp.closeTick + s.get
      Reg.STEP_WINDOW ≤ s.now) ∧
    (∃ (v u s : State) (p t : Nat), Runs s ∧ u = s.checkHolds ∧ t = u.get Reg.STEP_COMMITTED + 1 ∧ u.stepParent = some p ∧
      u.actsRoot = false ∧ u.isMember u.me = true ∧ u.stepDone t = true ∧ u.flag Reg.STEP_STATUS_SELF_ISOLATED = false ∧ (¬
      (u.stp.doneSent = t ∧ u.stp.doneTo = some p)) ∧ v = u.modStp (fun k =>
      { k with doneSent := t, doneTo := some p, doneTick := u.now })) ∧
    (∃ (m : StepMsg) (s : State), Runs s ∧ s.stepBad m = false ∧ s.get Reg.STEP_COMMITTED < m.step) ∧
    (∃ (s : State), Runs s ∧ s.stp.doneSent = s.get Reg.STEP_COMMITTED + 1 ∧ s.stp.doneTo.isSome = true ∧ s.stp.doneTick +
      tAGR < s.now) ∧
    (∃ (m : StepMsg) (s : State), Runs s ∧ s.stepBad m = false ∧ s.isMember s.me = true ∧ m.step = s.get Reg.STEP_COMMITTED +
      1 ∧ (¬ (m.flags % 2 = 1 ∧ m.subject = s.me))) ∧
    (∃ (u s : State) (m : StepMsg) (t : Nat), Runs s ∧ u = s.checkHolds ∧ t = u.get Reg.STEP_COMMITTED + 1 ∧ u.actsRoot =
      true ∧ u.stepDone t = true ∧ m = u.commitMsg t) :=
  ⟨⟨{ good with step := 1 }, base, by decide +kernel⟩,
   ⟨base, by decide +kernel⟩,
   ⟨_, _, child, 1, _, by decide +kernel, rfl, rfl, by decide +kernel, by decide +kernel, by decide +kernel,
     by decide +kernel, by decide +kernel, by decide +kernel, rfl⟩,
   ⟨{ good with step := 1 }, State.reset, by decide +kernel⟩,
   ⟨{ State.reset with now := 2000000, stp := { StepSt.reset with doneSent := 1, doneTo := some 1 } }, by decide +kernel⟩,
   ⟨{ good with step := 1 }, base, by decide +kernel⟩,
   ⟨_, with_ base [(Reg.STEP_OPEN, 2)], _, _, by decide +kernel, rfl, rfl, by decide +kernel, by decide +kernel, rfl⟩⟩

/-- What each clause of SilenceAndSuspicionRuns asks for can be met. -/
theorem witness_SilenceAndSuspicionRuns :
    (∃ (u s : State), Runs s ∧ s.stp.hbTick + tHB ≤ s.now ∧ u = { s with stp := { s.stp with hbTick := s.now } }) ∧
    (∃ (y : Nat) (u s : State), Runs s ∧ s.suspected y = false ∧ s.linksTo y ≠ [] ∧ tSUS ≤ s.silence y ∧ u = (s.setSuspect y
      true).tallyN .MEMB_SUSPECTS ∧ u.coordinator y = some u.me) ∧
    (∃ (y : Nat) (u s : State) (c : _), Runs s ∧ s.suspected y = false ∧ s.linksTo y ≠ [] ∧ tSUS ≤ s.silence y ∧ u =
      (s.setSuspect y true).tallyN .MEMB_SUSPECTS ∧ u.coordinator y = some c ∧ c ≠ u.me) ∧
    (∃ (m : StepMsg) (s : State), Runs s ∧ s.stepBad m = false) ∧
    (∃ (m : StepMsg) (s : State), Runs s ∧ s.stepBad m = false ∧ s.coordinator m.subject = some s.me) ∧
    (∃ (y : Nat) (u s : State), Runs s ∧ s.mayExclude y = true ∧ y ≠ s.get Reg.STEP_ROLE_ROOT_ID ∧ u =
      { s with stp := { s.stp with excludeSent := y :: s.stp.excludeSent } }) ∧
    (∃ (y : Nat) (u s : State), Runs s ∧ s.mayAbandon y = true ∧ u = (s.tallyN .MEMB_NO_QUORUM).sendEach 0 0 0 32 (.clear
      (s.stepMsg s.openStep y 0 0) s.me) ((s.stp.suspects.filter (fun x => decide (x.subject = y))).map (·.by_))) ∧
    (∃ (s : State), Runs s ∧ s.isMember s.me = true ∧ s.cutOff = true ∧ tget [] s.ovl.neighbours s.me ≠ []) ∧
    (∃ (s : State) (t : Nat), Runs s ∧ s.stp.joinTick = some t ∧ t + tSUS ≤ s.now ∧ s.flag Reg.STEP_STATUS_RECOVERING = true)
      :=
  ⟨⟨_, { State.reset with now := 2000000 }, by decide +kernel, by decide +kernel, rfl⟩,
   ⟨1, _, quiet, by decide +kernel, by decide +kernel, by decide +kernel, by decide +kernel, rfl, by decide +kernel⟩,
   ⟨1, _, { quiet with regs := (with_ quiet [(Reg.STEP_ROLE_NODE_ID, 2), (Reg.STEP_MEMBERS, 7)]).regs, ovl := { quiet.ovl with neighbours := [(1, [0, 2])] } },
     0, by decide +kernel, by decide +kernel, by decide +kernel, by decide +kernel, rfl, by decide +kernel⟩,
   ⟨good, State.reset, by decide +kernel⟩,
   ⟨{ good with subject := 1 }, quiet, by decide +kernel⟩,
   ⟨1, _, quiet2, by decide +kernel, by decide +kernel, by decide +kernel, rfl⟩,
   ⟨1, _, quiet2, by decide +kernel, by decide +kernel, rfl⟩,
   ⟨cut, by decide +kernel⟩,
   ⟨with_ { State.reset with now := 2000000, stp := { StepSt.reset with joinTick := some 0 } } [(Reg.STEP_STATUS_RECOVERING,
     1)], 0, by decide +kernel⟩⟩

/-- What each clause of MembershipChangesRun asks for can be met. -/
theorem witness_MembershipChangesRun :
    (∃ (m : StepMsg) (u s : State), Runs s ∧ s.stepBad m = false ∧ s.isMember m.subject = true ∧ m.subject ≠ s.me ∧
      s.stp.excludes.contains m.subject = false ∧ m.subject ≠ s.get Reg.STEP_ROLE_ROOT_ID ∧ u = s.awaitNothing m.subject ∧
      u.actsRoot = false) ∧
    (∃ (m : StepMsg) (src : Nat) (u s : State), Runs s ∧ s.stepBad m = false ∧ u = (((s.linksTo src).foldl (fun t l =>
      t.setLink l { t.link l with heard := t.now }) s).heardFrom src).learnEpoch m.epoch ∧ u.flag Reg.STEP_STATUS_RECOVERING
      = false) ∧
    (∃ (m : StepMsg) (src : Nat) (u s : State), Runs s ∧ s.stepBad m = false ∧ u = (((s.linksTo src).foldl (fun t l =>
      t.setLink l { t.link l with heard := t.now }) s).heardFrom src).learnEpoch m.epoch ∧ u.flag Reg.STEP_STATUS_RECOVERING
      = true) ∧
    (∃ (m : StepMsg) (u s : State), Runs s ∧ m.crcOk = true ∧ s.get Reg.STEP_EPOCH = 0 ∧ u =
      { s with stp := { s.stp with asked := (m.subject, m.step) :: s.stp.asked.filter (fun a => decide (a.1 ≠ m.subject)), formTick := some (s.stp.formTick.getD s.now) } }
      ∧ u.mayForm false = false) ∧
    (∃ (m : StepMsg) (u s : State), Runs s ∧ m.crcOk = true ∧ s.get Reg.STEP_EPOCH = 0 ∧ u =
      { s with stp := { s.stp with asked := (m.subject, m.step) :: s.stp.asked.filter (fun a => decide (a.1 ≠ m.subject)), formTick := some (s.stp.formTick.getD s.now) } }
      ∧ u.mayForm false = true) ∧
    (∃ (m : StepMsg) (s : State), Runs s ∧ m.crcOk = true ∧ s.get Reg.STEP_EPOCH ≠ 0 ∧ s.flag Reg.STEP_ROLE_IS_ROOT = true ∧
      s.isMember m.subject = false ∧ s.stp.joins.any (fun j => decide (j.1 = m.subject)) = false) ∧
    (∃ (s : State) (t : Nat), Runs s ∧ s.stp.formTick = some t ∧ t + second * s.get Reg.CFG_AMEND_CFG_FORM_WAIT_S ≤ s.now ∧
      s.mayForm true = true) ∧
    (∃ (m : StepMsg) (u s : State), Runs s ∧ s.stepBad m = false ∧ s.get Reg.STEP_EPOCH ≠ 0 ∧ m.epoch ≠ 1 ∧
      s.stp.joins.contains (m.subject, m.step) = false ∧ s.isMember s.me = true ∧ u =
      { s with stp := { s.stp with joins := (m.subject, m.step) :: s.stp.joins } }) :=
  ⟨⟨{ good with subject := 1 }, _, quiet, by decide +kernel, by decide +kernel, by decide +kernel, by decide +kernel,
    by decide +kernel, by decide +kernel, rfl, by decide +kernel⟩,
   ⟨{ good with subject := 1 }, 0, _, State.reset, by decide +kernel, by decide +kernel, rfl, by decide +kernel⟩,
   ⟨{ good with subject := 1 }, 0, _, with_ State.reset [(Reg.STEP_STATUS_RECOVERING, 1)], by decide +kernel,
     by decide +kernel, rfl, by decide +kernel⟩,
   ⟨good, _, with_ State.reset [(Reg.STEP_ROOTS_CAND0, 1)], by decide +kernel, by decide +kernel, by decide +kernel, rfl,
     by decide +kernel⟩,
   ⟨good, _, State.reset, by decide +kernel, by decide +kernel, by decide +kernel, rfl, by decide +kernel⟩,
   ⟨{ good with subject := 1 }, with_ base [(Reg.STEP_EPOCH, 1), (Reg.STEP_ROLE_IS_ROOT, 1)], by decide +kernel⟩,
   ⟨{ State.reset with now := 2 ^ 40, stp := { StepSt.reset with formTick := some 0, asked := [(0, 0)] } }, 0,
     by decide +kernel⟩,
   ⟨{ good with epoch := 2, subject := 1 }, _, with_ base [(Reg.STEP_EPOCH, 2)], by decide +kernel, by decide +kernel,
     by decide +kernel, by decide +kernel, by decide +kernel, by decide +kernel, rfl⟩⟩

/-- What each clause of FlitReceptionRuns asks for can be met. -/
theorem witness_FlitReceptionRuns :
    (∃ (l n : Nat) (raw : List Byte) (h : FlitHdr) (u s : State), Runs s ∧ l < 8 ∧ 3 ≤ s.get (Reg.OVL_LINK_STATE l) ∧ s.get
      (Reg.OVL_LINK_STATE l) ≠ 5 ∧ readFlit raw = some h ∧ u = (s.stick (Reg.OVL_LINK_FEC_CORRECTED l) n).tallyN
      .OVL_FEC_CORRECTED n ∧ u.get (Reg.OVL_LINK_STATE l) ≠ 2 ∧ h.kind = 1) ∧
    (∃ (l n : Nat) (raw : List Byte) (h : FlitHdr) (u s : State), Runs s ∧ l < 8 ∧ 3 ≤ s.get (Reg.OVL_LINK_STATE l) ∧ s.get
      (Reg.OVL_LINK_STATE l) ≠ 5 ∧ readFlit raw = some h ∧ u = (s.stick (Reg.OVL_LINK_FEC_CORRECTED l) n).tallyN
      .OVL_FEC_CORRECTED n ∧ u.get (Reg.OVL_LINK_STATE l) ≠ 2 ∧ h.kind = 2) ∧
    (∃ (l n : Nat) (raw : List Byte) (h : FlitHdr) (u s : State), Runs s ∧ l < 8 ∧ 3 ≤ s.get (Reg.OVL_LINK_STATE l) ∧ s.get
      (Reg.OVL_LINK_STATE l) ≠ 5 ∧ readFlit raw = some h ∧ u = (s.stick (Reg.OVL_LINK_FEC_CORRECTED l) n).tallyN
      .OVL_FEC_CORRECTED n ∧ u.get (Reg.OVL_LINK_STATE l) ≠ 2 ∧ h.kind = 0) ∧
    (∃ (l n : Nat) (raw rec_ : List Byte) (h : FlitHdr) (u s : State), Runs s ∧ l < 8 ∧ s.get (Reg.OVL_LINK_STATE l) = 2 ∧
      readFlit raw = some h ∧ h.kind = 3 ∧ rec_ = raw.drop 6 ∧ u = (s.stick (Reg.OVL_LINK_FEC_CORRECTED l) n).tallyN
      .OVL_FEC_CORRECTED n ∧ u.get (Reg.OVL_LINK_STATE l) = 2 ∧ tfind u.ovl.expected l = some (leNat rec_ 0 2 % 4096, leNat
      rec_ 2 1) ∧ leNat rec_ 8 8 = u.get Reg.OVL_TOPO_DIGEST) ∧
    (∃ (l n : Nat) (raw rec_ : List Byte) (h : FlitHdr) (u s : State), Runs s ∧ l < 8 ∧ s.get (Reg.OVL_LINK_STATE l) = 2 ∧
      readFlit raw = some h ∧ h.kind = 3 ∧ rec_ = raw.drop 6 ∧ u = (s.stick (Reg.OVL_LINK_FEC_CORRECTED l) n).tallyN
      .OVL_FEC_CORRECTED n ∧ u.get (Reg.OVL_LINK_STATE l) = 2 ∧ leNat rec_ 8 8 ≠ u.get Reg.OVL_TOPO_DIGEST) :=
  ⟨⟨0, 0, flit 1 1, hdr 1 1, _, with_ State.reset [(Reg.OVL_LINK_STATE 0, 3)], by decide +kernel, by decide +kernel,
    by decide +kernel, by decide +kernel, readFlit_flit 1 1 (by decide), rfl, by decide +kernel⟩,
   ⟨0, 0, flit 2 0, hdr 2 0, _, with_ State.reset [(Reg.OVL_LINK_STATE 0, 3)], by decide +kernel, by decide +kernel,
     by decide +kernel, by decide +kernel, readFlit_flit 2 0 (by decide), rfl, by decide +kernel⟩,
   ⟨0, 0, flit 0 0, hdr 0 0, _, with_ State.reset [(Reg.OVL_LINK_STATE 0, 3)], by decide +kernel, by decide +kernel,
     by decide +kernel, by decide +kernel, readFlit_flit 0 0 (by decide), rfl, by decide +kernel⟩,
   ⟨0, 0, flit 3 0, _, hdr 3 0, _, with_ { State.reset with ovl := { OvlSt.reset with expected := [(0, (0, 0))] } }
     [(Reg.OVL_LINK_STATE 0, 2)], by decide +kernel, by decide +kernel, by decide +kernel, readFlit_flit 3 0 (by decide),
     by decide +kernel, rfl, rfl, by decide +kernel⟩,
   ⟨0, 0, flit 3 0, _, hdr 3 0, _, with_ State.reset [(Reg.OVL_LINK_STATE 0, 2), (Reg.OVL_TOPO_DIGEST, 1)],
     by decide +kernel, by decide +kernel, by decide +kernel, readFlit_flit 3 0 (by decide), by decide +kernel, rfl, rfl,
     by decide +kernel⟩⟩

/-- What each clause of LinkTimersRun asks for can be met. -/
theorem witness_LinkTimersRun :
    (∃ (l : Nat) (s t : State), Runs s ∧ l < 8 ∧ s.get (Reg.OVL_LINK_STATE l) = 1 ∧ t = (s.set (Reg.OVL_LINK_STATE l) 2).set
      (Reg.OVL_LINK_WIDTH l) 4) ∧
    (∃ (l : Nat) (s t : State), Runs s ∧ l < 8 ∧ s.get (Reg.OVL_LINK_STATE l) = 1 ∧ t = (((s.set (Reg.OVL_LINK_STATE l)
      2).set (Reg.OVL_LINK_WIDTH l) 2).setB Reg.OVL_STATUS_DEGRADE_EVT true).faultEvent) ∧
    (∃ (l : Nat) (s : State) (n : _), Runs s ∧ l < 8 ∧ s.get (Reg.OVL_LINK_STATE l) = 1 ∧ n ≠ 4 ∧ n ≠ 2) ∧
    (∃ (l : Nat) (f : SentFlit) (fs : List SentFlit) (s : State), Runs s ∧ (s.link l).replay = f :: fs ∧ s.linkUp l = true ∧
      (s.link l).ackTick + tACK ≤ s.now) ∧
    (∃ (l before : Nat) (s : State), Runs s ∧ s.linkUp l = true ∧ s.mustRetrain l = true ∧ before = (if s.now < (s.link
      l).retrainEnd + cleanRun then (s.link l).retrains else 0) ∧ s.get Reg.OVL_CFG_RETRAIN_MAX ≤ before) ∧
    (∃ (l before : Nat) (s : State), Runs s ∧ s.linkUp l = true ∧ s.mustRetrain l = true ∧ before = (if s.now < (s.link
      l).retrainEnd + cleanRun then (s.link l).retrains else 0) ∧ before < s.get Reg.OVL_CFG_RETRAIN_MAX) ∧
    (∃ (l : Nat) (s : State), Runs s ∧ s.get (Reg.OVL_LINK_STATE l) = 4) ∧
    (∃ (l : Nat) (s : State), Runs s ∧ l < 8 ∧ (s.get (Reg.OVL_LINK_STATE l) = 3 ∨ s.get (Reg.OVL_LINK_STATE l) = 7)) ∧
    (∃ (src cls route seq : Nat) (m : Msg) (s : State), Runs s ∧ (s.ovl.msgs.find? (fun m => decide (m.dst = src ∧ m.cls =
      cls ∧ m.route = route ∧ m.seq = seq ∧ m.seq ≠ 0)) = some m)) ∧
    (∃ (src cls route seq : Nat) (hit : Msg → Bool) (merge : Msg → Option OpId) (s : State), Runs s ∧ (hit = (fun m => decide
      (m.dst = src ∧ m.cls = cls ∧ m.route = route ∧ m.seq ≠ 0 ∧ m.seq ≤ seq) && !m.acked)) ∧ merge =
      (fun m => match m.cargo with | .cmd (.transit id _ sh _ _) => (if sh.rerun.isNone then some id else none) | _ => none))
      ∧
    (∃ (key t n : Nat) (u s : State), Runs s ∧ s.ovl.ackDue = [(key, t)] ∧ t + 50 ≤ s.now ∧ n = s.ackable key ∧ n ≠ 0 ∧ u =
      s.modOvl (fun o => { o with ackDue := if n = tget 0 o.rxSeq key then tdel o.ackDue key else tput o.ackDue key s.now }))
      :=
  ⟨⟨0, with_ State.reset [(Reg.OVL_LINK_STATE 0, 1)], _, by decide +kernel, by decide +kernel, by decide +kernel, rfl⟩,
   ⟨0, with_ State.reset [(Reg.OVL_LINK_STATE 0, 1)], _, by decide +kernel, by decide +kernel, by decide +kernel, rfl⟩,
   ⟨0, with_ State.reset [(Reg.OVL_LINK_STATE 0, 1)], 1, by decide +kernel⟩,
   ⟨0, aSentFlit, [], with_
     { State.reset with now := 2000000, ovl := { OvlSt.reset with links := [(0, { aLink with replay := [aSentFlit] })] } }
     [(Reg.OVL_LINK_STATE 0, 3)], by decide +kernel⟩,
   ⟨0, _, with_ { State.reset with now := 2000000, ovl := { OvlSt.reset with links := [(0, { aLink with retrains := 100, replayed := some (0, 8), retrainEnd := 2000000 })] } }
     [(Reg.OVL_LINK_STATE 0, 3)], by decide +kernel, by decide +kernel, by decide +kernel, rfl, by decide +kernel⟩,
   ⟨0, _, with_ { State.reset with now := 2000000, ovl := { OvlSt.reset with links := [(0, { aLink with replayed := some (0, 8) })] } }
     [(Reg.OVL_LINK_STATE 0, 3)], by decide +kernel, by decide +kernel, by decide +kernel, rfl, by decide +kernel⟩,
   ⟨0, with_ State.reset [(Reg.OVL_LINK_STATE 0, 4)], by decide +kernel⟩,
   ⟨0, with_ State.reset [(Reg.OVL_LINK_STATE 0, 7)], by decide +kernel⟩,
   ⟨0, 0, 0, 1, { aMsg with seq := 1 }, { State.reset with ovl := { OvlSt.reset with msgs := [{ aMsg with seq := 1 }] } },
     by decide +kernel⟩,
   ⟨0, 0, 0, 0, _, _, State.reset, by decide +kernel, rfl, rfl⟩,
   ⟨0, 0, 1, _, { State.reset with now := 50, ovl := { OvlSt.reset with ackDue := [(0, 0)], rxSeq := [(0, 1)] } },
     by decide +kernel, by decide +kernel, by decide +kernel, by decide +kernel, by decide +kernel, rfl⟩⟩

/-- What each clause of DescriptorRingsRun asks for can be met. -/
theorem witness_DescriptorRingsRun :
    (∃ (h : HostReq) (p n value : Nat) (s : State), Takes s ∧ Bound s h p ∧ n < 16 ∧ value < 2 ^ 17 ∧ doorbellOk (s.iringSize
      p n) (s.get (Reg.IRING_HEAD p n)) (s.get (Reg.IRING_TAIL p n)) value = true) ∧
    (∃ (h : HostReq) (p n value : Nat) (s : State), Takes s ∧ Bound s h p ∧ n < 16 ∧ value < 2 ^ 17 ∧ doorbellOk (s.iringSize
      p n) (s.get (Reg.IRING_HEAD p n)) (s.get (Reg.IRING_TAIL p n)) value = false) ∧
    (∃ (h : HostReq) (p n value d : Nat) (s : State), Takes s ∧ Bound s h p ∧ n < 16 ∧ value < 2 ^ 17 ∧ value < 2 *
      s.sringSize p n ∧ d = ringDist value (s.get (Reg.SRING_HEAD p n)) (2 * s.sringSize p n) ∧ d ≤ s.writtenRun p n (s.get
      (Reg.SRING_HEAD p n)) (s.sringSize p n)) ∧
    (∃ (p n : Nat) (data : List Byte) (u s : State), Runs s ∧ 1 ≤ p ∧ p ≤ 64 ∧ s.iringOn p n = true ∧ s.head? p n = none ∧
      data.length = 64 * fetchUnits data ∧ fetchUnits data ≤ ringDist (s.get (Reg.IRING_TAIL p n)) (s.get (Reg.IRING_HEAD p
      n)) (2 * s.iringSize p n) ∧ (s.ctx (s.iringOwner p n)).resetStep = none ∧ u = (s.modHost fun k =>
      { k with heads := tput k.heads (16 * p + n) { data := data, units := fetchUnits data } }).set (Reg.IRING_HEAD p n)
      ((s.get (Reg.IRING_HEAD p n) + fetchUnits data) % (2 * s.iringSize p n)) ∧ (badLength data = true ∨ crcOk data 12 =
      true)) ∧
    (∃ (p n : Nat) (data : List Byte) (u s : State), Runs s ∧ 1 ≤ p ∧ p ≤ 64 ∧ s.iringOn p n = true ∧ s.head? p n = none ∧
      data.length = 64 * fetchUnits data ∧ fetchUnits data ≤ ringDist (s.get (Reg.IRING_TAIL p n)) (s.get (Reg.IRING_HEAD p
      n)) (2 * s.iringSize p n) ∧ (s.ctx (s.iringOwner p n)).resetStep = none ∧ u = (s.modHost fun k =>
      { k with heads := tput k.heads (16 * p + n) { data := data, units := fetchUnits data } }).set (Reg.IRING_HEAD p n)
      ((s.get (Reg.IRING_HEAD p n) + fetchUnits data) % (2 * s.iringSize p n)) ∧ badLength data = false ∧ crcOk data 12 =
      false) ∧
    (∃ (p n v : Nat) (h : Head) (s : State), Runs s ∧ s.pick = some (p, n) ∧ s.head? p n = some h ∧ s.headVerdict p n h.data
      = some v ∧ (badLength h.data = true ∨ knownOpcode (opcodeOf h.data) = false)) :=
  ⟨⟨⟨0, 0, false⟩, 1, 0, 1, hosted, by decide +kernel⟩,
   ⟨⟨0, 0, false⟩, 1, 0, 2 ^ 16, hosted, by decide +kernel⟩,
   ⟨⟨0, 0, false⟩, 1, 0, 0, _, hosted, by decide +kernel, by decide +kernel, by decide +kernel, by decide +kernel,
     by decide +kernel, rfl, by decide +kernel⟩,
   ⟨1, 0, desc 1 0x31 [], _, belled, by decide +kernel, by decide +kernel, by decide +kernel, by decide +kernel,
     by decide +kernel, by decide +kernel, by decide +kernel, by decide +kernel, rfl, by decide +kernel⟩,
   ⟨1, 0, List.replicate 2 0 ++ [1] ++ List.replicate 61 0, _, belled, by decide +kernel, by decide +kernel,
     by decide +kernel, by decide +kernel, by decide +kernel, by decide +kernel, by decide +kernel, by decide +kernel, rfl,
     by decide +kernel⟩,
   ⟨1, 0, 5, ⟨desc 1 0xEE [], 1⟩, served hosted (desc 1 0xEE []), by decide +kernel⟩⟩

/-- What each clause of AdmittedQueriesRun asks for can be met. -/
theorem witness_AdmittedQueriesRun :
    (∃ (p n : Nat) (h : Head) (dlv : Delivery) (t : Taken) (q : Query) (f : State × Query) (a : Admitted) (u s : State), Runs
      s ∧ Served s 1 p n h dlv ∧ rawForm h.data = false ∧ t = (s.takeHead p n h).2 ∧ u = (s.takeHead p n h).1.tallyP
      .QRY_ADMITTED t.part ∧ q = u.queryOf t dlv ∧ f = u.formQuery q q.qscale q.qzero ((h.data.drop 64).take ((u.cfgOf
      q.handle).dim * elemBytes (u.cfgOf q.handle).elem)) ∧ a = { t.admitted dlv q.handle 0 true with query := some f.2 }) ∧
    (∃ (p n : Nat) (h : Head) (dlv : Delivery) (t : Taken) (i : Nat) (started : Bool) (a : Admitted) (v u s : State), Runs s
      ∧ Served s 0x2C p n h dlv ∧ u = (s.takeHead p n h).1 ∧ t = (s.takeHead p n h).2 ∧ i = (u.modelEntry t.part (body h.data
      0 4) t.id.step).getD 0 ∧ started = decide (t.id.step ≤ u.get Reg.STEP_COMMITTED + 1) ∧ a =
      { t.admitted dlv (body h.data 0 4) 0 true with items := body h.data 4 4, started := started } ∧ v = ((u.admitOp
      a).modEnc fun e => { e with jobs := e.jobs ++ [{ id := t.id, count := body h.data 4 4, src := body h.data 8 8, dst := body h.data 16 8, inStride := body h.data 24 4, outStride := body h.data 28 4, ok := 0, bad := 0, status := 0 }] }).admitRecords
      ((List.range (body h.data 4 4)).map (fun k => { id := t.id, pos := k, cls := 1, model := i, part := t.part }))) ∧
    (∃ (p n : Nat) (h : Head) (dlv : Delivery) (t : Taken) (a : Admitted) (v u s : State), Runs s ∧ Served s 0x23 p n h dlv ∧
      u = (s.takeHead p n h).1 ∧ t = (s.takeHead p n h).2 ∧ a =
      { t.admitted dlv (body h.data 0 2) 0 true with items := body h.data 8 8 } ∧ v = (u.admitOp a).modEmb (fun e =>
      { e with lookups := e.lookups ++ [{ id := t.id, table := body h.data 0 2, dst := body h.data 16 8, save := true, first := body h.data 4 4, count := body h.data 8 8, bags := [], sums := [], await := [], fwd := 0, bad := 0 }] }))
      :=
  ⟨⟨1, 0, ⟨desc 1 1 [(18, 2, 1), (20, 2, 1), (22, 2, 1), (24, 1, 0xFF), (48, 4, 0x3F800000)], 1⟩, withColl.deliveryAt 1 0
    (desc 1 1 [(18, 2, 1), (20, 2, 1), (22, 2, 1), (24, 1, 0xFF), (48, 4, 0x3F800000)]), _, _, _, _, _, served withColl (desc
    1 1 [(18, 2, 1), (20, 2, 1), (22, 2, 1), (24, 1, 0xFF), (48, 4, 0x3F800000)]), by decide +kernel, served_of
    (by decide +kernel), by decide +kernel, rfl, rfl, rfl, rfl, rfl⟩,
   ⟨1, 0, ⟨desc 1 0x2C [(16, 4, 1), (20, 4, 1), (40, 4, 64), (44, 4, 64)], 1⟩, withModel.deliveryAt 1 0 (desc 1 0x2C [(16, 4,
     1), (20, 4, 1), (40, 4, 64), (44, 4, 64)]), _, _, _, _, _, _, served withModel (desc 1 0x2C [(16, 4, 1), (20, 4, 1),
     (40, 4, 64), (44, 4, 64)]), by decide +kernel, served_of (by decide +kernel), rfl, rfl, rfl, rfl, rfl, rfl⟩,
   ⟨1, 0, ⟨desc 1 0x23 [(24, 8, 1)], 1⟩, withTable.deliveryAt 1 0 (desc 1 0x23 [(24, 8, 1)]), _, _, _, _, served withTable
     (desc 1 0x23 [(24, 8, 1)]), by decide +kernel, served_of (by decide +kernel), rfl, rfl, rfl, rfl⟩⟩

/-- What each clause of AdmittedMutationsRun asks for can be met. -/
theorem witness_AdmittedMutationsRun :
    (∃ (p n : Nat) (h : Head) (dlv : Delivery) (t : Taken) (u s : State), Runs s ∧ u = (s.takeHead p n h).1 ∧ t = (s.takeHead
      p n h).2 ∧ Served s 0x10 p n h dlv) ∧
    (∃ (p n : Nat) (h : Head) (dlv : Delivery) (t : Taken) (u s : State), Runs s ∧ u = (s.takeHead p n h).1 ∧ t = (s.takeHead
      p n h).2 ∧ Served s 0x11 p n h dlv) ∧
    (∃ (p n : Nat) (h : Head) (dlv : Delivery) (t : Taken) (u s : State), Runs s ∧ u = (s.takeHead p n h).1 ∧ t = (s.takeHead
      p n h).2 ∧ Served s 0x12 p n h dlv) ∧
    (∃ (p n : Nat) (h : Head) (dlv : Delivery) (t : Taken) (a : Admitted) (u s : State), Runs s ∧ Served s 0x13 p n h dlv ∧ t
      = (s.takeHead p n h).2 ∧ a = t.admitted dlv (body h.data 0 2 % 4096) (body h.data 8 8) false ∧ u = (s.takeHead p n
      h).1.admitOp a) ∧
    (∃ (p n : Nat) (h : Head) (dlv : Delivery) (t : Taken) (u s : State), Runs s ∧ u = (s.takeHead p n h).1 ∧ t = (s.takeHead
      p n h).2 ∧ Served s 2 p n h dlv) ∧
    (∃ (p n : Nat) (h : Head) (dlv : Delivery) (t : Taken) (u s : State), Runs s ∧ u = (s.takeHead p n h).1 ∧ t = (s.takeHead
      p n h).2 ∧ Served s 3 p n h dlv) ∧
    (∃ (p n : Nat) (h : Head) (dlv : Delivery) (t : Taken) (a : Admitted) (u s : State), Runs s ∧ Served s 0x22 p n h dlv ∧ u
      = (s.takeHead p n h).1 ∧ t = (s.takeHead p n h).2 ∧ a =
      { t.admitted dlv (body h.data 0 2) 0 false with items := body h.data 8 8, started := true }) ∧
    (∃ (p n : Nat) (h : Head) (dlv : Delivery) (t : Taken) (u s : State), Runs s ∧ u = (s.takeHead p n h).1 ∧ t = (s.takeHead
      p n h).2 ∧ Served s 0x30 p n h dlv) ∧
    (∃ (p n : Nat) (h : Head) (dlv : Delivery) (t : Taken) (u s : State), Runs s ∧ u = (s.takeHead p n h).1 ∧ t = (s.takeHead
      p n h).2 ∧ Served s 0x31 p n h dlv) ∧
    (∃ (p n : Nat) (h : Head) (dlv : Delivery) (t : Taken) (u s : State), Runs s ∧ u = (s.takeHead p n h).1 ∧ t = (s.takeHead
      p n h).2 ∧ Served s 0x32 p n h dlv) :=
  ⟨⟨1, 0, ⟨desc 1 0x10 [(32, 4, 0x3F800000)], 1⟩, withColl.deliveryAt 1 0 (desc 1 0x10 [(32, 4, 0x3F800000)]), _, _, served
    withColl (desc 1 0x10 [(32, 4, 0x3F800000)]), by decide +kernel, rfl, rfl, served_of (by decide +kernel)⟩,
   ⟨1, 0, ⟨desc 1 0x11 [], 1⟩, withColl.deliveryAt 1 0 (desc 1 0x11 []), _, _, served withColl (desc 1 0x11 []),
     by decide +kernel, rfl, rfl, served_of (by decide +kernel)⟩,
   ⟨1, 0, ⟨desc 1 0x12 [(32, 4, 0x3F800000)], 1⟩, withColl.deliveryAt 1 0 (desc 1 0x12 [(32, 4, 0x3F800000)]), _, _, served
     withColl (desc 1 0x12 [(32, 4, 0x3F800000)]), by decide +kernel, rfl, rfl, served_of (by decide +kernel)⟩,
   ⟨1, 0, ⟨desc 1 0x13 [], 1⟩, withColl.deliveryAt 1 0 (desc 1 0x13 []), _, _, _, served withColl (desc 1 0x13 []),
     by decide +kernel, served_of (by decide +kernel), rfl, rfl, rfl⟩,
   ⟨1, 0, ⟨desc 1 2 [], 1⟩, withColl.deliveryAt 1 0 (desc 1 2 []), _, _, served withColl (desc 1 2 []), by decide +kernel,
     rfl, rfl, served_of (by decide +kernel)⟩,
   ⟨1, 0, ⟨desc 1 3 [], 1⟩, withColl.deliveryAt 1 0 (desc 1 3 []), _, _, served withColl (desc 1 3 []), by decide +kernel,
     rfl, rfl, served_of (by decide +kernel)⟩,
   ⟨1, 0, ⟨desc 1 0x22 [(24, 8, 1), (32, 8, 2 ^ 20)], 1⟩, withPub.deliveryAt 1 0 (desc 1 0x22 [(24, 8, 1), (32, 8, 2 ^ 20)]),
     _, _, _, served withPub (desc 1 0x22 [(24, 8, 1), (32, 8, 2 ^ 20)]), by decide +kernel, served_of (by decide +kernel),
     rfl, rfl, rfl⟩,
   ⟨1, 0, ⟨desc 1 0x30 [], 1⟩, withRegion.deliveryAt 1 0 (desc 1 0x30 []), _, _, served withRegion (desc 1 0x30 []),
     by decide +kernel, rfl, rfl, served_of (by decide +kernel)⟩,
   ⟨1, 0, ⟨desc 1 0x31 [], 1⟩, withRange.deliveryAt 1 0 (desc 1 0x31 []), _, _, served withRange (desc 1 0x31 []),
     by decide +kernel, rfl, rfl, served_of (by decide +kernel)⟩,
   ⟨1, 0, ⟨desc 1 0x32 [], 1⟩, withRegion.deliveryAt 1 0 (desc 1 0x32 []), _, _, served withRegion (desc 1 0x32 []),
     by decide +kernel, rfl, rfl, served_of (by decide +kernel)⟩⟩

/-- What each clause of QueryPassesRun asks for can be met. -/
theorem witness_QueryPassesRun :
    (∃ (id : OpId) (shard : Nat) (w : QWork) (x : ShardWork) (sh : Shard) (r : List Nat × Bool × Nat) (u s : State), Runs s ∧
      s.work? id = some w ∧ w.shards.find? (fun x => decide (x.shard = shard)) = some x ∧ s.shard? w.q.handle shard = some sh
      ∧ x.routed = false ∧ w.mergeRes ≠ none ∧ s.get Reg.SAFE_UNITS_ROUTE_ISO ≠ 2 ^ 16 - 1 ∧ r = sh.route (s.cfgAt
      w.q.id.step w.q.handle) w.q.id.step w.q.rform w.q.probes ∧ u = (((s.tallyP .COLL_ROUTE_MAXEXP w.q.part (b2n
      r.2.1)).tallyP .COLL_TOMB_DEPTH w.q.part r.2.2).modShardWork id shard (fun y =>
      { y with routed := true, passes := r.1.map (fun i => { list := i, stook := none, full := false, last := none, want := true, fallback := false, far := none }) })).grantPools)
      ∧
    (∃ (id : OpId) (shard list : Nat) (w : QWork) (sh : Shard) (p : ListPass) (l : LList) (s : State), Runs s ∧ s.pass? id
      shard list = some (w, sh, p) ∧ p.want = true ∧ w.stookRes ≠ none ∧ sh.at list w.q.id.step = some l ∧ s.noUnit l
      (s.cfgOf w.q.handle).w w.q.id.step false = false ∧ s.srch.lostBits.contains (w.q.handle, shard, list, w.q.fslot) =
      false) ∧
    (∃ (id : OpId) (shard list : Nat) (w : QWork) (sh : Shard) (p : ListPass) (st : List StookEntry) (u s : State), Runs s ∧
      s.pass? id shard list = some (w, sh, p) ∧ p.stook = some st ∧ p.fallback = false ∧ u = (s.modShardWork id shard (fun x
      => { x with pool := x.pool ++ st })).modPass id shard list (fun p =>
      { p with stook := none, full := decide (st.length = stookLen w.q), last := match st.getLast? with | some e => some (e.dist, e.pos) | none => p.last }))
      ∧
    (∃ (shard list : Nat) (floor : Option (Nat × Nat)) (q : Query) (sh : Shard) (st : List StookEntry) (s : State), Runs s ∧
      s.shard? q.handle shard = some sh ∧ st = s.passStook q sh list floor) ∧
    (∃ (id : OpId) (shard list : Nat) (w : QWork) (sh : Shard) (p : ListPass) (s : State), Runs s ∧ s.pass? id shard list =
      some (w, sh, p) ∧ p.far ≠ none) ∧
    (∃ (id : OpId) (shard list : Nat) (w : QWork) (sh : Shard) (p : ListPass) (u s : State), Runs s ∧ s.pass? id shard list =
      some (w, sh, p) ∧ p.fallback = true ∧ u = s.modPass id shard list (fun p => { p with fallback := false })) ∧
    (∃ (id : OpId) (shard slot : Nat) (w : QWork) (x : ShardWork) (sh : Shard) (cs : List StookEntry) (e : StookEntry) (r :
      Rerank) (v u s : State), Runs s ∧ s.work? id = some w ∧ w.shards.find? (fun x => decide (x.shard = shard)) = some x ∧
      x.cands = some cs ∧ cs.find? (fun e => decide (e.slot = slot)) = some e ∧ s.shard? w.q.handle shard = some sh ∧ tfind
      sh.store slot = some r ∧ x.gleaned.any (fun g => decide (g.1 = e)) = false ∧ s.get Reg.SAFE_UNITS_GLN_ISO ≠ 2 ^ 32 - 1
      ∧ v = s.modSrch (fun k =>
      { k with fetched := k.fetched.filter (fun f => decide ((f.1, f.2.1, f.2.2.1) ≠ (w.q.handle, shard, slot))) }) ∧ u =
      v.tallyP .GLN_FLASH_READS w.q.part) :=
  ⟨⟨⟨0, 0, 0⟩, 0, { aQWork with mergeRes := some 0, stookRes := some 0, shards := [{ aShardWork with passes := [aListPass] }] },
    { aShardWork with passes := [aListPass] }, { aShard with lists := [aLList] }, _, _,
    { State.reset with srch := { SearchSt.reset with work := [{ aQWork with mergeRes := some 0, stookRes := some 0, shards := [{ aShardWork with passes := [aListPass] }] }], shards := [{ aShard with lists := [aLList] }] } },
    by decide +kernel, by decide +kernel, by decide +kernel, by decide +kernel, by decide +kernel, by decide +kernel,
    by decide +kernel, rfl, rfl⟩,
   ⟨⟨0, 0, 0⟩, 0, 0, { aQWork with mergeRes := some 0, stookRes := some 0, shards := [{ aShardWork with passes := [{ aListPass with want := true }] }] },
     { aShard with lists := [aLList] }, { aListPass with want := true }, aLList,
     { State.reset with srch := { SearchSt.reset with work := [{ aQWork with mergeRes := some 0, stookRes := some 0, shards := [{ aShardWork with passes := [{ aListPass with want := true }] }] }], shards := [{ aShard with lists := [aLList] }] } },
     by decide +kernel⟩,
   ⟨⟨0, 0, 0⟩, 0, 0, { aQWork with mergeRes := some 0, stookRes := some 0, shards := [{ aShardWork with passes := [{ aListPass with stook := some [] }] }] },
     { aShard with lists := [aLList] }, { aListPass with stook := some [] }, [], _,
     { State.reset with srch := { SearchSt.reset with work := [{ aQWork with mergeRes := some 0, stookRes := some 0, shards := [{ aShardWork with passes := [{ aListPass with stook := some [] }] }] }], shards := [{ aShard with lists := [aLList] }] } },
     by decide +kernel, by decide +kernel, by decide +kernel, by decide +kernel, rfl⟩,
   ⟨0, 0, none, aQuery, aShard, _, { State.reset with srch := { SearchSt.reset with work := [aQWork], shards := [aShard] } },
     by decide +kernel, by decide +kernel, rfl⟩,
   ⟨⟨0, 0, 0⟩, 0, 0, { aQWork with mergeRes := some 0, stookRes := some 0, shards := [{ aShardWork with passes := [{ aListPass with far := some 0 }] }] },
     { aShard with lists := [aLList] }, { aListPass with far := some 0 },
     { State.reset with srch := { SearchSt.reset with work := [{ aQWork with mergeRes := some 0, stookRes := some 0, shards := [{ aShardWork with passes := [{ aListPass with far := some 0 }] }] }], shards := [{ aShard with lists := [aLList] }] } },
     by decide +kernel⟩,
   ⟨⟨0, 0, 0⟩, 0, 0, { aQWork with mergeRes := some 0, stookRes := some 0, shards := [{ aShardWork with passes := [{ aListPass with fallback := true }] }] },
     { aShard with lists := [aLList] }, { aListPass with fallback := true }, _,
     { State.reset with srch := { SearchSt.reset with work := [{ aQWork with mergeRes := some 0, stookRes := some 0, shards := [{ aShardWork with passes := [{ aListPass with fallback := true }] }] }], shards := [{ aShard with lists := [aLList] }] } },
     by decide +kernel, by decide +kernel, by decide +kernel, rfl⟩,
   ⟨⟨0, 0, 0⟩, 0, 0, { aQWork with shards := [{ aShardWork with cands := some [aStookEntry] }] },
     { aShardWork with cands := some [aStookEntry] }, { aShard with store := [(0, aRerank)] }, [aStookEntry], aStookEntry,
     aRerank, _, _, { State.reset with srch := { SearchSt.reset with work := [{ aQWork with shards := [{ aShardWork with cands := some [aStookEntry] }] }], shards := [{ aShard with store := [(0, aRerank)] }] } },
     by decide +kernel, by decide +kernel, by decide +kernel, by decide +kernel, by decide +kernel, by decide +kernel,
     by decide +kernel, by decide +kernel, by decide +kernel, rfl, rfl⟩⟩

/-- What each clause of QueryMessagesRun asks for can be met. -/
theorem witness_QueryMessagesRun :
    (∃ (id : OpId) (src : Nat) (sh : Sheaf) (w : QWork) (s : State), Runs s ∧ s.work? id = some w ∧ sh.rerun = none ∧
      w.await.contains src = true) ∧
    (∃ (id : OpId) (status : Nat) (a : Admitted) (s : State), Runs s ∧ s.adm? id = some a ∧ s.writable a.dlv.pid = true ∧
      ((s.queryTally a.dlv.part status).dropAdm a).writable a.dlv.pid = true) ∧
    (∃ (id : OpId) (f : Nat × Nat × Nat × Nat) (u s : State), Runs s ∧ id.admitter = s.me ∧ (s.host.flushReads.find? (fun f
      => decide (f.1 = id.step ∧ f.2.1 = id.seq ∧ f.2.2.1 = id.admitter)) = some f) ∧ u = (s.modHost fun k =>
      { k with flushReads := k.flushReads.erase f }).noticed id f.2.2.2) ∧
    (∃ (coll shard slot : Nat) (ok : Bool) (s : State), Runs s ∧ ok =
      (match s.shard? coll shard with | some sh => (tfind sh.store slot).isSome | none => false)) ∧
    (∃ (coll shard slot : Nat) (s : State), Runs s ∧ s.srch.fetched.contains (coll, shard, slot, false) = false) ∧
    (∃ (coll shard : Nat) (s : State), Runs s ∧ (s.shard? coll shard).isSome = true) ∧
    (∃ (coll shard list fslot : Nat) (s : State), Runs s ∧ (s.shard? coll shard).isSome = true ∧ s.srch.lostBits.contains
      (coll, shard, list, fslot) = false) ∧
    (∃ (model : Nat) (s : State), Runs s ∧ model < 256 ∧ s.get (Reg.ENC_MODEL_STATE model) ≠ 0) :=
  ⟨⟨⟨0, 0, 0⟩, 1, aSheaf, { aQWork with await := [1] },
    { State.reset with srch := { SearchSt.reset with work := [{ aQWork with await := [1] }], shards := [aShard] } },
    by decide +kernel⟩,
   ⟨⟨0, 0, 0⟩, 0, aAdmitted, { hosted with srch := { SearchSt.reset with adm := [aAdmitted] } }, by decide +kernel⟩,
   ⟨⟨0, 0, 0⟩, (0, 0, 0, 0), _, { State.reset with host := { HostSt.reset with flushReads := [(0, 0, 0, 0)] } },
     by decide +kernel, by decide +kernel, by decide +kernel, rfl⟩,
   ⟨0, 0, 0, _, State.reset, by decide +kernel, rfl⟩,
   ⟨0, 0, 0, State.reset, by decide +kernel⟩,
   ⟨0, 0, { State.reset with srch := { SearchSt.reset with shards := [aShard] } }, by decide +kernel⟩,
   ⟨0, 0, 0, 0, { State.reset with srch := { SearchSt.reset with shards := [aShard] } }, by decide +kernel⟩,
   ⟨0, with_ State.reset [(Reg.ENC_MODEL_STATE 0, 1)], by decide +kernel⟩⟩

/-- What each clause of MutationStagingRuns asks for can be met. -/
theorem witness_MutationStagingRuns :
    (∃ (m : Mutation) (src : Nat) (s : State), Runs s ∧ m.op ≠ 0x13 ∧ s.get Reg.STEP_COMMITTED < m.id.step ∧ s.staged? m.id =
      none ∧ src = m.id.admitter) ∧
    (∃ (f : FilterOp) (s : State), Runs s ∧ s.get Reg.STEP_COMMITTED < f.id.step) ∧
    (∃ (id : OpId) (s : State), Runs s ∧ s.staged? id = none) ∧
    (∃ (id : OpId) (s : State), Runs s ∧ (s.staged? id).isSome = true) ∧
    (∃ (id : OpId) (s : State), Runs s ∧ id.admitter = s.me) ∧
    (∃ (id : OpId) (s : State), Runs s ∧ id.admitter ≠ s.me) ∧
    (∃ (id : OpId) (a : Admitted) (s : State), Runs s ∧ s.adm? id = some a) ∧
    (∃ (coll shard : Nat) (s : State), Runs s ∧ (s.shard? coll shard).isSome = true) ∧
    (∃ (coll shard : Nat) (s : State), Runs s ∧ (s.shard? coll shard).isSome = true) ∧
    (∃ (coll shard : Nat) (sh : Shard) (b : Rebuild) (s : State), Runs s ∧ s.shard? coll shard = some sh ∧ sh.rebuild = some
      b ∧ b.done = none) :=
  ⟨⟨{ aMutation with id := ⟨1, 0, 0⟩ }, _, State.reset, by decide +kernel, by decide +kernel, by decide +kernel,
    by decide +kernel, rfl⟩,
   ⟨{ aFilterOp with id := ⟨1, 0, 0⟩ }, State.reset, by decide +kernel⟩,
   ⟨⟨0, 0, 0⟩, State.reset, by decide +kernel⟩,
   ⟨⟨0, 0, 0⟩, { State.reset with srch := { SearchSt.reset with staged := [aStaged] } }, by decide +kernel⟩,
   ⟨⟨0, 0, 0⟩, State.reset, by decide +kernel⟩,
   ⟨⟨0, 0, 1⟩, State.reset, by decide +kernel⟩,
   ⟨⟨0, 0, 0⟩, aAdmitted, { hosted with srch := { SearchSt.reset with adm := [aAdmitted] } }, by decide +kernel⟩,
   ⟨0, 0, { State.reset with srch := { SearchSt.reset with shards := [aShard] } }, by decide +kernel⟩,
   ⟨0, 0, { State.reset with srch := { SearchSt.reset with shards := [aShard] } }, by decide +kernel⟩,
   ⟨0, 0, { aShard with rebuild := some aRebuild }, aRebuild,
     { State.reset with srch := { SearchSt.reset with shards := [{ aShard with rebuild := some aRebuild }] } },
     by decide +kernel⟩⟩

/-- What each clause of EmbeddingLookupsRun asks for can be met. -/
theorem witness_EmbeddingLookupsRun :
    (∃ (p n : Nat) (h : Head) (dlv : Delivery) (t : Taken) (mem : List (Nat × List Byte)) (r : List Bag × Nat × Nat) (a :
      Admitted) (u v s : State), Runs s ∧ Served s 0x20 p n h dlv ∧ u = (s.takeHead p n h).1 ∧ t = (s.takeHead p n h).2 ∧
      readBags (fun a n => u.shmRead mem a n) (u.get (Reg.EMB_TABLE_ROWS_M1 ((u.tableIdx (body h.data 0 2)).getD 0)) + 1)
      (body h.data 2 2) (body h.data 8 8) = some r ∧ u.canRead t.part (some (u.iringOwner t.part t.ring)) (body h.data 8 8)
      (r.2.1 - body h.data 8 8) = true ∧ a = { t.admitted dlv (body h.data 0 2) 0 true with items := body h.data 2 2 } ∧ v =
      ((u.admitOp a).tallyP .CXP_RSVD_WRITES t.part r.2.2).modEmb (fun e =>
      { e with lookups := e.lookups ++ [{ id := t.id, table := body h.data 0 2, dst := body h.data 16 8, save := false, first := 0, count := 0, bags := r.1, sums := [], await := [], fwd := 0, bad := 0 }] }))
      ∧
    (∃ (p n : Nat) (h : Head) (dlv : Delivery) (t : Taken) (mem : List (Nat × List Byte)) (u s : State), Runs s ∧ Served s
      0x20 p n h dlv ∧ u = (s.takeHead p n h).1 ∧ t = (s.takeHead p n h).2 ∧ readBags (fun a n => u.shmRead mem a n) (u.get
      (Reg.EMB_TABLE_ROWS_M1 ((u.tableIdx (body h.data 0 2)).getD 0)) + 1) (body h.data 2 2) (body h.data 8 8) = none) ∧
    (∃ (id : OpId) (bag row : Nat) (e : EntryReq) (q : Partial) (term : List Int) (u s : State), Runs s ∧
      (s.emb.gathers.find? (fun e => decide (e.id = id ∧ e.bag = bag ∧ e.row = row)) = some e) ∧ term = (List.range
      (s.tableDim e.table)).map (fun j => e.weight * (rowElem (s.rowAt (rowKey e.table row) id.step) j)) ∧ u = (s.modEmb fun
      x => { x with gathers := x.gathers.erase e }).tallyP .EMB_TERMS (s.tablePart e.table) ∧ (u.emb.partials.find? (fun q =>
      decide (q.id = id ∧ q.src = e.src)) = some q) ∧ 2 ≤ q.left) ∧
    (∃ (id : OpId) (src : Nat) (onto : List Nat) (l : Lookup) (s : State), Runs s ∧ s.emb.lookups.find? (fun l => decide
      (l.id = id)) = some l ∧ l.await.erase src ++ onto ≠ []) ∧
    (∃ (f : LoadInfo) (row : Nat) (s : State), Runs s ∧ f.first ≤ row ∧ row < f.first + f.count ∧ s.emb.loads.any (fun l =>
      decide (l.info = f)) = true) ∧
    (∃ (f : LoadInfo) (s : State), Runs s ∧ s.emb.loads.any (fun l => decide (l.info = f)) = true) :=
  ⟨⟨1, 0, ⟨desc 1 0x20 [(18, 2, 1), (32, 8, 64)], 1⟩, withTable.deliveryAt 1 0 (desc 1 0x20 [(18, 2, 1), (32, 8, 64)]), _,
    [(0, natLe 64 1)], ([⟨0, [(0, 0)], false⟩], bagBytes 1, 0), _, _, _, served withTable (desc 1 0x20 [(18, 2, 1), (32, 8,
    64)]), by decide +kernel, served_of (by decide +kernel), rfl, rfl, by decide +kernel, by decide +kernel, rfl, rfl⟩,
   ⟨1, 0, ⟨desc 1 0x20 [(18, 2, 1), (32, 8, 64)], 1⟩, withTable.deliveryAt 1 0 (desc 1 0x20 [(18, 2, 1), (32, 8, 64)]), _,
     [], _, served withTable (desc 1 0x20 [(18, 2, 1), (32, 8, 64)]), by decide +kernel, served_of (by decide +kernel), rfl,
     rfl, by decide +kernel⟩,
   ⟨⟨0, 0, 0⟩, 0, 0, aEntryReq, { aPartial with left := 2 }, _, _,
     { withTables with emb := { EmbSt.reset with gathers := [aEntryReq], partials := [{ aPartial with left := 2 }] } },
     by decide +kernel, by decide +kernel, rfl, rfl, by decide +kernel⟩,
   ⟨⟨0, 0, 0⟩, 1, [], { aLookup with await := [1, 2] },
     { State.reset with emb := { EmbSt.reset with lookups := [{ aLookup with await := [1, 2] }] } }, by decide +kernel⟩,
   ⟨{ aLoadInfo with count := 1 }, 0,
     { State.reset with emb := { EmbSt.reset with loads := [{ aTableLoad with info := { aLoadInfo with count := 1 } }] } },
     by decide +kernel⟩,
   ⟨aLoadInfo, { State.reset with emb := { EmbSt.reset with loads := [aTableLoad] } }, by decide +kernel⟩⟩

/-- What each clause of GradientsRun asks for can be met. -/
theorem witness_GradientsRun :
    (∃ (p n tab : Nat) (h : Head) (dlv : Delivery) (t : Taken) (mem : List (Nat × List Byte)) (raw : List Byte) (x : Nat ×
      Nat × List Nat) (a : Admitted) (c : State × Option (List Int) × Nat) (v : List Int) (u s : State), Runs s ∧ Served s
      0x21 p n h dlv ∧ u = (s.takeHead p n h).1 ∧ t = (s.takeHead p n h).2 ∧ tab = body h.data 0 2 ∧ body h.data 4 4 = 1 ∧
      raw = u.shmRead mem (body h.data 8 8) (16 + 4 * u.tableDim tab) ∧ u.readGrad raw = some x ∧ x.1 = tab ∧ a =
      { t.admitted dlv tab 0 false with items := 1, started := true } ∧ c = ((u.admitOp a).tallyP .CXP_RSVD_WRITES t.part
      (b2n (decide (leNat raw 8 8 ≠ 0)))).convertGrad tab x.2.2 ∧ c.2.1 = some v) ∧
    (∃ (p n : Nat) (h : Head) (dlv : Delivery) (t : Taken) (mem : List (Nat × List Byte)) (x : Nat × Nat × List Nat) (u s :
      State), Runs s ∧ Served s 0x21 p n h dlv ∧ u = (s.takeHead p n h).1 ∧ t = (s.takeHead p n h).2 ∧ body h.data 4 4 = 1 ∧
      u.readGrad (u.shmRead mem (body h.data 8 8) (16 + 4 * u.tableDim (body h.data 0 2))) = some x ∧ x.1 ≠ body h.data 0 2) ∧
    (∃ (r : GradRec) (src : Nat) (s : State), Runs s ∧ s.get Reg.STEP_COMMITTED < r.due ∧ src ≠ r.id.admitter) ∧
    (∃ (r : GradRec) (src : Nat) (s : State), Runs s ∧ s.get Reg.STEP_COMMITTED < r.due ∧ src = r.id.admitter ∧ s.gradNext r
      = [] ∧ s.holdsRow r = true) ∧
    (∃ (r : GradRec) (src : Nat) (s : State) (n : _) (ns : _), Runs s ∧ s.get Reg.STEP_COMMITTED < r.due ∧ src =
      r.id.admitter ∧ s.gradNext r = n :: ns) ∧
    (∃ (table row step k i : Nat) (d : Digest) (peers : List Nat) (s : State), Runs s ∧ k = rowKey table row ∧
      s.emb.applies.find? (fun a => decide (a = (k, step))) = some (k, step) ∧ i = (s.tableIdx table).getD 0 ∧ d = rowDigest
      (s.get (Reg.EMB_TABLE_DIM i)) (s.rowAt k (step + 1)) ∧ peers = s.digestPeers i row step ∧ s.emb.early = []) ∧
    (∃ (table row step src : Nat) (s : State), Runs s ∧ (s.emb.digests.find? (fun x => decide (x.1 = rowKey table row ∧ x.2.1
      = step ∧ x.2.2.1 = src)) = none)) ∧
    (∃ (table row step src : Nat) (d : Digest) (x : Nat × Nat × Nat × Digest) (u s : State), Runs s ∧ (s.emb.digests.find?
      (fun x => decide (x.1 = rowKey table row ∧ x.2.1 = step ∧ x.2.2.1 = src)) = some x) ∧ u = s.modEmb (fun e =>
      { e with digests := e.digests.erase x }) ∧ x.2.2.2 = d) ∧
    (∃ (table row step src : Nat) (d : Digest) (x : Nat × Nat × Nat × Digest) (u s : State), Runs s ∧ (s.emb.digests.find?
      (fun x => decide (x.1 = rowKey table row ∧ x.2.1 = step ∧ x.2.2.1 = src)) = some x) ∧ u = s.modEmb (fun e =>
      { e with digests := e.digests.erase x }) ∧ x.2.2.2 ≠ d) :=
  ⟨⟨1, 0, _, ⟨desc 1 0x21 [(20, 4, 1)], 1⟩, withTables.deliveryAt 1 0 (desc 1 0x21 [(20, 4, 1)]), _, [(0, natLe 64 (2 ^
    16))], _, (0, 0, [0]), _, _, [0], _, served withTables (desc 1 0x21 [(20, 4, 1)]), by decide +kernel, served_of
    (by decide +kernel), rfl, rfl, rfl, by decide +kernel, rfl, by decide +kernel, by decide +kernel, rfl, rfl,
    by decide +kernel⟩,
   ⟨1, 0, ⟨desc 1 0x21 [(20, 4, 1)], 1⟩, withTables.deliveryAt 1 0 (desc 1 0x21 [(20, 4, 1)]), _, [(0, natLe 64 (2 ^ 16 +
     1))], (1, 0, [0]), _, served withTables (desc 1 0x21 [(20, 4, 1)]), by decide +kernel, served_of (by decide +kernel),
     rfl, rfl, by decide +kernel⟩,
   ⟨{ aGradRec with due := 1 }, 1, withTables, by decide +kernel⟩,
   ⟨{ aGradRec with due := 1 }, _, { withTables with emb := { EmbSt.reset with nodes := [(0, [0])] } }, by decide +kernel,
     by decide +kernel, rfl, by decide +kernel⟩,
   ⟨{ aGradRec with id := ⟨0, 0, 0x10⟩, due := 1 }, 0x10, withMoved, 1, [], by decide +kernel⟩,
   ⟨0, 0, 0, _, _, _, _, { State.reset with emb := { EmbSt.reset with applies := [(0, 0)] } }, by decide +kernel, rfl,
     by decide +kernel, rfl, rfl, rfl, by decide +kernel⟩,
   ⟨0, 0, 0, 0, State.reset, by decide +kernel⟩,
   ⟨0, 0, 0, 0, 0, (0, 0, 0, 0), _, { State.reset with emb := { EmbSt.reset with digests := [(0, 0, 0, 0)] } },
     by decide +kernel, by decide +kernel, rfl, by decide +kernel⟩,
   ⟨0, 0, 0, 0, 1, (0, 0, 0, 0), _, { State.reset with emb := { EmbSt.reset with digests := [(0, 0, 0, 0)] } },
     by decide +kernel, by decide +kernel, rfl, by decide +kernel⟩⟩

/-- What each clause of EncoderRecordsRun asks for can be met. -/
theorem witness_EncoderRecordsRun :
    (∃ (r : EncRec) (s : State), Runs s ∧ leastRec ((s.enc.backlog.filter s.recReady) ++ s.enc.arrived.map (·.r)) = some r ∧
      s.enc.arrived.find? (fun x => x.r.is r.id r.pos) = none) ∧
    (∃ (model layer : Nat) (keep : List Nat → List Nat) (s : State), Runs s ∧ layer < s.get (Reg.ENC_MODEL_LAYERS model) ∧
      keep = (fun l => (if s.modelKib model ≤ s.get (Reg.ENC_MODEL_LOFT_KIB model) then l else l.filter (fun x => decide (x =
      (if layer = 0 then s.get (Reg.ENC_MODEL_LAYERS model) - 1 else layer - 1)))).filter (fun x => decide (x ≠ layer)) ++
      [layer])) ∧
    (∃ (r : ChainRec) (x : EncRun) (u s : State), Runs s ∧ u = s.dropRun r.id r.pos ∧ u.chainRun r r.id.admitter = some x) ∧
    (∃ (r : ChainRec) (c : Nat) (s : State), Runs s ∧ (s.enc.runs.find? (fun e => e.2.r.is r.id r.pos)).map (·.1) = some c) ∧
    (∃ (id : OpId) (s : State), Runs s ∧ id.admitter ≠ s.me) ∧
    (∃ (id : OpId) (pos : Nat) (s : State) (x : _), Runs s ∧ id.admitter = s.me ∧ s.enc.sent.find? (fun x => x.r.is id pos) =
      some x) ∧
    (∃ (core : Nat) (r : EncRun) (s : State), Runs s ∧ tfind s.enc.runs (core / 8) = some r) ∧
    (∃ (model : Nat) (src : PassSrc) (s : State), Runs s ∧ model < 256 ∧ (s.get (Reg.ENC_MODEL_STATE model) = 1 ∨ s.get
      (Reg.ENC_MODEL_STATE model) = 2) ∧ (s.modelMem model).passDone = false ∧ (s.modelMem model).failed = false ∧
      s.baseWaits model = false ∧ src.readable = false) ∧
    (∃ (model digest : Nat) (src : PassSrc) (built : List (List WSeg)) (s : State), Runs s ∧ model < 256 ∧ (s.get
      (Reg.ENC_MODEL_STATE model) = 1 ∨ s.get (Reg.ENC_MODEL_STATE model) = 2) ∧ (s.modelMem model).passDone = false ∧
      (s.modelMem model).failed = false ∧ s.baseWaits model = false ∧ src.readable = true ∧ src.fits = true ∧ s.shapesAgree
      model src.layers = true ∧ built = s.buildModel model src.layers ∧ digest = (Config.sm3 ((src.prog.map (natLe
      128)).flatten ++ (built.flatten.map (·.bytes)).flatten)).toNat ∧ digest = s.get (Reg.ENC_MODEL_DIGEST model)) ∧
    (∃ (model digest : Nat) (src : PassSrc) (built : List (List WSeg)) (s : State), Runs s ∧ model < 256 ∧ (s.get
      (Reg.ENC_MODEL_STATE model) = 1 ∨ s.get (Reg.ENC_MODEL_STATE model) = 2) ∧ (s.modelMem model).passDone = false ∧
      (s.modelMem model).failed = false ∧ s.baseWaits model = false ∧ src.readable = true ∧ src.fits = true ∧ s.shapesAgree
      model src.layers = true ∧ built = s.buildModel model src.layers ∧ digest = (Config.sm3 ((src.prog.map (natLe
      128)).flatten ++ (built.flatten.map (·.bytes)).flatten)).toNat ∧ digest ≠ s.get (Reg.ENC_MODEL_DIGEST model)) :=
  ⟨⟨aEncRec, { State.reset with enc := { EncSt.reset with backlog := [aEncRec], models := [(0, { aModelMem with passDone := true })] } },
    by decide +kernel⟩,
   ⟨0, 0, _, with_ State.reset [(Reg.ENC_MODEL_LAYERS 0, 1)], by decide +kernel, by decide +kernel, rfl⟩,
   ⟨{ aChainRec with model := 1, part := 1 }, runOf { aEncRec with model := 0, part := 1 } 0 (((withModel.dropRun ⟨0, 0, 0⟩
     0).chainOf 0).findIdx (fun n => decide (n = withModel.me))) [] [], _, withModel, by decide +kernel, rfl,
     by decide +kernel⟩,
   ⟨aChainRec, 0, { State.reset with enc := { EncSt.reset with runs := [(0, aEncRun)] } }, by decide +kernel⟩,
   ⟨⟨0, 0, 1⟩, State.reset, by decide +kernel⟩,
   ⟨⟨0, 0, 0⟩, 0, { State.reset with enc := { EncSt.reset with sent := [aEncRun] } }, aEncRun, by decide +kernel⟩,
   ⟨0, aEncRun, { State.reset with enc := { EncSt.reset with runs := [(0, aEncRun)] } }, by decide +kernel⟩,
   ⟨0, aPassSrc, with_ State.reset [(Reg.ENC_MODEL_STATE 0, 1), (Reg.ENC_MODEL_FORM 0, 0)], by decide +kernel⟩,
   ⟨0, _, { aPassSrc with readable := true, fits := true }, _,
     { State.reset with regs := [((Reg.ENC_MODEL_STATE 0).bit, 1), ((Reg.ENC_MODEL_DIGEST 0).bit, (Config.sm3 []).toNat)] },
     by decide +kernel, by decide +kernel, by decide +kernel, by decide +kernel, by decide +kernel, by decide +kernel,
     by decide +kernel, by decide +kernel, by decide +kernel, rfl, rfl, rfl⟩,
   ⟨0, _, { aPassSrc with readable := true, fits := true }, _,
     { State.reset with regs := [((Reg.ENC_MODEL_STATE 0).bit, 1), ((Reg.ENC_MODEL_DIGEST 0).bit, (Config.sm3 []).toNat + 1)] },
     by decide +kernel, by decide +kernel, by decide +kernel, by decide +kernel, by decide +kernel, by decide +kernel,
     by decide +kernel, by decide +kernel, by decide +kernel, rfl, rfl, Nat.ne_of_lt (Nat.lt_succ_self _)⟩⟩

/-- What each clause of VectorReductionSlotsRun asks for can be met. -/
theorem witness_VectorReductionSlotsRun :
    (∃ (c : Nat) (r : EncRun) (b i : Nat) (s : State), Runs s ∧ SlotReady s c 1 0x11 r b i) ∧
    (∃ (c : Nat) (r : EncRun) (b i : Nat) (s : State), Runs s ∧ SlotReady s c 2 3 r b i) :=
  ⟨⟨0, aEncRun, bundle 2 0x11, 2,
    { State.reset with enc := { EncSt.reset with runs := [(0, aEncRun)], cores := [(0, aNCore)], models := [(0, { aModelMem with prog := [bundle 2 0x11] })] } },
    by decide +kernel, slotReady_of (by decide +kernel)⟩,
   ⟨0, aEncRun, bundle 3 3, 3,
     { State.reset with enc := { EncSt.reset with runs := [(0, aEncRun)], cores := [(0, aNCore)], models := [(0, { aModelMem with prog := [bundle 3 3] })] } },
     by decide +kernel, slotReady_of (by decide +kernel)⟩⟩

/-- What each clause of ControlSlotsRun asks for can be met. -/
theorem witness_ControlSlotsRun :
    (∃ (c : Nat) (r : EncRun) (b i : Nat) (s : State), Runs s ∧ SlotReady s c (slotKind i) 0 r b i) ∧
    (∃ (c : Nat) (r : EncRun) (b : Nat) (s : State), Runs s ∧ tfind s.enc.runs (c / 8) = some r ∧ ((s.core c).halted ||
      (s.core c).atBar || s.coreIso c) = false ∧ (s.modelMem r.r.model).prog[(s.core c).pc]? = some b ∧ bundleOk b = true ∧
      nextSlot b (s.core c).slot = none) :=
  ⟨⟨0, aEncRun, bundle 6 0, 6,
    { State.reset with enc := { EncSt.reset with runs := [(0, aEncRun)], cores := [(0, aNCore)], models := [(0, { aModelMem with prog := [bundle 6 0] })] } },
    by decide +kernel, slotReady_of (by decide +kernel)⟩,
   ⟨0, aEncRun, 2 ^ 16, { State.reset with enc := { EncSt.reset with runs := [(0, aEncRun)], cores := [(0, aNCore)], models := [(0, { aModelMem with prog := [2 ^ 16] })] } },
     by decide +kernel⟩⟩

/-- What each clause of FlashEventsRun asks for can be met. -/
theorem witness_FlashEventsRun :
    (∃ (stream : Nat) (at_ : FlashPage) (units lost : List FlashUnit) (sup : Super) (u s : State), Runs s ∧ stream < 6 ∧
      s.superFor stream at_ = some sup ∧ (s.blk (blockKey at_)).st < 2 ∧ s.gran.profile.pages ≠ 0 ∧ lost = units ++
      sup.units.filter (fun u => match unitPage u with | some l => decide ((tfind s.gran.map l).map mapBlock = some (blockKey at_)) | none => false)
      ∧ u = (((s.tallyN .GRAN_PROG_FAILS).tallyN .GRAN_PARITY_RECOVERED ((s.blk (blockKey at_)).pages + 1)).retire (blockKey
      at_)).modGran (fun g =>
      { g with rewrite := g.rewrite ++ lost.map (fun u => (stream, u)), supers := g.supers.map (fun u => { u with blocks := u.blocks.filter (fun x => decide (x ≠ blockKey at_)) }) }))
      ∧
    (∃ (stream b : Nat) (at_ : FlashPage) (sup : Super) (u s : State), Runs s ∧ stream < 6 ∧ b = blockKey at_ ∧ s.superFor
      stream at_ = some sup ∧ sup.blocks.contains b = true ∧ (s.blk b).st < 2 ∧ s.gran.profile.pages ≠ 0 ∧ u = s.setBlk b
      (fun x => { x with st := if x.pages + 1 < s.gran.profile.pages then 1 else 2, pages := x.pages + 1, ageW := if x.pages = 0 then s.get Reg.GRAN_AGE_AGE else x.ageW, tempW := if x.pages = 0 then tget 0 s.gran.lunTemp (lunOf b) else x.tempW }))
      ∧
    (∃ (lun b : Nat) (s : State), Runs s ∧ 100 * s.freeBlocks lun < s.lunBlocks ∧ s.victim lun = some b) ∧
    (∃ (block n : Nat) (u s : State), Runs s ∧ s.gran.collecting.contains block = true ∧ (s.blk block).valid = 0 ∧ u =
      s.modGran (fun g => { g with collecting := g.collecting.filter (fun b => decide (b ≠ block)) }) ∧ n = (s.blk
      block).erases + 1) ∧
    (∃ (lpage retries r w : Nat) (soft : Bool) (u s : State), Runs s ∧ tfind s.gran.map lpage = some w ∧ r = min retries
      (s.get Reg.GRAN_CFG_RETRY_MAX) ∧ u = ((s.tallyN .GRAN_READS).tallyN .GRAN_RETRIES r).tallyN .GRAN_SOFT_READS (b2n
      soft)) ∧
    (∃ (s : State), Runs s ∧ s.gran.ckptTick + s.get Reg.GRAN_CFG_CKPT_SECONDS * second / 1024 ≤ s.now) ∧
    (∃ (s : State), Runs s ∧ s.gran.ageTick + 60 * second ≤ s.now) ∧
    (∃ (lun : Nat) (s : State), Runs s ∧ lun < 128) :=
  ⟨⟨0, aFlashPage, [], _, aSuper, _,
    { State.reset with gran := { GranSt.reset with profile := { aProfile with pages := 1, planes := 1, blocks := 1 }, supers := [aSuper] } },
    by decide +kernel, by decide +kernel, by decide +kernel, by decide +kernel, by decide +kernel, rfl, rfl⟩,
   ⟨0, _, aFlashPage, { aSuper with blocks := [blockKey aFlashPage] }, _,
     { State.reset with gran := { GranSt.reset with profile := { aProfile with pages := 1, planes := 1, blocks := 1 }, supers := [{ aSuper with blocks := [blockKey aFlashPage] }] } },
     by decide +kernel, by decide +kernel, rfl, by decide +kernel, by decide +kernel, by decide +kernel, by decide +kernel,
     rfl⟩,
   ⟨0, 0, { State.reset with gran := { GranSt.reset with profile := { aProfile with pages := 1, planes := 1, blocks := 1 }, blocks := [(0, { aBlock with st := 3 })] } },
     by decide +kernel⟩,
   ⟨0, _, _, { State.reset with gran := { GranSt.reset with collecting := [0] } }, by decide +kernel, by decide +kernel,
     by decide +kernel, rfl, rfl⟩,
   ⟨0, 0, _, 0, false, _, { State.reset with gran := { GranSt.reset with map := [(0, 0)] } }, by decide +kernel,
     by decide +kernel, rfl, rfl⟩,
   ⟨{ State.reset with now := 2 ^ 40 }, by decide +kernel⟩,
   ⟨{ State.reset with now := 2 ^ 40 }, by decide +kernel⟩,
   ⟨127, State.reset, by decide +kernel⟩⟩

/-- What each clause of StackEventsRun asks for can be met. -/
theorem witness_StackEventsRun :
    (∃ (bank time : Nat) (s : State), s.pwr.rails = true ∧ bank < 8192 ∧ tget 0 s.stk.refreshAt bank + s.refreshPeriod (bank
      / 1024) ≤ time) ∧
    (∃ (stack demand : Nat) (u s : State), Runs s ∧ stack < 8 ∧ u = (s.tallyN .NBU_GOV_HOLDS (demand - s.scanAllow
      stack)).setB (Reg.NBU_STACK_GOV_HOLD stack) (decide (s.scanAllow stack < demand))) ∧
    (∃ (periods ticks : Nat) (s : State), Runs s ∧ 12 * ticks < 100 * (periods - 4 * ticks + (4 * ticks - periods))) ∧
    (∃ (stack : Nat) (s : State), stack < 8 ∧ s.flag (Reg.STACK_TEMP_HOT stack) = true ∧ tget 0 s.stk.coolFrom stack ≠ 0 ∧
      tget 0 s.stk.coolFrom stack + 250000 ≤ s.now + 1) ∧
    (∃ (a : ChunkAddr) (burst : List Byte) (s : State), Runs s ∧ rsDecode burst (a.row * 512 + a.bank * 32 + a.col)
      (s.erasures a.chan) = none) ∧
    (∃ (a : ChunkAddr) (burst : List Byte) (s : State) (x : _), Runs s ∧ rsDecode burst (a.row * 512 + a.bank * 32 + a.col)
      (s.erasures a.chan) = some x) ∧
    (∃ (chan via : Nat) (s : State), Runs s ∧ chan < 512 ∧ via < 232) ∧
    (∃ (chan bank : Nat) (s : State), Runs s ∧ chan < 512 ∧ bank < 16) ∧
    (∃ (chan : Nat) (cause : ChanCause) (s : State), Runs s ∧ chan < 512 ∧ s.get (Reg.STACK_CH_STATE chan) = 0 ∧ s.chanFails
      chan cause = true) :=
  ⟨⟨8191, 388, State.reset, by decide +kernel⟩,
   ⟨7, 0, _, State.reset, by decide +kernel, by decide +kernel, rfl⟩,
   ⟨1, 0, State.reset, by decide +kernel⟩,
   ⟨0, with_ { State.reset with now := 250000, stk := { StackSt.reset with coolFrom := [(0, 1)] } } [(Reg.STACK_TEMP_HOT 0,
     1)], by decide +kernel⟩,
   ⟨aChunkAddr, [], State.reset, by decide +kernel⟩,
   ⟨aChunkAddr, List.replicate 72 0, State.reset, (List.replicate 72 0, []), by decide +kernel⟩,
   ⟨511, 231, State.reset, by decide +kernel⟩,
   ⟨511, 15, State.reset, by decide +kernel⟩,
   ⟨0, .training, State.reset, by decide +kernel⟩⟩

/-- What each clause of StackThermalBands asks for can be met. -/
theorem witness_StackThermalBands :
    (∃ (stack from_ mx : Nat) (dies : List Nat) (a b c d s : State), s.awake = true ∧ stack < 8 ∧ dies ≠ [] ∧ mx = dies.foldl
      max 0 ∧ a = ((s.set (Reg.STACK_TEMP_MAX_C stack) mx).set (Reg.STACK_TEMP_MIN_C stack) (dies.foldl min mx)).set
      (Reg.STACK_TEMP_HOTTEST_DIE stack) (hottest dies) ∧ b = (if 83 ≤ mx then a.showHot stack true else a) ∧ from_ = (if mx
      ≤ 80 then (if tget 0 b.stk.coolFrom stack = 0 then b.now + 1 else tget 0 b.stk.coolFrom stack) else 0) ∧ c = b.modStk
      (fun k => { k with coolFrom := tset 0 k.coolFrom stack from_ }) ∧ (d = (if 105 < mx ∧ c.flag
      (Reg.STACK_TEMP_SCAN_HALVED stack) = false then (c.setB Reg.STACK_STATUS_THERM_EVT true).faultEvent else c))) :=
  ⟨0, _, _, [105], _, _, _, _, State.reset, by decide +kernel, by decide +kernel, by decide +kernel, rfl, rfl, rfl, rfl, rfl,
    rfl⟩

/-- What each clause of SyncOperationsRun asks for can be met. -/
theorem witness_SyncOperationsRun :
    (∃ (h : HostReq) (p o arg reply tag code : Nat) (w : SyncWaiter) (u s : State), Takes s ∧ Bound s h p ∧ s.syncOwner o = p
      ∧ o < 131072 ∧ reply % 16 = 0 ∧ syncAllowed (s.get (Reg.SYNC_TYPE o)) code = true ∧ s.flag (Reg.SYNC_ENABLE o) = true ∧
      s.flag (Reg.PART_CFG_ENABLE p) = true ∧ u = (s.tallyP .SYNC_OPS p).stick (Reg.SYNC_OPS o) 1 ∧ w =
      { take := decide (code = 2), pid := h.pid, arg := arg % 2 ^ 64, reply := reply, tag := tag % 65536 } ∧ code = 1 ∧
      u.syncValue o + w.arg < 2 ^ 64) ∧
    (∃ (h : HostReq) (p o arg reply tag code : Nat) (w : SyncWaiter) (u s : State), Takes s ∧ Bound s h p ∧ s.syncOwner o = p
      ∧ o < 131072 ∧ reply % 16 = 0 ∧ syncAllowed (s.get (Reg.SYNC_TYPE o)) code = true ∧ s.flag (Reg.SYNC_ENABLE o) = true ∧
      s.flag (Reg.PART_CFG_ENABLE p) = true ∧ u = (s.tallyP .SYNC_OPS p).stick (Reg.SYNC_OPS o) 1 ∧ w =
      { take := decide (code = 2), pid := h.pid, arg := arg % 2 ^ 64, reply := reply, tag := tag % 65536 } ∧ code = 1 ∧ 2 ^
      64 ≤ u.syncValue o + w.arg) ∧
    (∃ (h : HostReq) (p o arg reply tag code : Nat) (w : SyncWaiter) (u s : State), Takes s ∧ Bound s h p ∧ s.syncOwner o = p
      ∧ o < 131072 ∧ reply % 16 = 0 ∧ syncAllowed (s.get (Reg.SYNC_TYPE o)) code = true ∧ s.flag (Reg.SYNC_ENABLE o) = true ∧
      s.flag (Reg.PART_CFG_ENABLE p) = true ∧ u = (s.tallyP .SYNC_OPS p).stick (Reg.SYNC_OPS o) 1 ∧ w =
      { take := decide (code = 2), pid := h.pid, arg := arg % 2 ^ 64, reply := reply, tag := tag % 65536 } ∧ code = 2 ∧ w.arg
      ≤ u.syncValue o ∧ (u.waitersOf o).any (·.take) = false) ∧
    (∃ (h : HostReq) (p o arg reply tag code : Nat) (w : SyncWaiter) (u s : State), Takes s ∧ Bound s h p ∧ s.syncOwner o = p
      ∧ o < 131072 ∧ reply % 16 = 0 ∧ syncAllowed (s.get (Reg.SYNC_TYPE o)) code = true ∧ s.flag (Reg.SYNC_ENABLE o) = true ∧
      s.flag (Reg.PART_CFG_ENABLE p) = true ∧ u = (s.tallyP .SYNC_OPS p).stick (Reg.SYNC_OPS o) 1 ∧ w =
      { take := decide (code = 2), pid := h.pid, arg := arg % 2 ^ 64, reply := reply, tag := tag % 65536 } ∧ code = 2 ∧
      u.syncValue o < w.arg) ∧
    (∃ (h : HostReq) (p o arg reply tag code : Nat) (w : SyncWaiter) (u s : State), Takes s ∧ Bound s h p ∧ s.syncOwner o = p
      ∧ o < 131072 ∧ reply % 16 = 0 ∧ syncAllowed (s.get (Reg.SYNC_TYPE o)) code = true ∧ s.flag (Reg.SYNC_ENABLE o) = true ∧
      s.flag (Reg.PART_CFG_ENABLE p) = true ∧ u = (s.tallyP .SYNC_OPS p).stick (Reg.SYNC_OPS o) 1 ∧ w =
      { take := decide (code = 2), pid := h.pid, arg := arg % 2 ^ 64, reply := reply, tag := tag % 65536 } ∧ code = 3) ∧
    (∃ (h : HostReq) (p o arg reply tag code : Nat) (w : SyncWaiter) (u s : State), Takes s ∧ Bound s h p ∧ s.syncOwner o = p
      ∧ o < 131072 ∧ reply % 16 = 0 ∧ syncAllowed (s.get (Reg.SYNC_TYPE o)) code = true ∧ s.flag (Reg.SYNC_ENABLE o) = true ∧
      s.flag (Reg.PART_CFG_ENABLE p) = true ∧ u = (s.tallyP .SYNC_OPS p).stick (Reg.SYNC_OPS o) 1 ∧ w =
      { take := decide (code = 2), pid := h.pid, arg := arg % 2 ^ 64, reply := reply, tag := tag % 65536 } ∧ code = 4) ∧
    (∃ (h : HostReq) (p o arg reply tag code : Nat) (w : SyncWaiter) (u s : State), Takes s ∧ Bound s h p ∧ s.syncOwner o = p
      ∧ o < 131072 ∧ reply % 16 = 0 ∧ syncAllowed (s.get (Reg.SYNC_TYPE o)) code = true ∧ s.flag (Reg.SYNC_ENABLE o) = true ∧
      s.flag (Reg.PART_CFG_ENABLE p) = true ∧ u = (s.tallyP .SYNC_OPS p).stick (Reg.SYNC_OPS o) 1 ∧ w =
      { take := decide (code = 2), pid := h.pid, arg := arg % 2 ^ 64, reply := reply, tag := tag % 65536 } ∧ code = 5 ∧ w.arg
      ≤ u.syncValue o) ∧
    (∃ (h : HostReq) (p o arg reply tag code : Nat) (w : SyncWaiter) (u s : State), Takes s ∧ Bound s h p ∧ s.syncOwner o = p
      ∧ o < 131072 ∧ reply % 16 = 0 ∧ syncAllowed (s.get (Reg.SYNC_TYPE o)) code = true ∧ s.flag (Reg.SYNC_ENABLE o) = true ∧
      s.flag (Reg.PART_CFG_ENABLE p) = true ∧ u = (s.tallyP .SYNC_OPS p).stick (Reg.SYNC_OPS o) 1 ∧ w =
      { take := decide (code = 2), pid := h.pid, arg := arg % 2 ^ 64, reply := reply, tag := tag % 65536 } ∧ code = 5 ∧
      u.syncValue o < w.arg) ∧
    (∃ (h : HostReq) (p o arg reply tag code : Nat) (w : SyncWaiter) (u s : State), Takes s ∧ Bound s h p ∧ s.syncOwner o = p
      ∧ o < 131072 ∧ reply % 16 = 0 ∧ syncAllowed (s.get (Reg.SYNC_TYPE o)) code = true ∧ s.flag (Reg.SYNC_ENABLE o) = true ∧
      s.flag (Reg.PART_CFG_ENABLE p) = true ∧ u = (s.tallyP .SYNC_OPS p).stick (Reg.SYNC_OPS o) 1 ∧ w =
      { take := decide (code = 2), pid := h.pid, arg := arg % 2 ^ 64, reply := reply, tag := tag % 65536 } ∧ code = 6) ∧
    (∃ (h : HostReq) (p o c reply : Nat) (s : State), Takes s ∧ Bound s h p ∧ s.syncOwner o = p ∧ o < 131072 ∧ reply % 16 = 0
      ∧ 7 ≤ c ∧ c < 256) ∧
    (∃ (h : HostReq) (p : Nat) (s : State), Takes s ∧ Bound s h p) ∧
    (∃ (h : HostReq) (p o value : Nat) (u v s : State), Takes s ∧ Bound s h p ∧ s.syncOwner o = p ∧ o < 131072 ∧ bits value
      13 11 = 0 ∧ bits value 11 1 = 0 ∧ (¬ (bit value 12 = true ∧ s.get (Reg.CXP_VEC_PARTITION (bits value 0 11)) ≠ p)) ∧ (u
      = (if s.get (Reg.SYNC_TYPE o) ≠ bits value 28 3 ∨ s.flag (Reg.SYNC_ENABLE o) = true ∧ bit value 31 = false then
      s.syncDrain o else s)) ∧ v = ((((u.setB (Reg.SYNC_ENABLE o) (bit value 31)).set (Reg.SYNC_TYPE o) (bits value 28
      3)).set (Reg.SYNC_RING o) (bits value 24 4)).setB (Reg.SYNC_IRQ o) (bit value 12)).set (Reg.SYNC_VECTOR o) (bits value
      0 11)) :=
  ⟨⟨⟨0, 0, false⟩, 1, 0, 1, 0, 0, 1, _, _, synced, by decide +kernel, by decide +kernel, by decide +kernel,
    by decide +kernel, by decide +kernel, by decide +kernel, by decide +kernel, by decide +kernel, rfl, rfl,
    by decide +kernel⟩,
   ⟨⟨0, 0, false⟩, 1, 0, 1, 0, 0, 1, _, _, with_ synced [(Reg.SYNC_VALUE 0, 2 ^ 64 - 1)], by decide +kernel,
     by decide +kernel, by decide +kernel, by decide +kernel, by decide +kernel, by decide +kernel, by decide +kernel,
     by decide +kernel, rfl, rfl, by decide +kernel⟩,
   ⟨⟨0, 0, false⟩, 1, 0, 0, 0, 0, 2, _, _, synced, by decide +kernel, by decide +kernel, by decide +kernel,
     by decide +kernel, by decide +kernel, by decide +kernel, by decide +kernel, by decide +kernel, rfl, rfl,
     by decide +kernel⟩,
   ⟨⟨0, 0, false⟩, 1, 0, 1, 0, 0, 2, _, _, synced, by decide +kernel, by decide +kernel, by decide +kernel,
     by decide +kernel, by decide +kernel, by decide +kernel, by decide +kernel, by decide +kernel, rfl, rfl,
     by decide +kernel⟩,
   ⟨⟨0, 0, false⟩, 1, 0, 0, 0, 0, 3, _, _, synced, by decide +kernel, by decide +kernel, by decide +kernel,
     by decide +kernel, by decide +kernel, by decide +kernel, by decide +kernel, by decide +kernel, rfl, rfl,
     by decide +kernel⟩,
   ⟨⟨0, 0, false⟩, 1, 0, 0, 0, 0, 4, _, _, synced, by decide +kernel, by decide +kernel, by decide +kernel,
     by decide +kernel, by decide +kernel, by decide +kernel, by decide +kernel, by decide +kernel, rfl, rfl,
     by decide +kernel⟩,
   ⟨⟨0, 0, false⟩, 1, 0, 0, 0, 0, 5, _, _, synced, by decide +kernel, by decide +kernel, by decide +kernel,
     by decide +kernel, by decide +kernel, by decide +kernel, by decide +kernel, by decide +kernel, rfl, rfl,
     by decide +kernel⟩,
   ⟨⟨0, 0, false⟩, 1, 0, 1, 0, 0, 5, _, _, synced, by decide +kernel, by decide +kernel, by decide +kernel,
     by decide +kernel, by decide +kernel, by decide +kernel, by decide +kernel, by decide +kernel, rfl, rfl,
     by decide +kernel⟩,
   ⟨⟨0, 0, false⟩, 1, 0, 0, 0, 0, 6, _, _, synced, by decide +kernel, by decide +kernel, by decide +kernel,
     by decide +kernel, by decide +kernel, by decide +kernel, by decide +kernel, by decide +kernel, rfl, rfl,
     by decide +kernel⟩,
   ⟨⟨0, 0, false⟩, 1, 0, 255, 0, synced, by decide +kernel⟩,
   ⟨⟨0, 0, false⟩, 1, synced, by decide +kernel⟩,
   ⟨⟨0, 0, false⟩, 1, 0, 2 ^ 31, _, _, synced, by decide +kernel, by decide +kernel, by decide +kernel, by decide +kernel,
     by decide +kernel, by decide +kernel, by decide +kernel, rfl, rfl⟩⟩

/-- What each clause of HostRegisterWritesRun asks for can be met. -/
theorem witness_HostRegisterWritesRun :
    (∃ (h : HostReq) (p i value : Nat) (s : State), Takes s ∧ Bound s h p ∧ i < 512 ∧ bits value 48 15 = 0) ∧
    (∃ (h : HostReq) (p i : Nat) (s : State), Takes s ∧ Bound s h p ∧ i < 2048 ∧ s.get (Reg.CXP_VEC_PARTITION i) = p) ∧
    (∃ (h : HostReq) (p value : Nat) (s : State), Takes s ∧ Bound s h p ∧ bits value 11 20 = 0 ∧ bit value 31 = false) ∧
    (∃ (h : HostReq) (p value : Nat) (u s : State), Takes s ∧ Bound s h p ∧ bits value 11 20 = 0 ∧ bit value 31 = true ∧ u =
      (s.setB (Reg.PART_EVT_CFG_ENABLE p) true).set (Reg.PART_EVT_CFG_VECTOR p) (bits value 0 11)) ∧
    (∃ (h : HostReq) (p slot : Nat) (u s : State), Takes s ∧ Bound s h p ∧ slot < 8 ∧ s.get (Reg.CFG_STAGE_OP p slot) ≠ 1 ∧ u
      = (((s.set (Reg.CFG_STAGE_OP p slot) 1).set (Reg.CFG_STAGE_STATUS p slot) 0).set (Reg.CFG_STAGE_DONE p slot) 0).set
      (Reg.CFG_STAGE_REASON p slot) 0 ∧ (u.get (Reg.CFG_STAGE_LENGTH p slot) < 112 ∨ 65528 < u.get (Reg.CFG_STAGE_LENGTH p
      slot) ∨ u.get (Reg.CFG_STAGE_ADDR p slot) % 64 ≠ 0)) ∧
    (∃ (h : HostReq) (p slot : Nat) (w : ReportWait) (u s : State), Takes s ∧ Bound s h p ∧ slot < 4 ∧ s.get
      (Reg.SEC_REPORT_OP p slot) ≠ 1 ∧ w =
      { part := p, slot := slot, pid := h.pid, step := s.get (Reg.SEC_REPORT_STEP p slot), dst := s.get (Reg.SEC_REPORT_DST p slot), nonce := s.get (Reg.SEC_REPORT_NONCE p slot), cap := s.get (Reg.SEC_REPORT_CAPACITY p slot) }
      ∧ u = (((s.set (Reg.SEC_REPORT_OP p slot) 1).set (Reg.SEC_REPORT_STATUS p slot) 0).set (Reg.SEC_REPORT_DONE p slot)
      0).set (Reg.SEC_REPORT_LENGTH p slot) 0 ∧ w.step < u.openStep + 2) ∧
    (∃ (h : HostReq) (p slot : Nat) (w : ReportWait) (u s : State), Takes s ∧ Bound s h p ∧ slot < 4 ∧ s.get
      (Reg.SEC_REPORT_OP p slot) ≠ 1 ∧ w =
      { part := p, slot := slot, pid := h.pid, step := s.get (Reg.SEC_REPORT_STEP p slot), dst := s.get (Reg.SEC_REPORT_DST p slot), nonce := s.get (Reg.SEC_REPORT_NONCE p slot), cap := s.get (Reg.SEC_REPORT_CAPACITY p slot) }
      ∧ u = (((s.set (Reg.SEC_REPORT_OP p slot) 1).set (Reg.SEC_REPORT_STATUS p slot) 0).set (Reg.SEC_REPORT_DONE p slot)
      0).set (Reg.SEC_REPORT_LENGTH p slot) 0 ∧ u.openStep + 2 ≤ w.step ∧ w.step ≤ u.openStep + 2 ^ 20 ∧ w.dst % 64 = 0) ∧
    (∃ (h : HostReq) (p a bytes : Nat) (s : State), Takes s ∧ Bound s h p ∧ (a < 0x800000 ∨ 0x1000000 ≤ a ∧ a < 0x1820000) ∧
      (bytes = 4 ∨ bytes = 8) ∧ a % bytes = 0) ∧
    (∃ (h : HostReq) (p a bytes : Nat) (s : State), Takes s ∧ Bound s h p ∧ (a < 0x800000 ∨ 0x1000000 ≤ a ∧ a < 0x1820000) ∧
      bytes ≠ 4 ∧ bytes ≠ 8) ∧
    (∃ (h : HostReq) (p value : Nat) (s : State), Takes s ∧ Bound s h p ∧ value % 4 ≠ 0) ∧
    (∃ (l e : Nat) (s : State), Runs s ∧ l = s.get Reg.SHAPE_STATUS_ACTIVE_LIST ∧ e = s.host.gateEntry ∧ e + 1 < s.get
      (Reg.SHAPE_GATE_HDR_COUNT l) ∧ s.host.gateStart + s.get (Reg.SHAPE_GATE_DURATION l e) ≤ s.now) :=
  ⟨⟨⟨0, 0, false⟩, 1, 511, 2 ^ 48 - 1, hosted, by decide +kernel⟩,
   ⟨⟨0, 0, false⟩, 1, 0, with_ hosted [(Reg.CXP_VEC_PARTITION 0, 1)], by decide +kernel⟩,
   ⟨⟨0, 0, false⟩, 1, 0, hosted, by decide +kernel⟩,
   ⟨⟨0, 0, false⟩, 1, 2 ^ 31, _, hosted, by decide +kernel, by decide +kernel, by decide +kernel, by decide +kernel, rfl⟩,
   ⟨⟨0, 0, false⟩, 1, 7, _, hosted, by decide +kernel, by decide +kernel, by decide +kernel, by decide +kernel, rfl,
     by decide +kernel⟩,
   ⟨⟨0, 0, false⟩, 1, 3, _, _, hosted, by decide +kernel, by decide +kernel, by decide +kernel, by decide +kernel, rfl, rfl,
     by decide +kernel⟩,
   ⟨⟨0, 0, false⟩, 1, 0, _, _, with_ hosted [(Reg.SEC_REPORT_STEP 1 0, 3)], by decide +kernel, by decide +kernel,
     by decide +kernel, by decide +kernel, rfl, rfl, by decide +kernel⟩,
   ⟨⟨0, 0, false⟩, 1, 0x181FFFC, 4, hosted, by decide +kernel⟩,
   ⟨⟨0, 0, false⟩, 1, 0, 1, hosted, by decide +kernel⟩,
   ⟨⟨0, 0, false⟩, 1, 1, hosted, by decide +kernel⟩,
   ⟨_, _, with_ State.reset [(Reg.SHAPE_GATE_HDR_COUNT 0, 2)], by decide +kernel, rfl, rfl, by decide +kernel⟩⟩

/-- What each clause of HostFunctionRuns asks for can be met. -/
theorem witness_HostFunctionRuns :
    (∃ (h : HostReq) (size : Nat) (c : HostCtx) (s : State), Takes s ∧ Configures s h ∧ (s.flag Reg.CXP_CFG_REQUIRE_IDE =
      false ∨ h.ide = true) ∧ c = s.ctx h.pid ∧ size = s.shmSize) ∧
    (∃ (h : HostReq) (size : Nat) (c : HostCtx) (s : State), Takes s ∧ Configures s h ∧ (s.flag Reg.CXP_CFG_REQUIRE_IDE =
      false ∨ h.ide = true) ∧ c = s.ctx h.pid ∧ size = s.exporters * s.resBytes) ∧
    (∃ (h : HostReq) (size : Nat) (c : HostCtx) (s : State) (ways : _), Takes s ∧ Configures s h ∧ (s.flag
      Reg.CXP_CFG_REQUIRE_IDE = false ∨ h.ide = true) ∧ c = s.ctx h.pid ∧ (ways ≠ 1 ∨ size ≠ s.shmSize)) ∧
    (∃ (h : HostReq) (size : Nat) (c : HostCtx) (s : State) (ways : _), Takes s ∧ Configures s h ∧ (s.flag
      Reg.CXP_CFG_REQUIRE_IDE = false ∨ h.ide = true) ∧ c = s.ctx h.pid ∧ (ways ≠ 1 ∨ size ≠ s.exporters * s.resBytes)) ∧
    (∃ (h : HostReq) (s : State), Takes s ∧ Configures s h ∧ (s.flag Reg.CXP_CFG_REQUIRE_IDE = false ∨ h.ide = true)) ∧
    (∃ (h : HostReq) (s : State), Takes s ∧ Configures s h ∧ (s.ctx h.pid).spdm.session = true) ∧
    (∃ (h : HostReq) (s : State), Takes s ∧ Configures s h ∧ (s.ctx h.pid).spdm.session = true ∧ h.port < 2) ∧
    (∃ (pid step src : Nat) (got : List Nat) (s : State), Runs s ∧ (s.ctx pid).resetStep = some step ∧ got = (if (s.ctx
      pid).confirmed.contains src then (s.ctx pid).confirmed else (s.ctx pid).confirmed ++ [src]) ∧ (s.me ::
      s.otherMembers).all (fun n => got.contains n) = false) :=
  ⟨⟨⟨0, 0, false⟩, _, _, hosted, by decide +kernel, ⟨0, by decide +kernel⟩, by decide +kernel, rfl, rfl⟩,
   ⟨⟨0, 0, false⟩, _, _, hosted, by decide +kernel, ⟨0, by decide +kernel⟩, by decide +kernel, rfl, rfl⟩,
   ⟨⟨0, 0, false⟩, 0, _, hosted, 2, by decide +kernel, ⟨0, by decide +kernel⟩, by decide +kernel, rfl, by decide +kernel⟩,
   ⟨⟨0, 0, false⟩, 0, _, hosted, 2, by decide +kernel, ⟨0, by decide +kernel⟩, by decide +kernel, rfl, by decide +kernel⟩,
   ⟨⟨0, 0, false⟩, hosted, by decide +kernel, ⟨0, by decide +kernel⟩, by decide +kernel⟩,
   ⟨⟨0, 0, false⟩, { hosted with host := { HostSt.reset with ctx := [(0, { HostCtx.fresh with spdm := { HostCtx.fresh.spdm with session := true } })] } },
     by decide +kernel, ⟨0, by decide +kernel⟩, by decide +kernel⟩,
   ⟨⟨0, 0, false⟩, { hosted with host := { HostSt.reset with ctx := [(0, { HostCtx.fresh with spdm := { HostCtx.fresh.spdm with session := true } })] } },
     by decide +kernel, ⟨0, by decide +kernel⟩, by decide +kernel⟩,
   ⟨0, 1, 0, _, with_ { hosted with ovl := { OvlSt.reset with treeParent := [(1, 0)] }, host := { HostSt.reset with ctx := [(0, { HostCtx.fresh with resetStep := some 1 })] } }
     [(Reg.STEP_MEMBERS, 3)], by decide +kernel, by decide +kernel, rfl, by decide +kernel⟩⟩

/-- What each clause of SpdmRequestsRun asks for can be met. -/
theorem witness_SpdmRequestsRun :
    (∃ (h : HostReq) (s : State), Takes s ∧ Configures s h) ∧
    (∃ (h : HostReq) (x : Spdm) (s : State), Takes s ∧ Configures s h ∧ x = (s.ctx h.pid).spdm ∧ x.stage = 1) ∧
    (∃ (h : HostReq) (x : Spdm) (s : State), Takes s ∧ Configures s h ∧ x = (s.ctx h.pid).spdm ∧ x.stage = 2) ∧
    (∃ (h : HostReq) (x : Spdm) (s : State), Takes s ∧ Configures s h ∧ x = (s.ctx h.pid).spdm ∧ x.ready = true) ∧
    (∃ (h : HostReq) (x : Spdm) (s : State), Takes s ∧ Configures s h ∧ x = (s.ctx h.pid).spdm ∧ x.ready = true) ∧
    (∃ (h : HostReq) (x : Spdm) (s : State), Takes s ∧ Configures s h ∧ x = (s.ctx h.pid).spdm ∧ x.ready = true) ∧
    (∃ (h : HostReq) (x : Spdm) (s : State) (index : _), Takes s ∧ Configures s h ∧ x = (s.ctx h.pid).spdm ∧ x.ready = true ∧
      1 ≤ index ∧ index ≤ 8) ∧
    (∃ (h : HostReq) (x : Spdm) (s : State), Takes s ∧ Configures s h ∧ x = (s.ctx h.pid).spdm ∧ x.ready = true) ∧
    (∃ (h : HostReq) (x : Spdm) (s : State), Takes s ∧ Configures s h ∧ x = (s.ctx h.pid).spdm ∧ x.keyed = true) ∧
    (∃ (h : HostReq) (x : Spdm) (s : State), Takes s ∧ Configures s h ∧ x = (s.ctx h.pid).spdm ∧ x.session = true) :=
  ⟨⟨⟨0, 0, false⟩, hosted, by decide +kernel, ⟨0, by decide +kernel⟩⟩,
   ⟨⟨0, 0, false⟩, _, { hosted with host := { HostSt.reset with ctx := [(0, { HostCtx.fresh with spdm := { HostCtx.fresh.spdm with stage := 1 } })] } },
     by decide +kernel, ⟨0, by decide +kernel⟩, rfl, by decide +kernel⟩,
   ⟨⟨0, 0, false⟩, _, { hosted with host := { HostSt.reset with ctx := [(0, { HostCtx.fresh with spdm := { HostCtx.fresh.spdm with stage := 2 } })] } },
     by decide +kernel, ⟨0, by decide +kernel⟩, rfl, by decide +kernel⟩,
   ⟨⟨0, 0, false⟩, _, { hosted with host := { HostSt.reset with ctx := [(0, { HostCtx.fresh with spdm := { HostCtx.fresh.spdm with stage := 3 } })] } },
     by decide +kernel, ⟨0, by decide +kernel⟩, rfl, by decide +kernel⟩,
   ⟨⟨0, 0, false⟩, _, { hosted with host := { HostSt.reset with ctx := [(0, { HostCtx.fresh with spdm := { HostCtx.fresh.spdm with stage := 3 } })] } },
     by decide +kernel, ⟨0, by decide +kernel⟩, rfl, by decide +kernel⟩,
   ⟨⟨0, 0, false⟩, _, { hosted with host := { HostSt.reset with ctx := [(0, { HostCtx.fresh with spdm := { HostCtx.fresh.spdm with stage := 3 } })] } },
     by decide +kernel, ⟨0, by decide +kernel⟩, rfl, by decide +kernel⟩,
   ⟨⟨0, 0, false⟩, _, { hosted with host := { HostSt.reset with ctx := [(0, { HostCtx.fresh with spdm := { HostCtx.fresh.spdm with stage := 3 } })] } },
     8, by decide +kernel, ⟨0, by decide +kernel⟩, rfl, by decide +kernel⟩,
   ⟨⟨0, 0, false⟩, _, { hosted with host := { HostSt.reset with ctx := [(0, { HostCtx.fresh with spdm := { HostCtx.fresh.spdm with stage := 3 } })] } },
     by decide +kernel, ⟨0, by decide +kernel⟩, rfl, by decide +kernel⟩,
   ⟨⟨0, 0, false⟩, _, { hosted with host := { HostSt.reset with ctx := [(0, { HostCtx.fresh with spdm := { HostCtx.fresh.spdm with keyed := true } })] } },
     by decide +kernel, ⟨0, by decide +kernel⟩, rfl, by decide +kernel⟩,
   ⟨⟨0, 0, false⟩, _, { hosted with host := { HostSt.reset with ctx := [(0, { HostCtx.fresh with spdm := { HostCtx.fresh.spdm with session := true } })] } },
     by decide +kernel, ⟨0, by decide +kernel⟩, rfl, by decide +kernel⟩⟩

/-- What each clause of CxlPortEventsRun asks for can be met. -/
theorem witness_CxlPortEventsRun :
    (∃ (port : Nat) (s : State), Runs s ∧ port < 2 ∧ s.pwr.perst.contains port = false) ∧
    (∃ (port : Nat) (s : State), Runs s ∧ port < 2 ∧ s.get (Reg.CXP_PORT_STATE port) ≠ 0) ∧
    (∃ (port : Nat) (drop : Tab HostCtx → Tab HostCtx) (u s : State), Runs s ∧ port < 2 ∧ drop = (fun t => (t.map (fun e =>
      (e.1, { e.2 with ideKeyed := false }))).filter (fun e => decide (e.2 ≠ HostCtx.fresh))) ∧ u = (((s.tallyN
      .CXP_IDE_FAIL).setB Reg.CXP_STATUS_IDE_FAIL_EVT true).set (Reg.CXP_PORT_IO_IDE port) 0).set (Reg.CXP_PORT_MEM_IDE port)
      0) ∧
    (∃ (pid line : Nat) (s : State), Runs s ∧ (s.home.bisnp.any (fun b => decide (b.1 = line ∧ b.2.1 = pid ∧ b.2.2.2 + 2500 ≤
      s.now)) = true)) ∧
    (∃ (port : Nat) (u s : State), port < 2 ∧ u = s.modPwr (fun p =>
      { p with perst := if p.perst.contains port then p.perst else p.perst ++ [port] }) ∧ u.get (Reg.CXP_PORT_STATE port) ≠
      0) ∧
    (∃ (port : Nat) (u s : State), port < 2 ∧ u = s.modPwr (fun p =>
      { p with perst := p.perst.filter (fun x => decide (x ≠ port)) }) ∧ u.get (Reg.CXP_PORT_STATE port) = 0) :=
  ⟨⟨0, State.reset, by decide +kernel⟩,
   ⟨0, with_ State.reset [(Reg.CXP_PORT_STATE 0, 1)], by decide +kernel⟩,
   ⟨1, _, _, State.reset, by decide +kernel, by decide +kernel, rfl, rfl⟩,
   ⟨0, 0, { State.reset with now := 2500, home := { HomeSt.reset with bisnp := [(0, 0, false, 0)] } }, by decide +kernel⟩,
   ⟨0, _, with_ State.reset [(Reg.CXP_PORT_STATE 0, 1)], by decide +kernel, rfl, by decide +kernel⟩,
   ⟨0, _, State.reset, by decide +kernel, rfl, by decide +kernel⟩⟩

/-- What each clause of GranuleCacheRuns asks for can be met. -/
theorem witness_GranuleCacheRuns :
    (∃ (granule : Nat) (f : Nat × Nat × Nat) (s : State), Runs s ∧ s.home.filling.find? (fun f => decide (f.1 = granule)) =
      some f ∧ s.cacheFrames.length < s.home.frameCap) ∧
    (∃ (granule v : Nat) (f : Nat × Nat × Nat) (u s : State), Runs s ∧ s.home.filling.find? (fun f => decide (f.1 = granule))
      = some f ∧ s.home.frameCap ≤ s.cacheFrames.length ∧ s.frameVictim = some v ∧ u = s.recallGranule v true ∧ u.granuleIdle
      v = true) ∧
    (∃ (granule : Nat) (f : Frame) (s : State), Runs s ∧ tfind s.home.frames granule = some f ∧ f.dirtyAt ≠ 0 ∧ f.dirtyAt +
      s.get Reg.HOME_CFG_WB_SECONDS * second ≤ s.now + 1) ∧
    (∃ (stream bad : Nat) (r : State × List FlashUnit) (s : State), Runs s ∧ r = s.verifySuper stream bad) ∧
    (∃ (id : OpId) (prevRelease d prev : Nat) (p : Publish) (a : Admitted) (s : State), Runs s ∧ s.home.pubs.find? (fun p =>
      decide (p.id = id) && !p.sent && !p.lostRace) = some p ∧ s.adm? id = some a ∧ s.flushed id = true ∧ d = s.get
      (Reg.HOME_REGION_DESC_ADDR p.region) / 64 ∧ (prev = (if s.homeOf d = s.me ∧ s.cached (d / 64) = true then lineWord
      (s.lineMem d) 40 else prevRelease)) ∧ s.flag (Reg.HOME_RANGE_INCOMPLETE p.stage) = true) ∧
    (∃ (id : OpId) (prevRelease d prev : Nat) (p : Publish) (a : Admitted) (s : State), Runs s ∧ s.home.pubs.find? (fun p =>
      decide (p.id = id) && !p.sent && !p.lostRace) = some p ∧ s.adm? id = some a ∧ s.flushed id = true ∧ d = s.get
      (Reg.HOME_REGION_DESC_ADDR p.region) / 64 ∧ (prev = (if s.homeOf d = s.me ∧ s.cached (d / 64) = true then lineWord
      (s.lineMem d) 40 else prevRelease)) ∧ s.flag (Reg.HOME_RANGE_INCOMPLETE p.stage) = false ∧ s.openStep < prev) ∧
    (∃ (id : OpId) (prevRelease d prev : Nat) (p : Publish) (a : Admitted) (s : State), Runs s ∧ s.home.pubs.find? (fun p =>
      decide (p.id = id) && !p.sent && !p.lostRace) = some p ∧ s.adm? id = some a ∧ s.flushed id = true ∧ d = s.get
      (Reg.HOME_REGION_DESC_ADDR p.region) / 64 ∧ (prev = (if s.homeOf d = s.me ∧ s.cached (d / 64) = true then lineWord
      (s.lineMem d) 40 else prevRelease)) ∧ s.flag (Reg.HOME_RANGE_INCOMPLETE p.stage) = false ∧ prev ≤ s.openStep) ∧
    (∃ (range : Nat) (u s : State), Runs s ∧ s.home.zeroing.contains range = true ∧ u = s.modHome (fun h =>
      { h with zeroing := h.zeroing.filter (fun i => decide (i ≠ range)) })) :=
  ⟨⟨0, (0, 0, 0), { State.reset with home := { HomeSt.reset with filling := [(0, 0, 0)], frameCap := 1 } },
    by decide +kernel⟩,
   ⟨0, 1, (0, 0, 0), _, with_
     ({ State.reset with home := { HomeSt.reset with exports := [1], filling := [(0, 0, 0)], frames := [(1, aFrame)] } })
     [(Reg.HOME_CFG_RES_GIB, 0)], by decide +kernel, by decide +kernel, by decide +kernel, by decide +kernel, rfl,
     by decide +kernel⟩,
   ⟨0, { aFrame with dirtyAt := 1 },
     { { State.reset with home := { HomeSt.reset with frames := [(0, { aFrame with dirtyAt := 1 })] } } with now := 2 ^ 40 },
     by decide +kernel⟩,
   ⟨0, 0, _, State.reset, by decide +kernel, rfl⟩,
   ⟨⟨0, 0, 0⟩, 0, _, _, aPublish, aAdmitted, with_
     { State.reset with home := { HomeSt.reset with exports := [1], pubs := [aPublish], flushes := [aFlush] }, srch := { SearchSt.reset with adm := [aAdmitted] } }
     [(Reg.HOME_RANGE_INCOMPLETE 0, 1)], by decide +kernel, by decide +kernel, by decide +kernel, by decide +kernel, rfl,
     rfl, by decide +kernel⟩,
   ⟨⟨0, 0, 0⟩, 1, _, _, aPublish, aAdmitted, with_
     { State.reset with home := { HomeSt.reset with exports := [1], pubs := [aPublish], flushes := [aFlush] }, srch := { SearchSt.reset with adm := [aAdmitted] } }
     [], by decide +kernel, by decide +kernel, by decide +kernel, by decide +kernel, rfl, rfl, by decide +kernel⟩,
   ⟨⟨0, 0, 0⟩, 0, _, _, aPublish, aAdmitted, with_
     { State.reset with home := { HomeSt.reset with exports := [1], pubs := [aPublish], flushes := [aFlush] }, srch := { SearchSt.reset with adm := [aAdmitted] } }
     [], by decide +kernel, by decide +kernel, by decide +kernel, by decide +kernel, rfl, rfl, by decide +kernel⟩,
   ⟨0, _, { State.reset with home := { HomeSt.reset with zeroing := [0] } }, by decide +kernel, by decide +kernel, rfl⟩⟩

/-- What each clause of HostMemoryRequestsRun asks for can be met. -/
theorem witness_HostMemoryRequestsRun :
    (∃ (h : HostReq) (hpa p i a : Nat) (s : State), Takes s ∧ p = s.hostPart h.pid ∧ s.bindOf h.pid = some i ∧ (s.flag
      Reg.CXP_CFG_REQUIRE_IDE && !h.ide) = false ∧ s.get (Reg.CXP_BIND_ENTRY_NODE i) = s.me ∧ s.flag (Reg.CXP_BIND_MEM_OK i)
      = true ∧ (s.ctx h.pid).fenced = false ∧ s.flag (Reg.PART_CFG_ENABLE p) = true ∧ s.flag Reg.HOME_MODE_SERVING = true ∧
      s.flag Reg.HOME_MODE_SWAP_ONLY = false ∧ s.sharedAddr h.pid hpa = some a ∧ s.homeUp (a / 64) = true ∧ s.canRead p (some
      h.pid) (64 * (a / 64)) 64 = true) ∧
    (∃ (h : HostReq) (hpa p i a : Nat) (s : State) (k : NodeLine), Takes s ∧ p = s.hostPart h.pid ∧ s.bindOf h.pid = some i ∧
      (s.flag Reg.CXP_CFG_REQUIRE_IDE && !h.ide) = false ∧ s.get (Reg.CXP_BIND_ENTRY_NODE i) = s.me ∧ s.flag
      (Reg.CXP_BIND_MEM_OK i) = true ∧ (s.ctx h.pid).fenced = false ∧ s.flag (Reg.PART_CFG_ENABLE p) = true ∧ s.flag
      Reg.HOME_MODE_SERVING = true ∧ s.flag Reg.HOME_MODE_SWAP_ONLY = false ∧ s.sharedAddr h.pid hpa = some a ∧ s.homeUp (a /
      64) = true ∧ s.canWrite p (some h.pid) (64 * (a / 64)) 64 = true ∧ s.sealed (a / 64) = false ∧ s.nodeLine (a / 64) =
      some k ∧ k.hosts.contains (h.pid, true) = true) ∧
    (∃ (h : HostReq) (hpa p i a : Nat) (s : State), Takes s ∧ p = s.hostPart h.pid ∧ s.bindOf h.pid = some i ∧ (s.flag
      Reg.CXP_CFG_REQUIRE_IDE && !h.ide) = false ∧ s.get (Reg.CXP_BIND_ENTRY_NODE i) = s.me ∧ s.flag (Reg.CXP_BIND_MEM_OK i)
      = true ∧ (s.ctx h.pid).fenced = false ∧ s.flag (Reg.PART_CFG_ENABLE p) = true ∧ s.flag Reg.HOME_MODE_SERVING = true ∧
      s.flag Reg.HOME_MODE_SWAP_ONLY = false ∧ s.sharedAddr h.pid hpa = some a ∧ s.homeUp (a / 64) = true ∧ s.canWrite p
      (some h.pid) (64 * (a / 64)) 64 = true ∧ s.sealed (a / 64) = false ∧ s.nodeLine (a / 64) = none) ∧
    (∃ (h : HostReq) (p slot : Nat) (s u : State), Takes s ∧ Bound s h p ∧ slot < 16 ∧ s.get (Reg.HOME_SWAP_OP p slot) = 0 ∧
      u = (s.set (Reg.HOME_SWAP_OP p slot) 1).set (Reg.HOME_SWAP_DONE p slot) 0 ∧ u.get (Reg.HOME_SWAP_SHM_ADDR p slot) %
      65536 ≠ 0) ∧
    (∃ (h : HostReq) (p slot : Nat) (s u : State), Takes s ∧ Bound s h p ∧ slot < 16 ∧ s.get (Reg.HOME_SWAP_OP p slot) = 0 ∧
      u = (s.set (Reg.HOME_SWAP_OP p slot) 2).set (Reg.HOME_SWAP_DONE p slot) 0 ∧ u.get (Reg.HOME_SWAP_SHM_ADDR p slot) %
      65536 ≠ 0) ∧
    (∃ (h : HostReq) (p slot a b : Nat) (u s : State), Takes s ∧ Bound s h p ∧ slot < 16 ∧ s.get (Reg.HOME_SWAP_OP p slot) =
      0 ∧ u = (s.set (Reg.HOME_SWAP_OP p slot) 1).set (Reg.HOME_SWAP_DONE p slot) 0 ∧ a = u.get (Reg.HOME_SWAP_SHM_ADDR p
      slot) ∧ b = u.get (Reg.HOME_SWAP_HOST_ADDR p slot) ∧ a % 65536 = 0 ∧ b % 4096 = 0 ∧ u.canWrite p (some h.pid) a 65536 =
      true ∧ u.pageHomesUp a = true) ∧
    (∃ (h : HostReq) (p slot a b : Nat) (u v s : State), Takes s ∧ Bound s h p ∧ slot < 16 ∧ s.get (Reg.HOME_SWAP_OP p slot)
      = 0 ∧ u = (s.set (Reg.HOME_SWAP_OP p slot) 2).set (Reg.HOME_SWAP_DONE p slot) 0 ∧ a = u.get (Reg.HOME_SWAP_SHM_ADDR p
      slot) ∧ b = u.get (Reg.HOME_SWAP_HOST_ADDR p slot) ∧ a % 65536 = 0 ∧ b % 4096 = 0 ∧ u.canRead p (some h.pid) a 65536 =
      true ∧ u.pageHomesUp a = true ∧ v = u.modHome (fun k =>
      { k with swaps := k.swaps ++ [{ part := p, slot := slot, pid := h.pid, op := 2, addr := a, host := b, writing := false }] }))
      ∧
    (∃ (p slot : Nat) (w : Swap) (s : State), Runs s ∧ (s.home.swaps.find? (fun w => decide (w.part = p ∧ w.slot = slot) &&
      !w.writing) = some w) ∧ w.op = 1) ∧
    (∃ (pid : Nat) (s : State), Runs s ∧ (s.ctx pid).fenced = true) ∧
    (∃ (pid line : Nat) (b : Nat × Nat × Bool × Nat) (s : State), Runs s ∧ (s.ctx pid).fenced = false ∧ (s.home.bisnp.find?
      (fun b => decide (b.1 = line ∧ b.2.1 = pid)) = some b) ∧ b.2.2.1 = true) :=
  ⟨⟨⟨0, 0, false⟩, 0, _, 0, 0, withMem, by decide +kernel, rfl, by decide +kernel⟩,
   ⟨⟨0, 0, false⟩, 0, _, 0, 0,
     { withMem with home := { withMem.home with held := [(0, { aNodeLine with hosts := [(0, true)] })] } },
     { aNodeLine with hosts := [(0, true)] }, by decide +kernel, rfl, by decide +kernel, by decide +kernel,
     by decide +kernel, by decide +kernel, by decide +kernel, by decide +kernel, by decide +kernel, by decide +kernel,
     by decide +kernel, by decide +kernel,
     (by unfold State.canWrite; rw [noDescLine_of _ _ _ (by decide +kernel)]; decide +kernel), by decide +kernel⟩,
   ⟨⟨0, 0, false⟩, 0, _, 0, 0, withMem, by decide +kernel, rfl, by decide +kernel, by decide +kernel, by decide +kernel,
     by decide +kernel, by decide +kernel, by decide +kernel, by decide +kernel, by decide +kernel, by decide +kernel,
     by decide +kernel, (by unfold State.canWrite; rw [noDescLine_of _ _ _ (by decide +kernel)]; decide +kernel),
     by decide +kernel⟩,
   ⟨⟨0, 0, false⟩, 1, 15, with_ hosted [(Reg.HOME_SWAP_SHM_ADDR 1 15, 1)], _, by decide +kernel, by decide +kernel,
     by decide +kernel, by decide +kernel, rfl, by decide +kernel⟩,
   ⟨⟨0, 0, false⟩, 1, 15, with_ hosted [(Reg.HOME_SWAP_SHM_ADDR 1 15, 65535)], _, by decide +kernel, by decide +kernel,
     by decide +kernel, by decide +kernel, rfl, by decide +kernel⟩,
   ⟨⟨0, 0, false⟩, 1, 0, _, _, _, withMem, by decide +kernel, by decide +kernel, by decide +kernel, by decide +kernel, rfl,
     rfl, rfl, by decide +kernel, by decide +kernel,
     (by unfold State.canWrite; rw [noDescLine_of _ _ _ (by decide +kernel)]; decide +kernel), by decide +kernel⟩,
   ⟨⟨0, 0, false⟩, 1, 0, _, _, _, _, withMem, by decide +kernel, by decide +kernel, by decide +kernel, by decide +kernel,
     rfl, rfl, rfl, by decide +kernel, by decide +kernel, by decide +kernel, by decide +kernel, rfl⟩,
   ⟨0, 0, { aSwap with op := 1 }, { State.reset with home := { HomeSt.reset with swaps := [{ aSwap with op := 1 }] } },
     by decide +kernel⟩,
   ⟨0, { State.reset with host := { HostSt.reset with ctx := [(0, { HostCtx.fresh with fenced := true })] } },
     by decide +kernel⟩,
   ⟨0, 0, (0, 0, true, 0), { State.reset with home := { HomeSt.reset with bisnp := [(0, 0, true, 0)] } }, by decide +kernel⟩⟩

/-- What each clause of SafetyEventsRun asks for can be met. -/
theorem witness_SafetyEventsRun :
    (∃ (cls : UnitClass) (unit : Nat) (s : State), Runs s ∧ s.safe.isolated.contains (cls, unit) = false) ∧
    (∃ (bank : Nat) (s : State), Runs s ∧ s.safe.isolated.contains (.nbu, bank) = false) ∧
    (∃ (cls : UnitClass) (unit k : Nat) (s : State), Runs s ∧ s.safe.isolated.contains (cls, unit) = true ∧ k = unitKey cls
      unit) ∧
    (∃ (cls : UnitClass) (unit k : Nat) (s : State), Runs s ∧ s.safe.isolated.contains (cls, unit) = true ∧ k = unitKey cls
      unit ∧ tget 0 s.safe.clean k + 1 < 1000) ∧
    (∃ (cls : UnitClass) (unit k : Nat) (s : State), Runs s ∧ s.safe.isolated.contains (cls, unit) = true ∧ k = unitKey cls
      unit ∧ 1000 ≤ tget 0 s.safe.clean k + 1 ∧ s.get Reg.SAFE_POLICY_READMIT = 1 ∧ tget 0 s.safe.isoTimes k < 2 ∧
      s.safe.readmitPending.contains (cls, unit) = false) ∧
    (∃ (waited : Nat) (s : State), Runs s ∧ s.get Reg.SAFE_POLICY_WDOG_TICKS ≤ waited) ∧
    (∃ (t : Nat) (s : State), Runs s ∧ s.safe.faultUntil = some t ∧ t ≤ s.now ∧ s.flag Reg.SAFE_STATUS_NODE_FAULT = false ∧
      s.flag Reg.NODE_PWR_STATUS_THERMAL_TRIP = false) :=
  ⟨⟨.node, 0, State.reset, by decide +kernel⟩,
   ⟨0, State.reset, by decide +kernel⟩,
   ⟨.node, 0, _, { State.reset with safe := { SafeSt.reset with isolated := [(.node, 0)] } }, by decide +kernel,
     by decide +kernel, rfl⟩,
   ⟨.node, 0, _, { State.reset with safe := { SafeSt.reset with isolated := [(.node, 0)], clean := [(unitKey .node 0, 998)] } },
     by decide +kernel, by decide +kernel, rfl, by decide +kernel⟩,
   ⟨.node, 0, _, with_ ({ State.reset with safe := { SafeSt.reset with isolated := [(.node, 0)], clean := [(unitKey .node 0, 999)] } })
     [(Reg.SAFE_POLICY_READMIT, 1)], by decide +kernel, by decide +kernel, rfl, by decide +kernel⟩,
   ⟨2 ^ 40, State.reset, by decide +kernel⟩,
   ⟨0, { State.reset with safe := { SafeSt.reset with faultUntil := some 0 } }, by decide +kernel⟩⟩

/-- What each clause of FreezeAndDebugPort asks for can be met. -/
theorem witness_FreezeAndDebugPort :
    (∃ (s : State), s.awake = true ∧ (s.frozen = true ∨ s.get Reg.CFG_STATUS_STAGE = 6)) ∧
    (∃ (s u : State), s.awake = true ∧ (s.frozen = true ∨ s.get Reg.CFG_STATUS_STAGE = 6) ∧ u = s.setFreeze (fun k =>
      { k with latch := true })) ∧
    (∃ (s : State), s.awake = true ∧ s.frozen = false ∧ s.get Reg.CFG_STATUS_STAGE ≠ 6) ∧
    (∃ (s u : State), s.awake = true ∧ s.frozen = false ∧ s.get Reg.CFG_STATUS_STAGE ≠ 6 ∧ u = s.setFreeze (fun k =>
      { k with latch := true, freezeWait := true })) ∧
    (∃ (s : State), s.awake = false) ∧
    (∃ (s u : State), u = s.setFreeze (fun k =>
      { k with latch := false, freezeWait := k.freezeWait && (k.pinLow || false) })) ∧
    (∃ (s : State), s.frozen = false) ∧
    (∃ (addr : Nat) (s : State), s.frozen = true ∧ addr / 2 ^ 60 = 0) ∧
    (∃ (addr : Nat) (s : State), s.frozen = true ∧ addr / 2 ^ 60 ≠ 0 ∧ s.dbgOpen (addr / 2 ^ 60) = false) ∧
    (∃ (addr : Nat) (s : State), s.frozen = true ∧ addr / 2 ^ 60 ≠ 0 ∧ s.dbgOpen (addr / 2 ^ 60) = true) ∧
    (∃ (s u : State), u = (s.draw (2 ^ 64)).2) :=
  ⟨⟨{ State.reset with safe := { SafeSt.reset with latch := true } }, by decide +kernel⟩,
   ⟨with_ State.reset [(Reg.CFG_STATUS_STAGE, 6)], _, by decide +kernel, by decide +kernel, rfl⟩,
   ⟨State.reset, by decide +kernel⟩,
   ⟨State.reset, _, by decide +kernel, by decide +kernel, by decide +kernel, rfl⟩,
   ⟨{ State.reset with awake := false }, by decide +kernel⟩,
   ⟨State.reset, _, rfl⟩,
   ⟨State.reset, by decide +kernel⟩,
   ⟨2 ^ 60 - 1, { State.reset with safe := { SafeSt.reset with latch := true } }, by decide +kernel⟩,
   ⟨2 ^ 61, { State.reset with safe := { SafeSt.reset with latch := true } }, by decide +kernel⟩,
   ⟨2 ^ 60, with_ ({ State.reset with safe := { SafeSt.reset with latch := true } }) [(Reg.SAFE_POLICY_DEBUG, 2)],
     by decide +kernel⟩,
   ⟨State.reset, _, rfl⟩⟩

/-- What each clause of PowerEventsRun asks for can be met. -/
theorem witness_PowerEventsRun :
    (∃ (s : State), Runs s ∧ s.pwr.sampleTick + 2500 ≤ s.now) ∧
    (∃ (s : State), s.awake = true) ∧
    (∃ (s : State), s.awake = true ∧ s.pwr.pwrFailN = true) ∧
    (∃ (s : State), s.awake = true) ∧
    (∃ (s : State), s.awake = false) ∧
    (∃ (s : State), s.awake = false) ∧
    (∃ (s : State), s.pwr.rails = true) ∧
    (∃ (s : State), s.pwr.rails = true ∧ s.pwr.i3cAddr ≠ none) :=
  ⟨⟨{ State.reset with now := 2500 }, by decide +kernel⟩,
   ⟨State.reset, by decide +kernel⟩,
   ⟨State.reset, by decide +kernel⟩,
   ⟨State.reset, by decide +kernel⟩,
   ⟨{ State.reset with awake := false }, by decide +kernel⟩,
   ⟨{ State.reset with awake := false }, by decide +kernel⟩,
   ⟨State.reset, by decide +kernel⟩,
   ⟨{ State.reset with pwr := { PwrSt.reset with i3cAddr := some 8 } }, by decide +kernel⟩⟩

/-- What each clause of ResetEventsRun asks for can be met. -/
theorem witness_ResetEventsRun :
    (∃ (u s : State), s.awake = true ∧ u = { s with pwr := { s.pwr with resetN := false, releaseHeld := none } } ∧ s.flag
      Reg.GRAN_STATUS_FLUSHING = false) ∧
    (∃ (u s : State), s.awake = true ∧ u = { s with pwr := { s.pwr with resetN := false, releaseHeld := none } } ∧ s.flag
      Reg.GRAN_STATUS_FLUSHING = true) ∧
    (∃ (s : State), s.awake = false) ∧
    (∃ (g1 sel : Bool) (u s : State), s.pwr.resetN = false ∧ u =
      ({ s with pwr := { s.pwr with resetN := true, releaseHeld := some (g1, sel) } } : State).tryRelease) ∧
    (∃ (u s : State), s.awake = true ∧ u = s.doReset) ∧
    (∃ (s : State), Runs s ∧ s.flag Reg.GRAN_STATUS_FLUSHING = true ∧ s.pwr.resetLatched = false) ∧
    (∃ (s : State), Runs s ∧ s.flag Reg.GRAN_STATUS_FLUSHING = true ∧ s.pwr.resetLatched = true) :=
  ⟨⟨_, State.reset, by decide +kernel, rfl, by decide +kernel⟩,
   ⟨_, with_ State.reset [(Reg.GRAN_STATUS_FLUSHING, 1)], by decide +kernel, rfl, by decide +kernel⟩,
   ⟨{ State.reset with awake := false }, by decide +kernel⟩,
   ⟨false, false, _, { State.reset with awake := false, pwr := { PwrSt.reset with resetN := false } }, by decide +kernel,
     rfl⟩,
   ⟨_, State.reset, by decide +kernel, rfl⟩,
   ⟨with_ State.reset [(Reg.GRAN_STATUS_FLUSHING, 1)], by decide +kernel⟩,
   ⟨with_ { State.reset with pwr := { PwrSt.reset with resetLatched := true } } [(Reg.GRAN_STATUS_FLUSHING, 1)],
     by decide +kernel⟩⟩

/-- What each clause of StartStagesRun asks for can be met. -/
theorem witness_StartStagesRun :
    (∃ (flipped : Nat) (u s : State), Runs s ∧ s.get Reg.CFG_STATUS_STAGE = 0 ∧ s.pwr.pwrFailN = true ∧ u = (s.setB
      Reg.SEC_STATUS_PUF_DONE true).setB Reg.SEC_STATUS_PUF_MARGIN (decide (1638 < flipped))) ∧
    (∃ (flipped : Nat) (u s : State), Runs s ∧ s.get Reg.CFG_STATUS_STAGE = 0 ∧ s.pwr.pwrFailN = true ∧ u = (s.setB
      Reg.SEC_STATUS_PUF_DONE true).setB Reg.SEC_STATUS_PUF_MARGIN (decide (1638 < flipped)) ∧ flipped ≤ 2457) ∧
    (∃ (flipped : Nat) (u s : State), Runs s ∧ s.get Reg.CFG_STATUS_STAGE = 0 ∧ s.pwr.pwrFailN = true ∧ u = (s.setB
      Reg.SEC_STATUS_PUF_DONE true).setB Reg.SEC_STATUS_PUF_MARGIN (decide (1638 < flipped)) ∧ 2457 < flipped) ∧
    (∃ (device : Nat) (r : ImgRead) (s : State) (reason : _), Runs s ∧ s.get Reg.CFG_STATUS_STAGE = 1 ∧ device = (if
      s.cfg.firstFail.isNone then s.get Reg.CFG_STATUS_STRAP_CFG_SEL else 1 - s.get Reg.CFG_STATUS_STRAP_CFG_SEL) ∧ imgVerify
      r = .inl reason) ∧
    (∀ i, imgFails i = none → i.certKey = natLe 64 Config.idPub.toNat → ∃ (device : Nat) (r : ImgRead) (s : State), Runs s ∧
      s.get Reg.CFG_STATUS_STAGE = 1 ∧ device = (if s.cfg.firstFail.isNone then s.get Reg.CFG_STATUS_STRAP_CFG_SEL else 1 -
      s.get Reg.CFG_STATUS_STRAP_CFG_SEL) ∧ imgVerify r = .inr i ∧ s.identityOk i = true) ∧
    (∀ i, imgFails i = none → ∃ (device : Nat) (r : ImgRead) (s : State), Runs s ∧ s.get Reg.CFG_STATUS_STAGE = 1 ∧ device =
      (if s.cfg.firstFail.isNone then s.get Reg.CFG_STATUS_STRAP_CFG_SEL else 1 - s.get Reg.CFG_STATUS_STRAP_CFG_SEL) ∧
      imgVerify r = .inr i ∧ s.identityOk i = false) ∧
    (∃ (failed : List Nat) (vias : List (Nat × Nat)) (rows : List (Nat × Nat × Nat)) (u s : State), Runs s ∧ s.cfg.trained =
      false ∧ u = (rows.foldl (fun (s : State) r => s.repairRow r.1 r.2.1 r.2.2) (vias.foldl (fun (s : State) v => s.remapVia
      v.1 v.2) s)).modCfg (fun k => { k with trained := true, badChans := failed }) ∧ s.get Reg.CFG_STATUS_STAGE = 1) ∧
    (∃ (failed : List Nat) (vias : List (Nat × Nat)) (rows : List (Nat × Nat × Nat)) (u s : State), Runs s ∧ s.cfg.trained =
      false ∧ u = (rows.foldl (fun (s : State) r => s.repairRow r.1 r.2.1 r.2.2) (vias.foldl (fun (s : State) v => s.remapVia
      v.1 v.2) s)).modCfg (fun k => { k with trained := true, badChans := failed }) ∧ s.get Reg.CFG_STATUS_STAGE = 2) ∧
    (∃ (luns use : List Nat) (chans : List (Nat × Nat × Nat)) (offline : List (Option Nat)) (est : Nat) (t u v s : State),
      Runs s ∧ s.get Reg.CFG_STATUS_STAGE = 3 ∧ s.flag Reg.GRAN_STATUS_REPLAYING = false ∧ s.flag Reg.GRAN_STATUS_CH_MISSING
      = false ∧ use = (if s.gran.map.isEmpty then luns.filter (fun l => bit s.gran.chanMask (l / 8)) else luns) ∧ est = min
      5256000 ((offline.map (fun o => o.getD 5256000)).foldl max 0) ∧ t = s.modGran (fun g => { g with luns := use }) ∧ u =
      (((chans.filter (fun x => decide (x.1 < 16))).foldl (fun (s : State) x => s.showChan luns x) t).set
      Reg.GRAN_AGE_OFFLINE_EST est).stick Reg.GRAN_AGE_AGE est ∧ v = u.set Reg.GRAN_SPACE_USER_GIB (userBytes u.gran.profile
      use.length (u.get Reg.GRAN_CFG_OP_PCT) / 2 ^ 30) ∧ v.lunMissing = false) ∧
    (∃ (luns use : List Nat) (chans : List (Nat × Nat × Nat)) (offline : List (Option Nat)) (est : Nat) (t u v s : State),
      Runs s ∧ s.get Reg.CFG_STATUS_STAGE = 3 ∧ s.flag Reg.GRAN_STATUS_REPLAYING = false ∧ s.flag Reg.GRAN_STATUS_CH_MISSING
      = false ∧ use = (if s.gran.map.isEmpty then luns.filter (fun l => bit s.gran.chanMask (l / 8)) else luns) ∧ est = min
      5256000 ((offline.map (fun o => o.getD 5256000)).foldl max 0) ∧ t = s.modGran (fun g => { g with luns := use }) ∧ u =
      (((chans.filter (fun x => decide (x.1 < 16))).foldl (fun (s : State) x => s.showChan luns x) t).set
      Reg.GRAN_AGE_OFFLINE_EST est).stick Reg.GRAN_AGE_AGE est ∧ v = u.set Reg.GRAN_SPACE_USER_GIB (userBytes u.gran.profile
      use.length (u.get Reg.GRAN_CFG_OP_PCT) / 2 ^ 30) ∧ v.lunMissing = true) ∧
    (∃ (u s : State), Runs s ∧ s.flag Reg.GRAN_STATUS_REPLAYING = true ∧ u = (s.setB Reg.GRAN_STATUS_REPLAYING false).set
      Reg.STEP_OPEN (s.get Reg.GRAN_LEASE)) ∧
    (∃ (c : CatchUp) (log : List (List Byte)) (mem : List (Nat × List Byte)) (t u v s : State), Runs s ∧ t = (((log.foldl
      (fun (s : State) r => s.takeAppend r) s).replayLog mem (c.committed + 1)).takeCatchUp c) ∧ u = (t.set Reg.STEP_MEMBERS
      c.members).set Reg.STEP_EPOCH c.epoch ∧ v = (u.set Reg.STEP_ROLE_ROOT_ID c.root).setB Reg.STEP_ROLE_IS_ROOT (decide
      (c.root = u.me)) ∧ (s.flag Reg.STEP_STATUS_RECOVERING && decide (s.get Reg.CFG_STATUS_STAGE = 5) && !s.flag
      Reg.GRAN_STATUS_CH_MISSING) = true) ∧
    (∃ (c : CatchUp) (log : List (List Byte)) (mem : List (Nat × List Byte)) (t u v s : State) (j : _), Runs s ∧ t =
      (((log.foldl (fun (s : State) r => s.takeAppend r) s).replayLog mem (c.committed + 1)).takeCatchUp c) ∧ u = (t.set
      Reg.STEP_MEMBERS c.members).set Reg.STEP_EPOCH c.epoch ∧ v = (u.set Reg.STEP_ROLE_ROOT_ID c.root).setB
      Reg.STEP_ROLE_IS_ROOT (decide (c.root = u.me)) ∧ s.flag Reg.STEP_STATUS_RECOVERING = false ∧ s.stp.joinStep ≠ none ∧
      v.stp.joinStep = some j) :=
  ⟨⟨0, _, State.reset, by decide +kernel, by decide +kernel, by decide +kernel, rfl⟩,
   ⟨2457, _, State.reset, by decide +kernel, by decide +kernel, by decide +kernel, rfl, by decide +kernel⟩,
   ⟨2458, _, State.reset, by decide +kernel, by decide +kernel, by decide +kernel, rfl, by decide +kernel⟩,
   ⟨_, .noDevice, with_ State.reset [(Reg.CFG_STATUS_STAGE, 1)], 1, by decide +kernel, by decide +kernel, rfl,
     by decide +kernel⟩,
   fun i h k => ⟨_, .image i,
     { with_ State.reset [(Reg.CFG_STATUS_STAGE, 1)] with cfg := { CfgSt.reset with pufOk := true } }, by decide +kernel,
     by decide +kernel, rfl, by simp only [imgVerify, h], by simp [State.identityOk, k]⟩,
   fun i h => ⟨_, .image i, with_ State.reset [(Reg.CFG_STATUS_STAGE, 1)], by decide +kernel, by decide +kernel, rfl, by simp
     only [imgVerify, h], rfl⟩,
   ⟨[], [], [], _, with_ State.reset [(Reg.CFG_STATUS_STAGE, 1)], by decide +kernel, by decide +kernel, rfl,
     by decide +kernel⟩,
   ⟨[], [], [], _, with_ State.reset [(Reg.CFG_STATUS_STAGE, 2)], by decide +kernel, by decide +kernel, rfl,
     by decide +kernel⟩,
   ⟨[], _, [], [], _, _, _, _, with_ State.reset [(Reg.CFG_STATUS_STAGE, 3)], by decide +kernel, by decide +kernel,
     by decide +kernel, by decide +kernel, rfl, rfl, rfl, rfl, rfl, by decide +kernel⟩,
   ⟨[], _, [], [], _, _, _, _, with_ { State.reset with gran := { GranSt.reset with map := [(0, 0)] } }
     [(Reg.CFG_STATUS_STAGE, 3)], by decide +kernel, by decide +kernel, by decide +kernel, by decide +kernel, rfl, rfl, rfl,
     rfl, rfl, by decide +kernel⟩,
   ⟨_, with_ State.reset [(Reg.GRAN_STATUS_REPLAYING, 1)], by decide +kernel, by decide +kernel, rfl⟩,
   ⟨aCatchUp, [], [], _, _, _, with_ State.reset [(Reg.CFG_STATUS_STAGE, 5), (Reg.STEP_STATUS_RECOVERING, 1)],
     by decide +kernel, rfl, rfl, rfl, by decide +kernel⟩,
   ⟨aCatchUp, [], [], _, _, _, { State.reset with stp := { StepSt.reset with joinStep := some 1 } }, 1, by decide +kernel,
     rfl, rfl, rfl, by decide +kernel⟩⟩

/-- What each clause of AmendmentRecordsRun asks for can be met. -/
theorem witness_AmendmentRecordsRun :
    (∃ (s : State), Runs s ∧ s.flag Reg.STEP_ROLE_IS_ROOT = false) ∧
    (∃ (raw : List Byte) (s : State), Runs s ∧ s.flag Reg.STEP_ROLE_IS_ROOT = false ∧ amSeq raw = 0) ∧
    (judging.signedBy writeRec = true → ∃ (raw : List Byte) (s : State), Runs s ∧ s.flag Reg.STEP_ROLE_IS_ROOT = true ∧
      s.judge 1 raw = none) ∧
    (judging.signedBy loadRec = true → ∃ (raw : List Byte) (s : State), Runs s ∧ s.flag Reg.STEP_ROLE_IS_ROOT = true ∧
      s.judge 2 raw = none) ∧
    (judging.signedBy trainRec = true → Config.linkBody (amBody trainRec) < 8 → ∃ (raw : List Byte) (s : State), Runs s ∧
      s.flag Reg.STEP_ROLE_IS_ROOT = true ∧ s.judge 4 raw = none) ∧
    (judging.signedBy clearRec = true → (Config.tallyBody (amBody clearRec)).all (fun i => decide (i < ntallyNames.length)) =
      true → ∃ (raw : List Byte) (s : State), Runs s ∧ s.flag Reg.STEP_ROLE_IS_ROOT = true ∧ s.judge 5 raw = none) ∧
    (∃ (raw : List Byte) (slot : StageSlot) (reason status : Nat) (u v s : State), Runs s ∧ s.flag Reg.STEP_ROLE_IS_ROOT =
      true ∧ u = s.stick Reg.CFG_COUNTS_REFUSED 1 ∧ (v = (if status = 3 ∧ reason = 9 then u.tallyP .SHP_QUOTA_REFUSED
      slot.part else u)) ∧ s.judge 1 raw = some (reason, status)) ∧
    (∃ (raw : List Byte) (slot : StageSlot) (reason status : Nat) (u v s : State), Runs s ∧ s.flag Reg.STEP_ROLE_IS_ROOT =
      true ∧ u = s.stick Reg.CFG_COUNTS_REFUSED 1 ∧ (v = (if status = 3 ∧ reason = 9 then u.tallyP .SHP_QUOTA_REFUSED
      slot.part else u)) ∧ s.judge 2 raw = some (reason, status)) ∧
    (∃ (raw : List Byte) (slot : StageSlot) (reason status : Nat) (u v s : State), Runs s ∧ s.flag Reg.STEP_ROLE_IS_ROOT =
      true ∧ u = s.stick Reg.CFG_COUNTS_REFUSED 1 ∧ (v = (if status = 3 ∧ reason = 9 then u.tallyP .SHP_QUOTA_REFUSED
      slot.part else u)) ∧ s.judge 4 raw = some (reason, status)) ∧
    (∃ (raw : List Byte) (slot : StageSlot) (reason status : Nat) (u v s : State), Runs s ∧ s.flag Reg.STEP_ROLE_IS_ROOT =
      true ∧ u = s.stick Reg.CFG_COUNTS_REFUSED 1 ∧ (v = (if status = 3 ∧ reason = 9 then u.tallyP .SHP_QUOTA_REFUSED
      slot.part else u)) ∧ s.judge 5 raw = some (reason, status)) ∧
    (∃ (raw : List Byte) (src : Nat) (u s : State), Runs s ∧ amSeq raw = s.get Reg.CFG_HEAD + 1 ∧ u = (s.flood 0 10
      raw.length (some src) (.amendLogAppend raw none [] s.me)).takeAppend raw ∧ u.meantHere raw = true) ∧
    (∃ (raw : List Byte) (src : Nat) (u s : State), Runs s ∧ amSeq raw = s.get Reg.CFG_HEAD + 1 ∧ u = (s.flood 0 10
      raw.length (some src) (.amendLogAppend raw none [] s.me)).takeAppend raw ∧ u.meantHere raw = false) ∧
    (∃ (raw : List Byte) (e : Amend) (s : State), Runs s ∧ s.cfg.log.find? (fun e => !e.appended) = some e ∧ e.raw = raw) ∧
    (∃ (s : State) (d : StageDone), Runs s ∧ d.slot.node = s.me) ∧
    (∃ (raw : List Byte) (s : State), Runs s ∧ amSeq raw ≠ 0 ∧ amKind raw = 3 ∧ amTarget raw = s.me ∧ s.cfg.log.any (fun e =>
      decide (e.raw = raw) && e.appended && !e.stored) = true) :=
  ⟨⟨State.reset, by decide +kernel⟩,
   ⟨[], State.reset, by decide +kernel⟩,
   fun h => ⟨writeRec, judging, by decide +kernel, by decide +kernel, judge_write h⟩,
   fun h => ⟨loadRec, judging, by decide +kernel, by decide +kernel, judge_load h⟩,
   fun h g => ⟨trainRec, judging, by decide +kernel, by decide +kernel, judge_train h g⟩,
   fun h g => ⟨clearRec, judging, by decide +kernel, by decide +kernel, judge_clear h g⟩,
   ⟨[], aStageSlot, 7, 5, _, _, with_ State.reset [(Reg.STEP_ROLE_IS_ROOT, 1)], by decide +kernel, by decide +kernel, rfl,
     rfl, by decide +kernel⟩,
   ⟨[], aStageSlot, 7, 5, _, _, with_ State.reset [(Reg.STEP_ROLE_IS_ROOT, 1)], by decide +kernel, by decide +kernel, rfl,
     rfl, by decide +kernel⟩,
   ⟨[], aStageSlot, 7, 5, _, _, with_ State.reset [(Reg.STEP_ROLE_IS_ROOT, 1)], by decide +kernel, by decide +kernel, rfl,
     rfl, by decide +kernel⟩,
   ⟨[], aStageSlot, 7, 5, _, _, with_ State.reset [(Reg.STEP_ROLE_IS_ROOT, 1)], by decide +kernel, by decide +kernel, rfl,
     rfl, by decide +kernel⟩,
   ⟨natLe 24 0 ++ natLe 8 1 ++ natLe 2 0xFFFF ++ List.replicate 78 0, 0, _, State.reset, by decide +kernel,
     by decide +kernel, rfl, by decide +kernel⟩,
   ⟨natLe 24 0 ++ natLe 8 1 ++ natLe 2 1 ++ List.replicate 78 0, 0, _, State.reset, by decide +kernel, by decide +kernel,
     rfl, (by unfold State.meantHere; rw [me_takeAppend _ _ (by decide +kernel)]; decide +kernel)⟩,
   ⟨[], aAmend, { State.reset with cfg := { CfgSt.reset with log := [aAmend] } }, by decide +kernel⟩,
   ⟨State.reset, aStageDone, by decide +kernel⟩,
   ⟨natLe 2 3 ++ natLe 22 0 ++ natLe 8 1,
     { State.reset with cfg := { CfgSt.reset with log := [{ aAmend with raw := natLe 2 3 ++ natLe 22 0 ++ natLe 8 1, appended := true }] } },
     by decide +kernel⟩⟩

/-- What each clause of OscillatorTick asks for can be met. -/
theorem witness_OscillatorTick :
    (∃ (t u s : State), Runs s ∧ t = (partitions.foldl State.refillPart { s with now := s.now + 1 }).drainAll ∧ u =
      (partitions.foldl State.countWaits t).countHeld.countWork.countStalls.countNode) ∧
    (∃ (t u s : State), s.awake = true ∧ s.frozen = true ∧ t = s.tallyN .DBG_FREEZE_TICKS ∧ u = (if t.anyHot = true then
      t.tallyN .STK_HOT_TICKS else t)) ∧
    (∃ (s : State), s.awake = false) :=
  ⟨⟨_, _, State.reset, by decide +kernel, rfl, rfl⟩,
   ⟨_, _, { State.reset with safe := { SafeSt.reset with latch := true } }, by decide +kernel, by decide +kernel, rfl, rfl⟩,
   ⟨{ State.reset with awake := false }, by decide +kernel⟩⟩

/-- What each clause of StepRunsFrontCommand asks for can be met. -/
theorem witness_StepRunsFrontCommand :
    (∃ (c : Instr) (rest : List Instr) (s : State), s.pending = c :: rest) ∧
    (∃ (s : State), s.pending = [] ∧ (s.frozen = true ∨ s.held = [])) :=
  ⟨⟨.bypass, [], { State.reset with pending := [.bypass] }, by decide +kernel⟩,
   ⟨State.reset, by decide +kernel⟩⟩

/-- What each clause of FrozenOrResetNode asks for can be met. -/
theorem witness_FrozenOrResetNode :
    (∃ (c : Instr) (s : State), s.awake = true ∧ s.frozen = true ∧ actsWhen c = .host) ∧
    (∃ (c : Instr) (s : State), s.awake = true ∧ s.frozen = true ∧ actsWhen c = .engine) ∧
    (∃ (c : Instr) (s : State), s.awake = false ∧ (actsWhen c = .host ∨ actsWhen c = .engine)) :=
  ⟨⟨.getVersion ⟨0, 0, false⟩, { State.reset with safe := { SafeSt.reset with latch := true } }, by decide +kernel⟩,
   ⟨.malformedUnit, { State.reset with safe := { SafeSt.reset with latch := true } }, by decide +kernel⟩,
   ⟨.malformedUnit, { State.reset with awake := false }, by decide +kernel⟩⟩

/-- What each clause of OnlyPowerEventsChangeReset asks for can be met. -/
theorem witness_OnlyPowerEventsChangeReset :
    (∃ (c : Instr) (s t : State), exec c s = .next t) ∧
    (∃ (c : Instr) (s t : State), exec c s = .next t ∧ actsWhen c ≠ .power) :=
  ⟨⟨.bypass, State.reset, _, rfl⟩,
   ⟨.bypass, State.reset, _, rfl, by decide +kernel⟩⟩

/-- What each clause of HeldRequestsInvariant asks for can be met. -/
theorem witness_HeldRequestsInvariant :
    (∃ (s t : State), HeldInv s ∧ step s = .next t) :=
  ⟨State.reset, _, by decide +kernel, rfl⟩

/-- What each clause of FreezeKeepsArrivalOrder asks for can be met. -/
theorem witness_FreezeKeepsArrivalOrder :
    (∃ (cs : List Instr) (s : State), s.awake = true ∧ s.frozen = true ∧ s.pending = cs ∧ (∀ c ∈ cs, actsWhen c = .host)) ∧
    (∃ (c : Instr) (rest : List Instr) (s t : State), s.awake = true ∧ s.frozen = false ∧ s.pending = [] ∧ s.held = c :: rest
      ∧ actsWhen c = .host ∧ exec c { s with held := [] } = .next t) :=
  ⟨⟨[.getVersion ⟨0, 0, false⟩],
    { { State.reset with safe := { SafeSt.reset with latch := true } } with pending := [.getVersion ⟨0, 0, false⟩] },
    by decide +kernel, by decide +kernel, rfl, by decide +kernel⟩,
   ⟨.getVersion ⟨0, 0, false⟩, [], { State.reset with held := [.getVersion ⟨0, 0, false⟩] }, _, by decide +kernel,
     by decide +kernel, by decide +kernel, by decide +kernel, by decide +kernel, rfl⟩⟩

/-- What each clause of ForeignPagesAreIgnored asks for can be met. -/
theorem witness_ForeignPagesAreIgnored :
    (∃ (h : HostReq) (p q : Nat) (s : State), Takes s ∧ Bound s h q ∧ q ≠ p) ∧
    (∃ (h : HostReq) (s : State), Takes s ∧ s.bindOf h.pid = none) :=
  ⟨⟨⟨0, 0, false⟩, 2, 1, hosted, by decide +kernel⟩,
   ⟨⟨0, 0, false⟩, State.reset, by decide +kernel⟩⟩

/-- What each clause of LowSpeedPinsFrame asks for can be met. -/
theorem witness_LowSpeedPinsFrame :
    (∃ (c : Instr) (s t : State), (c = .idcode ∨ c = .dbgStatus ∨ c = .bypass ∨ (∃ v, c = .extest v) ∨ (∃ v, c =
      .samplePreload v) ∨ (∃ a, c = .dbgRead a) ∨ (∃ a, c = .i3cEntdaa a) ∨ c = .i3cRead ∨ c = .pwrOkRise ∨ c =
      .pwrFailNRise) ∧ exec c s = .next t) :=
  ⟨.bypass, State.reset, _, .inr (.inr (.inl rfl)), rfl⟩

/-- What each clause of DoorbellTest asks for can be met. -/
theorem witness_DoorbellTest :
    (∃ (h : HostReq) (p n value v size hd tl : Nat) (u s : State), Takes s ∧ Bound s h p ∧ n < 16 ∧ v = value % 2 ^ 17 ∧ u =
      (if value % 2 ^ 32 / 2 ^ 17 ≠ 0 then s.tallyP .CXP_RSVD_WRITES p else s) ∧ size = 2 ^ u.get (Reg.IRING_CTL_LOG2_SIZE p
      n) ∧ hd = u.get (Reg.IRING_HEAD p n) ∧ tl = u.get (Reg.IRING_TAIL p n) ∧ 2 * size ≤ v) ∧
    (∃ (h : HostReq) (p n value v size hd tl : Nat) (u s : State) (dOld dNew : Nat), Takes s ∧ Bound s h p ∧ n < 16 ∧ v =
      value % 2 ^ 17 ∧ u = (if value % 2 ^ 32 / 2 ^ 17 ≠ 0 then s.tallyP .CXP_RSVD_WRITES p else s) ∧ size = 2 ^ u.get
      (Reg.IRING_CTL_LOG2_SIZE p n) ∧ hd = u.get (Reg.IRING_HEAD p n) ∧ tl = u.get (Reg.IRING_TAIL p n) ∧ v < 2 * size ∧ dOld
      < 2 * size ∧ (hd + dOld) % (2 * size) = tl % (2 * size) ∧ dNew < 2 * size ∧ (hd + dNew) % (2 * size) = v ∧ (dOld ≤ dNew
      ∧ dNew ≤ size)) ∧
    (∃ (h : HostReq) (p n value v size hd tl : Nat) (u s : State) (dOld dNew : Nat), Takes s ∧ Bound s h p ∧ n < 16 ∧ v =
      value % 2 ^ 17 ∧ u = (if value % 2 ^ 32 / 2 ^ 17 ≠ 0 then s.tallyP .CXP_RSVD_WRITES p else s) ∧ size = 2 ^ u.get
      (Reg.IRING_CTL_LOG2_SIZE p n) ∧ hd = u.get (Reg.IRING_HEAD p n) ∧ tl = u.get (Reg.IRING_TAIL p n) ∧ v < 2 * size ∧ dOld
      < 2 * size ∧ (hd + dOld) % (2 * size) = tl % (2 * size) ∧ dNew < 2 * size ∧ (hd + dNew) % (2 * size) = v ∧ (dOld ≤ dNew
      ∧ dNew ≤ size) ∧ v = tl ∧ tabRising u.regs = true ∧ tfind u.regs (Reg.IRING_TAIL p n).bit ≠ some 0) ∧
    (∃ (h : HostReq) (p n value v size hd tl : Nat) (u s : State) (dOld dNew : Nat), Takes s ∧ Bound s h p ∧ n < 16 ∧ v =
      value % 2 ^ 17 ∧ u = (if value % 2 ^ 32 / 2 ^ 17 ≠ 0 then s.tallyP .CXP_RSVD_WRITES p else s) ∧ size = 2 ^ u.get
      (Reg.IRING_CTL_LOG2_SIZE p n) ∧ hd = u.get (Reg.IRING_HEAD p n) ∧ tl = u.get (Reg.IRING_TAIL p n) ∧ v < 2 * size ∧ dOld
      < 2 * size ∧ (hd + dOld) % (2 * size) = tl % (2 * size) ∧ dNew < 2 * size ∧ (hd + dNew) % (2 * size) = v ∧ (¬ (dOld ≤
      dNew ∧ dNew ≤ size))) ∧
    (∃ (h : HostReq) (p n value v size hd d : Nat) (u s : State), Takes s ∧ Bound s h p ∧ n < 16 ∧ v = value % 2 ^ 17 ∧ u =
      (if value % 2 ^ 32 / 2 ^ 17 ≠ 0 then s.tallyP .CXP_RSVD_WRITES p else s) ∧ size = u.sringSize p n ∧ 0 < size ∧ hd =
      u.get (Reg.SRING_HEAD p n) ∧ d < 2 * size ∧ (hd + d) % (2 * size) = v % (2 * size) ∧ v < 2 * size ∧ d ≤ u.writtenRun p
      n hd size) ∧
    (∃ (h : HostReq) (p n value v size hd d : Nat) (u s : State), Takes s ∧ Bound s h p ∧ n < 16 ∧ v = value % 2 ^ 17 ∧ u =
      (if value % 2 ^ 32 / 2 ^ 17 ≠ 0 then s.tallyP .CXP_RSVD_WRITES p else s) ∧ size = u.sringSize p n ∧ 0 < size ∧ hd =
      u.get (Reg.SRING_HEAD p n) ∧ d < 2 * size ∧ (hd + d) % (2 * size) = v % (2 * size) ∧ (2 * size ≤ v ∨ u.writtenRun p n
      hd size < d)) :=
  ⟨⟨⟨0, 0, false⟩, 1, 0, 128, _, _, _, _, _, hosted, by decide +kernel, by decide +kernel, by decide +kernel, rfl, rfl, rfl,
    rfl, rfl, by decide +kernel⟩,
   ⟨⟨0, 0, false⟩, 1, 0, 64, _, _, _, _, _, hosted, 0, 64, by decide +kernel, by decide +kernel, by decide +kernel, rfl, rfl,
     rfl, rfl, rfl, by decide +kernel⟩,
   ⟨⟨0, 0, false⟩, 1, 0, 0, _, _, _, _, _, hosted, 0, 0, by decide +kernel, by decide +kernel, by decide +kernel, rfl, rfl,
     rfl, rfl, rfl, by decide +kernel⟩,
   ⟨⟨0, 0, false⟩, 1, 0, 65, _, _, _, _, _, hosted, 0, 65, by decide +kernel, by decide +kernel, by decide +kernel, rfl, rfl,
     rfl, rfl, rfl, by decide +kernel⟩,
   ⟨⟨0, 0, false⟩, 1, 0, 0, _, _, _, 0, _, hosted, by decide +kernel, by decide +kernel, by decide +kernel, rfl, rfl, rfl,
     by decide +kernel, rfl, by decide +kernel⟩,
   ⟨⟨0, 0, false⟩, 1, 0, 1, _, _, _, 1, _, hosted, by decide +kernel, by decide +kernel, by decide +kernel, rfl, rfl, rfl,
     by decide +kernel, rfl, by decide +kernel⟩⟩

/-- What each clause of ScoreKeysOrderScores asks for can be met. -/
theorem witness_ScoreKeysOrderScores :
    (∃ (a b : Nat) (m n : Int), a < 2 ^ 32 ∧ b < 2 ^ 32 ∧ a ≠ 2 ^ 31 ∧ b ≠ 2 ^ 31 ∧ fp32.read a = some m ∧ fp32.read b = some
      n) ∧
    (∃ (u : BitVec 32), u.getLsbD 31 = false) ∧
    (∃ (u : BitVec 32), u.getLsbD 31 = true) :=
  ⟨⟨0x3F800000, 0xBF800000, 2 ^ 149, -2 ^ 149, by decide +kernel⟩,
   ⟨0x7FFFFFFF#32, by decide +kernel⟩,
   ⟨0x80000000#32, by decide +kernel⟩⟩

/-- What each clause of SelectionsIgnoreArrivalOrder asks for can be met. -/
theorem witness_SelectionsIgnoreArrivalOrder :
    (∃ (a b : StookEntry), stookLe a b = true ∧ stookLe b a = true) ∧
    (∃ (g1 : Bool) (a b : SheafEntry), rankLe (entryRank g1 a) (entryRank g1 b) = true ∧ rankLe (entryRank g1 b) (entryRank
      g1 a) = true) ∧
    (∃ (x y : ShardWork), x.pool.Perm y.pool ∧ x.shard = y.shard ∧ x.pool.Pairwise (fun a b => (a.list, a.pos) ≠ (b.list,
      b.pos))) ∧
    (∃ (xs ys : List Sheaf), ((xs.map (·.entries)).flatten).Perm ((ys.map (·.entries)).flatten) ∧ ((xs.map
      (·.entries)).flatten).Pairwise (fun a b => (a.primary, a.list, a.pos) ≠ (b.primary, b.list, b.pos))) ∧
    (∃ (xs ys : List Sheaf), xs.Perm ys ∧ ((xs.map (·.entries)).flatten).Pairwise (fun a b => (a.primary, a.list, a.pos) ≠
      (b.primary, b.list, b.pos))) :=
  ⟨⟨aStookEntry, aStookEntry, by decide +kernel⟩,
   ⟨false, aSheafEntry, aSheafEntry, by decide +kernel⟩,
   ⟨{ aShardWork with pool := [aStookEntry, { aStookEntry with pos := 1 }] },
     { aShardWork with pool := [{ aStookEntry with pos := 1 }, aStookEntry] }, by decide +kernel⟩,
   ⟨[{ aSheaf with entries := [aSheafEntry, { aSheafEntry with pos := 1 }] }],
     [{ aSheaf with entries := [{ aSheafEntry with pos := 1 }, aSheafEntry] }], by decide +kernel⟩,
   ⟨[{ aSheaf with entries := [aSheafEntry] }, { aSheaf with entries := [{ aSheafEntry with pos := 1 }] }],
     [{ aSheaf with entries := [{ aSheafEntry with pos := 1 }] }, { aSheaf with entries := [aSheafEntry] }],
     by decide +kernel⟩⟩

/-- What each clause of IllFormedBundlesAreIllegal asks for can be met. -/
theorem witness_IllFormedBundlesAreIllegal :
    (∃ (i : Instr) (c b : Nat) (r : EncRun) (s : State), Runs s ∧ slotCore i = some c ∧ tfind s.enc.runs (c / 8) = some r ∧
      ((s.core c).halted || (s.core c).atBar || s.coreIso c) = false ∧ (s.modelMem r.r.model).prog[(s.core c).pc]? = some b ∧
      (bits b 16 4 ≠ 1 ∨ (∃ j, (7 ≤ j ∧ j ≤ 15 ∨ 20 ≤ j ∧ j ≤ 63) ∧ bit b j = true) ∨ (∃ k, k < 7 ∧ slotValid b k = false ∧
      slotBits b k ≠ 0) ∨ (∃ k, k < 7 ∧ slotValid b k = true ∧ opFields (slotKind k) (opOf (slotBits b k)) = none) ∨ (∃ k fs
      j, k < 7 ∧ slotValid b k = true ∧ opFields (slotKind k) (opOf (slotBits b k)) = some fs ∧ 8 ≤ j ∧ bit (slotBits b k) j
      = true ∧ ∀ f ∈ fs, j < f.1 ∨ f.1 + f.2 ≤ j))) :=
  ⟨.li 0, 0, 0, aEncRun,
    { State.reset with enc := { EncSt.reset with runs := [(0, aEncRun)], cores := [(0, aNCore)], models := [(0, { aModelMem with prog := [0] })] } },
    by decide +kernel, by decide +kernel, by decide +kernel, by decide +kernel, by decide +kernel, .inl (by decide +kernel)⟩

/-- What each clause of GradientsConvertOnce asks for can be met. -/
theorem witness_GradientsConvertOnce :
    (∃ (gfrac v : Nat) (n : Int), gfrac < 64 ∧ v < 2 ^ 32 ∧ fp32.read v = some n) ∧
    (∃ (v : Nat), v < 2 ^ 32 ∧ fp32.read v = none ∧ isNan32 v = true) ∧
    (∃ (v : Nat), v < 2 ^ 32 ∧ fp32.read v = none ∧ isNan32 v = false ∧ v < 2 ^ 31) ∧
    (∃ (v : Nat), v < 2 ^ 32 ∧ fp32.read v = none ∧ isNan32 v = false ∧ 2 ^ 31 ≤ v) ∧
    (∃ (t i p gfrac : Nat) (vs : List Nat) (s : State), s.tableIdx t = some i ∧ p = s.get (Reg.EMB_TABLE_PARTITION i) ∧ gfrac
      = s.get (Reg.EMB_TABLE_GFRAC i) ∧ (∃ v ∈ vs, gradFix gfrac v = none)) ∧
    (∃ (t i p gfrac : Nat) (vs : List Nat) (s : State) (g : List (Int × Bool)) (sat : Nat) (u : State), s.tableIdx t = some i
      ∧ p = s.get (Reg.EMB_TABLE_PARTITION i) ∧ gfrac = s.get (Reg.EMB_TABLE_GFRAC i) ∧ vs.map (gradFix gfrac) = g.map some ∧
      sat = g.countP (fun x => x.2) ∧ u = (if 0 < sat then (s.tallyP .EMB_GRAD_SAT p sat).setB Reg.EMB_STATUS_GRAD_SAT_EVT
      true else s.tallyP .EMB_GRAD_SAT p sat)) :=
  ⟨⟨63, 0x3F800000, 2 ^ 149, by decide +kernel⟩,
   ⟨0x7FC00000, by decide +kernel⟩,
   ⟨0x7F800000, by decide +kernel⟩,
   ⟨0xFF800000, by decide +kernel⟩,
   ⟨0, 0, _, _, [0x7FC00000], withTables, by decide +kernel, rfl, rfl, by decide +kernel⟩,
   ⟨0, 0, _, _, [0], withTables, [(0, false)], _, _, by decide +kernel, rfl, rfl, by decide +kernel, rfl, rfl⟩⟩

/-- What each clause of MutationsCommitInKeyOrder asks for can be met. -/
theorem witness_MutationsCommitInKeyOrder :
    (∃ (a b : Staged), keyOrder a b = true ∧ keyOrder b a = true) ∧
    (∃ (xs ys : List Staged), xs.Perm ys ∧ xs.Pairwise (fun a b => (a.m.record, a.m.id.admitter, a.m.id.seq) ≠ (b.m.record,
      b.m.id.admitter, b.m.id.seq))) :=
  ⟨⟨aStaged, aStaged, by decide +kernel⟩,
   ⟨[aStaged, { aStaged with m := { aMutation with record := 1 } }], [{ aStaged with m := { aMutation with record := 1 } },
     aStaged], by decide +kernel⟩⟩

/-- What each clause of TalliesStickAtAllOnes asks for can be met. -/
theorem witness_TalliesStickAtAllOnes :
    (∃ (p i n : Nat) (s : State), 0 < n ∧ s.get (Reg.TALLY_PART_COUNT p i) + n < 2 ^ 48 - 1) ∧
    (∃ (p i n : Nat) (s : State), 0 < n ∧ 2 ^ 48 - 1 ≤ s.get (Reg.TALLY_PART_COUNT p i) + n ∧ s.flag (Reg.TALLY_PART_OVF p i)
      = true) ∧
    (∃ (p i n : Nat) (s u : State), 0 < n ∧ 2 ^ 48 - 1 ≤ s.get (Reg.TALLY_PART_COUNT p i) + n ∧ s.flag (Reg.TALLY_PART_OVF p
      i) = false ∧ u = (s.set (Reg.TALLY_PART_COUNT p i) (2 ^ 48 - 1)).setB (Reg.TALLY_PART_OVF p i) true) ∧
    (∃ (h : HostReq) (p i value : Nat) (u s : State), Takes s ∧ Bound s h p ∧ i < 512 ∧ u = (if bits value 48 15 ≠ 0 then
      s.tallyP .CXP_RSVD_WRITES p else s)) :=
  ⟨⟨0, 0, 2 ^ 48 - 2, State.reset, by decide +kernel⟩,
   ⟨0, 0, 2 ^ 48 - 1, with_ State.reset [(Reg.TALLY_PART_OVF 0 0, 1)], by decide +kernel⟩,
   ⟨0, 0, 2 ^ 48 - 1, State.reset, _, by decide +kernel, by decide +kernel, by decide +kernel, rfl⟩,
   ⟨⟨0, 0, false⟩, 1, 511, 0, _, hosted, by decide +kernel, by decide +kernel, by decide +kernel, rfl⟩⟩

/-- What each clause of EventsRaiseOnce asks for can be met. -/
theorem witness_EventsRaiseOnce :
    (∃ (p k : Nat) (s : State), s.flag (Reg.PART_EVT_STATUS p k) = true) ∧
    (∃ (p k v : Nat) (u s : State), p ≠ 0 ∧ s.flag (Reg.PART_EVT_STATUS p k) = false ∧ u = s.setB (Reg.PART_EVT_STATUS p k)
      true ∧ v = u.get (Reg.PART_EVT_CFG_VECTOR p)) ∧
    (∃ (v : Nat) (s : State), s.get (Reg.CXP_VEC_PARTITION v) = 0) ∧
    (∃ (v : Nat) (s : State), s.get (Reg.CXP_VEC_PARTITION v) ≠ 0 ∧ s.frozen = true) ∧
    (∃ (v : Nat) (s : State), s.get (Reg.CXP_VEC_PARTITION v) ≠ 0 ∧ s.frozen = false ∧ s.flag (Reg.CXP_MSIX_MASK v) = true) ∧
    (∃ (v : Nat) (s : State), s.get (Reg.CXP_VEC_PARTITION v) ≠ 0 ∧ s.frozen = false ∧ s.flag (Reg.CXP_MSIX_MASK v) = false)
      :=
  ⟨⟨0, 0, with_ State.reset [(Reg.PART_EVT_STATUS 0 0, 1)], by decide +kernel⟩,
   ⟨1, 0, _, _, State.reset, by decide +kernel, by decide +kernel, rfl, rfl⟩,
   ⟨0, State.reset, by decide +kernel⟩,
   ⟨0, with_ ({ State.reset with safe := { SafeSt.reset with latch := true } }) [(Reg.CXP_VEC_PARTITION 0, 1)],
     by decide +kernel⟩,
   ⟨0, with_ State.reset [(Reg.CXP_VEC_PARTITION 0, 1), (Reg.CXP_MSIX_MASK 0, 1)], by decide +kernel⟩,
   ⟨0, with_ State.reset [(Reg.CXP_VEC_PARTITION 0, 1), (Reg.CXP_MSIX_MASK 0, 0)], by decide +kernel⟩⟩

/-- What each clause of SealedStructuresPass asks for can be met. -/
theorem witness_SealedStructuresPass :
    (∃ (b : List Byte) (o : Nat), o + 4 ≤ b.length) ∧
    (∃ (b : List Byte) (o : Nat) (i : _), o + 4 ≤ b.length ∧ (i < o ∨ o + 4 ≤ i)) :=
  ⟨⟨[0, 0, 0, 0], 0, by decide +kernel⟩,
   ⟨[0, 0, 0, 0, 0], 0, 4, by decide +kernel⟩⟩

/-- What each clause of RegistersAndScratchReadBack asks for can be met. -/
theorem witness_RegistersAndScratchReadBack :
    (∃ (s : State), tabRising s.regs = true) ∧
    (∃ (s : State) (f g : Fld), tabRising s.regs = true ∧ g.bit ≠ f.bit) ∧
    (∃ (n : NCore), tabWf 0 n.mem = true) ∧
    (∃ (n : NCore) (a : Nat) (d : List Byte) (x : _), tabWf 0 n.mem = true ∧ (x < a ∨ a + d.length ≤ x)) :=
  ⟨⟨State.reset, by decide +kernel⟩,
   ⟨State.reset, Reg.STEP_OPEN, Reg.STEP_MEMBERS, by decide +kernel⟩,
   ⟨aNCore, by decide +kernel⟩,
   ⟨aNCore, 1, [], 0, by decide +kernel⟩⟩

/-- What each clause of SlotsInABundleFrame asks for can be met. -/
theorem witness_SlotsInABundleFrame :
    (∃ (c b i j : Nat) (x : SlotRes) (s t : State), nextSlot b (i + 1) = some j ∧ t = s.slotTaken c b i x) ∧
    (∃ (c b i j : Nat) (x : SlotRes) (s t : State) (d : _), nextSlot b (i + 1) = some j ∧ t = s.slotTaken c b i x ∧ d ≠ c) :=
  ⟨⟨0, 3, 0, 1, ([], []), State.reset, _, by decide +kernel, rfl⟩,
   ⟨0, 3, 0, 1, ([], []), State.reset, _, 1, by decide +kernel, rfl, by decide +kernel⟩⟩

/-- What each clause of LimiterKeepsItsBounds asks for can be met. -/
theorem witness_LimiterKeepsItsBounds :
    (∃ (avg cap die top : Nat) (req : Bool) (s t : State), t = s.limiter avg ∧ cap = s.get Reg.NODE_PWR_CFG_CAP_W ∧ die =
      s.get Reg.NODE_PWR_STATUS_DIE_C ∧ top = 10 * s.get Reg.NODE_PWR_CFG_VMAX_10MV ∧ req = (decide (105 ≤ die) ||
      allStacks.any (fun k => s.flag (Reg.STACK_TEMP_SCAN_HALVED k))) ∧ 650 ≤ s.pwr.vcore ∧ s.pwr.vcore ≤ top ∧ s.pwr.scanPct
      ≤ 100) ∧
    (∃ (avg cap die top : Nat) (req : Bool) (s t : State), t = s.limiter avg ∧ cap = s.get Reg.NODE_PWR_CFG_CAP_W ∧ die =
      s.get Reg.NODE_PWR_STATUS_DIE_C ∧ top = 10 * s.get Reg.NODE_PWR_CFG_VMAX_10MV ∧ req = (decide (105 ≤ die) ||
      allStacks.any (fun k => s.flag (Reg.STACK_TEMP_SCAN_HALVED k))) ∧ 650 ≤ s.pwr.vcore ∧ s.pwr.vcore ≤ top ∧ s.pwr.scanPct
      ≤ 100 ∧ (cap < avg ∨ req = true)) ∧
    (∃ (avg cap die top : Nat) (req : Bool) (s t : State), t = s.limiter avg ∧ cap = s.get Reg.NODE_PWR_CFG_CAP_W ∧ die =
      s.get Reg.NODE_PWR_STATUS_DIE_C ∧ top = 10 * s.get Reg.NODE_PWR_CFG_VMAX_10MV ∧ req = (decide (105 ≤ die) ||
      allStacks.any (fun k => s.flag (Reg.STACK_TEMP_SCAN_HALVED k))) ∧ 650 ≤ s.pwr.vcore ∧ s.pwr.vcore ≤ top ∧ s.pwr.scanPct
      ≤ 100 ∧ avg ≤ cap ∧ req = false ∧ 100 * avg < 97 * cap ∧ die < 103 ∧ s.pwr.scanPct < 100) ∧
    (∃ (avg cap die top : Nat) (req : Bool) (s t : State), t = s.limiter avg ∧ cap = s.get Reg.NODE_PWR_CFG_CAP_W ∧ die =
      s.get Reg.NODE_PWR_STATUS_DIE_C ∧ top = 10 * s.get Reg.NODE_PWR_CFG_VMAX_10MV ∧ req = (decide (105 ≤ die) ||
      allStacks.any (fun k => s.flag (Reg.STACK_TEMP_SCAN_HALVED k))) ∧ 650 ≤ s.pwr.vcore ∧ s.pwr.vcore ≤ top ∧ s.pwr.scanPct
      ≤ 100 ∧ avg ≤ cap ∧ req = false ∧ 100 * avg < 97 * cap ∧ die < 103 ∧ s.pwr.scanPct = 100) ∧
    (∃ (avg cap die top : Nat) (req : Bool) (s t : State), t = s.limiter avg ∧ cap = s.get Reg.NODE_PWR_CFG_CAP_W ∧ die =
      s.get Reg.NODE_PWR_STATUS_DIE_C ∧ top = 10 * s.get Reg.NODE_PWR_CFG_VMAX_10MV ∧ req = (decide (105 ≤ die) ||
      allStacks.any (fun k => s.flag (Reg.STACK_TEMP_SCAN_HALVED k))) ∧ 650 ≤ s.pwr.vcore ∧ s.pwr.vcore ≤ top ∧ s.pwr.scanPct
      ≤ 100 ∧ t.pwr.scanPct < s.pwr.scanPct) ∧
    (∃ (avg cap die top : Nat) (req : Bool) (s t : State), t = s.limiter avg ∧ cap = s.get Reg.NODE_PWR_CFG_CAP_W ∧ die =
      s.get Reg.NODE_PWR_STATUS_DIE_C ∧ top = 10 * s.get Reg.NODE_PWR_CFG_VMAX_10MV ∧ req = (decide (105 ≤ die) ||
      allStacks.any (fun k => s.flag (Reg.STACK_TEMP_SCAN_HALVED k))) ∧ 650 ≤ s.pwr.vcore ∧ s.pwr.vcore ≤ top ∧ s.pwr.scanPct
      ≤ 100 ∧ cap < avg ∧ s.pwr.vcore = 650 ∧ s.scanFloor s.pwr.scanPct = true) :=
  ⟨⟨0, _, _, _, _, State.reset, _, rfl, rfl, rfl, rfl, rfl, by decide +kernel⟩,
   ⟨1401, _, _, _, _, State.reset, _, rfl, rfl, rfl, rfl, rfl, by decide +kernel⟩,
   ⟨0, _, _, _, _, { State.reset with pwr := { PwrSt.reset with scanPct := 99 } }, _, rfl, rfl, rfl, rfl, rfl,
     by decide +kernel⟩,
   ⟨0, _, _, _, _, State.reset, _, rfl, rfl, rfl, rfl, rfl, by decide +kernel⟩,
   ⟨1401, _, _, _, _, with_ ({ State.reset with pwr := { PwrSt.reset with vcore := 650 } }) [(Reg.NBU_GOV, 4000)], _, rfl,
     rfl, rfl, rfl, rfl, by decide +kernel⟩,
   ⟨1401, _, _, _, _, { State.reset with pwr := { PwrSt.reset with vcore := 650, scanPct := 5 } }, _, rfl, rfl, rfl, rfl,
     rfl, by decide +kernel⟩⟩

end Sys2Proof.Tests
end

/-! SUPPORT. Safety events and the oscillator's tick (R14, R15, R152, R375, R379, R380, R387 to R397, R402). -/

section
namespace Sys2Proof.Machine

open Sys2Proof

@[simp] theorem State.when_true (s : State) (f : State → State) : s.when true f = f s := rfl
@[simp] theorem State.when_false (s : State) (f : State → State) : s.when false f = s := rfl

/-! ### The rolling test cycle -/

section RollingTest

variable {s : State} {cls : UnitClass} {unit : Nat}

theorem State.rollTest_working_passed (h : s.safe.isolated.contains (cls, unit) = false) :
    s.rollTest cls unit true = s := by
  rw [State.rollTest, h]
  rfl

theorem State.rollTest_working_failed (h : s.safe.isolated.contains (cls, unit) = false) :
    s.rollTest cls unit false = s.testFailed cls unit := by
  rw [State.rollTest, h]
  rfl

theorem State.rollTest_isolated (h : s.safe.isolated.contains (cls, unit) = true) (ok : Bool) :
    s.rollTest cls unit ok = s.testIsolated cls unit ok := by
  rw [State.rollTest, h]
  rfl

theorem State.testIsolated_failed :
    s.testIsolated cls unit false = s.modSafe fun x => { x with clean := tset 0 x.clean (unitKey cls unit) 0 } := rfl

/-- Short of the 1000th clean test, only the count moves (R396). -/
theorem State.testIsolated_counted (hn : tget 0 s.safe.clean (unitKey cls unit) + 1 < 1000) :
    s.testIsolated cls unit true = s.modSafe fun x => { x with
      clean := tset 0 x.clean (unitKey cls unit) (tget 0 s.safe.clean (unitKey cls unit) + 1) } :=
  if_neg fun ⟨hmany, _⟩ => absurd hn (Nat.not_lt.mpr hmany)

/-- The 1000th clean test marks a unit that the policy lets come back (R396). -/
theorem State.testIsolated_marked (hn : 1000 ≤ tget 0 s.safe.clean (unitKey cls unit) + 1)
    (hpolicy : s.get Reg.SAFE_POLICY_READMIT = 1) (htimes : tget 0 s.safe.isoTimes (unitKey cls unit) < 2)
    (hnew : s.safe.readmitPending.contains (cls, unit) = false) :
    s.testIsolated cls unit true = s.modSafe fun x => { x with
      clean := tset 0 x.clean (unitKey cls unit) (tget 0 s.safe.clean (unitKey cls unit) + 1),
      readmitPending := x.readmitPending ++ [(cls, unit)] } :=
  if_pos ⟨hn, hpolicy, htimes, hnew⟩

theorem exec_rollingTest_within_cycle (h : Runs s) (ok : Bool) :
    exec (.rollingTest cls unit ok false) s = .next (s.keep (s.rollTest cls unit ok)) := by
  rw [exec_rollingTest, execRollingTest, nodeEvt_runs h, State.when_false]

theorem exec_rollingTest_ends_cycle (h : Runs s) (ok : Bool) :
    exec (.rollingTest cls unit ok true) s = .next (s.keep ((s.rollTest cls unit ok).endCycle cls unit)) := by
  rw [exec_rollingTest, execRollingTest, nodeEvt_runs h, State.when_true]

theorem exec_nbuTest_runs (h : Runs s) (bank : Nat) (ok : Bool) :
    exec (.nbuTest bank ok) s = .next (s.keep (s.rollTest .nbu bank ok)) := by
  rw [exec_nbuTest, execNbuTest, nodeEvt_runs h]

end RollingTest

/-! ### Watchdogs, codewords and reactions -/

section Reactions

variable {s : State}

theorem exec_watchdogExpiry_expired (h : Runs s) (cls : UnitClass) (unit : Nat) (ops : List OpId) {waited : Nat}
    (hw : s.get Reg.SAFE_POLICY_WDOG_TICKS ≤ waited) :
    exec (.watchdogExpiry cls unit waited false ops) s =
      .next (s.keep ((s.tallyN .SAFE_WDOG_EXPIRIES).controlFault 7 cls unit ops)) := by
  have hcounts : ¬ (false = true ∨ waited < s.get Reg.SAFE_POLICY_WDOG_TICKS) := by simpa using hw
  rw [exec_watchdogExpiry, execWatchdogExpiry, nodeEvt_runs h, if_neg hcounts]

theorem exec_invalidCodeword_runs (h : Runs s) (cls : UnitClass) (unit : Nat) (ops : List OpId) :
    exec (.invalidCodeword cls unit ops) s =
      .next (s.keep ((s.tallyN .SAFE_CODEWORD_FAULTS).controlFault 6 cls unit ops)) := by
  rw [exec_invalidCodeword, execInvalidCodeword, nodeEvt_runs h]

theorem exec_safetyReaction_runs (h : Runs s) (mech : Nat) (cls : UnitClass) (unit reaction : Nat) (ops : List OpId)
    (detail : Nat) :
    exec (.safetyReaction mech cls unit reaction ops detail) s =
      .next (s.keep (((s.react mech cls unit reaction ops.length detail).withholdAll ops).withdrawHeld)) := by
  rw [exec_safetyReaction, execSafetyReaction, nodeEvt_runs h]

theorem exec_lockstepMismatch_runs (h : Runs s) :
    exec .lockstepMismatch s = .next (s.keep
      (((s.setB Reg.SAFE_STATUS_LOCKSTEP_FAIL true).react 10 .safety 0 3 s.srch.adm.length 0).withdrawHeld)) := by
  rw [exec_lockstepMismatch, execLockstepMismatch, nodeEvt_runs h]

/-- FAULT_N rises once its time has come and nothing else holds it low (R392). -/
theorem exec_faultNRelease_due (h : Runs s) {t : Nat} (ht : s.safe.faultUntil = some t) (hdue : t ≤ s.now)
    (hfault : s.flag Reg.SAFE_STATUS_NODE_FAULT = false) (htrip : s.flag Reg.NODE_PWR_STATUS_THERMAL_TRIP = false) :
    exec .faultNRelease s =
      .next ((s.modSafe fun x => { x with faultUntil := none }).setB Reg.SAFE_STATUS_FAULT_N_LOW false) := by
  have hfree : ¬ (s.now < t ∨ s.flag Reg.SAFE_STATUS_NODE_FAULT = true ∨
      s.flag Reg.NODE_PWR_STATUS_THERMAL_TRIP = true) := by simp [hfault, htrip, hdue]
  rw [exec_faultNRelease, execFaultNRelease, nodeEvt_runs h, ht]
  simp only [if_neg hfree]
  rfl

end Reactions

/-- Settles O33: each event is its body on the running node, and a test splits on whether its unit is isolated. -/
theorem safetyEventsRun : Obligations.SafetyEventsRun := by
  refine ⟨fun cls unit s hr hw => ⟨?_, ?_⟩, fun bank s hr hw => ⟨?_, ?_⟩, fun cls unit k s hr hi hk => ?_,
    fun cls unit ok s hr => exec_rollingTest_ends_cycle hr ok,
    fun cls unit waited ops s hr hlate => exec_watchdogExpiry_expired hr cls unit ops hlate,
    fun cls unit ops s hr => exec_invalidCodeword_runs hr cls unit ops,
    fun mech unit reaction detail cls ops s hr => exec_safetyReaction_runs hr mech cls unit reaction ops detail,
    fun s hr => exec_lockstepMismatch_runs hr,
    fun t s hr ht hdue hfault htrip => exec_faultNRelease_due hr ht hdue hfault htrip⟩
  · rw [exec_rollingTest_within_cycle hr, State.rollTest_working_passed hw, State.keep_self]
  · rw [exec_rollingTest_within_cycle hr, State.rollTest_working_failed hw]
  · rw [exec_nbuTest_runs hr, State.rollTest_working_passed hw, State.keep_self]
  · rw [exec_nbuTest_runs hr, State.rollTest_working_failed hw]
  · subst hk
    simp only [exec_rollingTest_within_cycle hr, State.rollTest_isolated hi]
    refine ⟨?_, fun hn => ?_, fun hn hpolicy htimes hnew => ?_⟩
    · rw [State.testIsolated_failed]
    · rw [State.testIsolated_counted hn]
    · rw [State.testIsolated_marked hn hpolicy htimes hnew]

/-! ### The oscillator's tick -/

section OscillatorTick

variable {s : State}

theorem exec_creditRefillTick_runs (h : Runs s) : exec .creditRefillTick s = .next (s.keep s.runTick) := by
  obtain ⟨hawake, hfrozen⟩ := h
  simp [exec_creditRefillTick, execCreditRefillTick, anyEvt_next, hawake, hfrozen]

theorem exec_creditRefillTick_frozen (hawake : s.awake = true) (hfrozen : s.frozen = true) :
    exec .creditRefillTick s = .next (s.keep s.frozenTick) := by
  simp [exec_creditRefillTick, execCreditRefillTick, anyEvt_next, hawake, hfrozen]

theorem exec_creditRefillTick_asleep (h : s.awake = false) : exec .creditRefillTick s = .next s := by
  simp [exec_creditRefillTick, execCreditRefillTick, anyEvt_next, h]

/-- A running node's tick: the credits refill and let pass what they can (R375), then the waits that remain are counted. -/
theorem State.runTick_eq {t u : State} (ht : t = (partitions.foldl State.refillPart { s with now := s.now + 1 }).drainAll)
    (hu : u = (partitions.foldl State.countWaits t).countHeld.countWork.countStalls.countNode) :
    s.runTick = (if u.anyHot = true then u.tallyN .STK_HOT_TICKS else u).withdrawHeld := by
  rw [hu, ht]
  rfl

/-- A node-wide tally writes its count, its OVF and TALLY_STUCK (R399), which lie in the tally pages and behind them. -/
theorem State.tallyN_get_below {f : Fld} (hf : f.bit < 8 * 0x1900000) (t : NTally) (n : Nat) :
    (s.tallyN t n).get f = s.get f := by
  have hcount : f.bit ≠ (Reg.TALLY_PART_COUNT 0 t.ctorIdx).bit := by
    simp only [Reg.TALLY_PART_COUNT]
    omega
  have hovf : f.bit ≠ (Reg.TALLY_PART_OVF 0 t.ctorIdx).bit := by
    simp only [Reg.TALLY_PART_OVF]
    omega
  have hstuck : f.bit ≠ Reg.SAFE_STATUS_TALLY_STUCK.bit := by
    simp only [Reg.SAFE_STATUS_TALLY_STUCK]
    omega
  simp only [State.tallyN, State.count, State.tallyEvent, if_true]
  split
  · rw [State.setB, State.get_set_ne _ _ hstuck, State.setB, State.get_set_ne _ _ hovf, State.stick,
      State.get_set_ne _ _ hcount]
  · rw [State.stick, State.get_set_ne _ _ hcount]

/-- No tally moves a temperature band. -/
theorem State.anyHot_tallyN (t : NTally) (n : Nat) : (s.tallyN t n).anyHot = s.anyHot := by
  have hband : ∀ k ∈ List.range 8, (s.tallyN t n).flag (Reg.STACK_TEMP_HOT k) = s.flag (Reg.STACK_TEMP_HOT k) := by
    intro k hk
    have hk8 : k < 8 := List.mem_range.mp hk
    have hbelow : (Reg.STACK_TEMP_HOT k).bit < 8 * 0x1900000 := by
      simp only [Reg.STACK_TEMP_HOT]
      omega
    rw [State.flag, State.tallyN_get_below hbelow, State.flag]
  rw [Bool.eq_iff_iff, State.anyHot, State.anyHot, List.any_eq_true, List.any_eq_true]
  exact exists_congr fun k => and_congr_right fun hk => by rw [hband k hk]

/-- A frozen tick reads the hot band before it counts itself, which makes no difference (R402). -/
theorem State.frozenTick_eq {t u : State} (ht : t = s.tallyN .DBG_FREEZE_TICKS)
    (hu : u = if t.anyHot = true then t.tallyN .STK_HOT_TICKS else t) :
    s.frozenTick = u.modStk fun k => { k with coolFrom := k.coolFrom.map (fun e => (e.1, max 1 (e.2 - 1))) } := by
  rw [hu, ht, State.anyHot_tallyN]
  rfl

end OscillatorTick

/-- Settles O39: the tick's three cases, by whether the node is awake and whether it is frozen. The clock's advance, and its
standing still in a freeze, are the model's choices (assumptions 23 and 30). -/
theorem oscillatorTick : Obligations.OscillatorTick := by
  refine ⟨fun t u s hr ht hu => ?_, fun t u s hawake hfrozen ht hu => ?_, fun s h => exec_creditRefillTick_asleep h⟩
  · rw [exec_creditRefillTick_runs hr, State.runTick_eq ht hu]
  · rw [exec_creditRefillTick_frozen hawake hfrozen, State.frozenTick_eq ht hu]

end Sys2Proof.Machine
end

/-! SUPPORT. The step agreement (R27 to R30, R32, R56). -/

section
namespace Sys2Proof.Machine

open Sys2Proof

/-- A step message of this epoch or a later one, with its CRC right, is taken (R32). -/
theorem State.withStep_good {s : State} {m : StepMsg} (hm : s.stepBad m = false) (f : State → State) :
    s.withStep m f = f s := by
  simp [State.withStep, hm]

/-! ### Closing, reporting and committing a step -/

section StepAgreement

variable {s : State} {m : StepMsg}

theorem exec_stepClose_member (h : Runs s) (hm : s.stepBad m = false) (hme : s.isMember s.me = true)
    (hstep : s.openStep ≤ m.step) (src : Nat) :
    exec (.stepClose m src) s =
      .next (s.keep ((s.floodStep (some src) (.stepClose m s.me)).openNext (m.step + 1))) := by
  have hcloses : ¬ (!s.isMember s.me || decide (m.step < s.openStep)) = true := by simp [hme, hstep]
  rw [exec_stepClose, execStepClose, nodeEvt_runs h, State.withStep_good hm, if_neg hcloses]

theorem exec_admissionWindowExpiry_due (h : Runs s) (hroot : s.actsRoot = true)
    (hopen : s.openStep = s.get Reg.STEP_COMMITTED + 1) (hdue : s.stp.closeTick + s.get Reg.STEP_WINDOW ≤ s.now) :
    exec .admissionWindowExpiry s = .next (s.keep
      ((s.floodStep none (.stepClose (s.ahead.stepMsg s.openStep 0xFFFF 0 0) s.me)).openNext (s.openStep + 1))) := by
  have hcloses : (s.actsRoot && decide (s.openStep = s.get Reg.STEP_COMMITTED + 1 ∧
      s.stp.closeTick + s.get Reg.STEP_WINDOW ≤ s.now)) = true := by simp [hroot, hopen, hdue]
  rw [exec_admissionWindowExpiry, execAdmissionWindowExpiry, nodeEvt_runs h]
  simp only [if_pos hcloses]

/-- With every condition of R29 met, a member that has not yet reported to its parent does so. -/
theorem exec_sendStepDone_reports {u v : State} {p t : Nat} (h : Runs s) (hu : u = s.checkHolds)
    (ht : t = u.get Reg.STEP_COMMITTED + 1) (hparent : u.stepParent = some p) (hroot : u.actsRoot = false)
    (hme : u.isMember u.me = true) (hdone : u.stepDone t = true) (hiso : u.flag Reg.STEP_STATUS_SELF_ISOLATED = false)
    (honce : ¬ (u.stp.doneSent = t ∧ u.stp.doneTo = some p))
    (hv : v = u.modStp (fun k => { k with doneSent := t, doneTo := some p, doneTick := u.now })) :
    exec .sendStepDone s =
      .next (s.keep (v.sendStep p (.stepDone (v.ahead.stepMsg t 0xFFFF (v.subtree t) 0) v.me))) := by
  subst hv ht
  have hreports : ¬ (u.actsRoot || !u.isMember u.me || !u.stepDone (u.get Reg.STEP_COMMITTED + 1) ||
      u.flag Reg.STEP_STATUS_SELF_ISOLATED ||
      decide (u.stp.doneSent = u.get Reg.STEP_COMMITTED + 1 ∧ u.stp.doneTo = some p)) = true := by
    rw [hroot, hme, hdone, hiso, decide_eq_false honce]
    decide
  rw [exec_sendStepDone, execSendStepDone, nodeEvt_runs h]
  simp only [← hu, hparent, if_neg hreports]

theorem exec_stepDone_kept (h : Runs s) (hm : s.stepBad m = false) (hstep : s.get Reg.STEP_COMMITTED < m.step)
    (src : Nat) :
    exec (.stepDone m src) s = .next (s.keep (s.modStp fun k => { k with
      doneFrom := (m.step, src, m.count) :: k.doneFrom.filter (fun d => decide (¬ (d.1 = m.step ∧ d.2.1 = src))) })) := by
  rw [exec_stepDone, execStepDone, nodeEvt_runs h, State.withStep_good hm, if_neg (Nat.not_le.mpr hstep)]

theorem exec_stepWaitTimeout_late (h : Runs s) (hsent : s.stp.doneSent = s.get Reg.STEP_COMMITTED + 1)
    (hto : s.stp.doneTo.isSome = true) (hlate : s.stp.doneTick + tAGR < s.now) :
    exec .stepWaitTimeout s = .next (s.setB Reg.STEP_STATUS_STALL_WAIT true) := by
  rw [exec_stepWaitTimeout, execStepWaitTimeout, nodeEvt_runs h, if_pos ⟨hsent, hto, hlate⟩, State.keep_setB]

theorem exec_stepCommit_member (h : Runs s) (hm : s.stepBad m = false) (hme : s.isMember s.me = true)
    (hnext : m.step = s.get Reg.STEP_COMMITTED + 1) (hstays : ¬ (m.flags % 2 = 1 ∧ m.subject = s.me))
    (far : List (OpId × Nat × Nat)) (src : Nat) :
    exec (.stepCommit m far src) s = .next (s.keep (s.commitStep m far (some src))) := by
  rw [exec_stepCommit, execStepCommit, nodeEvt_runs h, State.withStep_good hm, if_pos hme,
    if_neg (not_not_intro hnext), if_neg hstays]

theorem exec_rootSendCommit_commits {u : State} {t : Nat} (h : Runs s) (hu : u = s.checkHolds)
    (ht : t = u.get Reg.STEP_COMMITTED + 1) (hroot : u.actsRoot = true) (hdone : u.stepDone t = true)
    (hmsg : m = u.commitMsg t) (far : List (OpId × Nat × Nat)) :
    exec (.rootSendCommit far) s = .next (s.keep
      ((u.sendEach 0 0 0 32 (.stepCommit m [] u.me) ((u.granted t).filter (fun n => decide (n ≠ u.me)))).commitStep m far none)) := by
  subst hmsg ht
  have hcommits : (u.actsRoot && u.stepDone (u.get Reg.STEP_COMMITTED + 1)) = true := by rw [hroot, hdone]; rfl
  rw [exec_rootSendCommit, execRootSendCommit, nodeEvt_runs h]
  simp only [← hu, if_pos hcommits]

end StepAgreement

/-- Settles O1: each event is its body on the running node, at the branch its conditions choose. The list that a commit
takes for the work of a lost holder, and the one node that a STEP_COMMIT excludes, are the model's readings
(assumptions 44 and 45). -/
theorem stepAgreementRuns : Obligations.StepAgreementRuns := by
  refine ⟨fun m src s hr hm hme hstep => exec_stepClose_member hr hm hme hstep src,
    fun s hr hroot hopen hdue => exec_admissionWindowExpiry_due hr hroot hopen hdue,
    fun v u s p t hr hu ht hparent hroot hme hdone hiso honce hv =>
      exec_sendStepDone_reports hr hu ht hparent hroot hme hdone hiso honce hv,
    fun m src s hr hm hstep => exec_stepDone_kept hr hm hstep src,
    fun s hr hsent hto hlate => exec_stepWaitTimeout_late hr hsent hto hlate,
    fun m far src s hr hm hme hnext hstays => exec_stepCommit_member hr hm hme hnext hstays far src,
    fun u s m far t hr hu ht hroot hdone hmsg => exec_rootSendCommit_commits hr hu ht hroot hdone hmsg far⟩

end Sys2Proof.Machine
end

/-! SUPPORT. Liveness, suspicion and membership (R43 to R48, R52, R430). -/

section
namespace Sys2Proof.Machine

open Sys2Proof

/-! ### Heartbeats, suspicion and isolation -/

section Suspicion

variable {s u : State} {m : StepMsg} {y : Nat}

theorem exec_heartbeatTimer_due (h : Runs s) (hdue : s.stp.hbTick + tHB ≤ s.now)
    (hu : u = { s with stp := { s.stp with hbTick := s.now } }) :
    exec .heartbeatTimer s = .next (s.keep (((List.range 8).filter u.linkUp).foldl
      (fun t l => t.emit (.send l (t.peer l) (.cmd (.heartbeat (t.stepMsg t.openStep 0xFFFF 0 0) t.me)))) u)) := by
  rw [exec_heartbeatTimer, execHeartbeatTimer, nodeEvt_runs h, if_neg (Nat.not_lt.mpr hdue), hu]

/-- The test of SUSPICION_TIMEOUT passes over no neighbour that is newly silent for tSUS (R44). -/
theorem State.not_passedOver_of_silent (hnew : s.suspected y = false) (hlinks : s.linksTo y ≠ [])
    (hsilent : tSUS ≤ s.silence y) :
    ¬ (s.suspected y || (s.linksTo y).isEmpty || decide (s.silence y < tSUS)) = true := by
  simp [hnew, hlinks, hsilent]

theorem exec_suspicionTimeout_coordinator (h : Runs s) (hnew : s.suspected y = false) (hlinks : s.linksTo y ≠ [])
    (hsilent : tSUS ≤ s.silence y) (hu : u = (s.setSuspect y true).tallyN .MEMB_SUSPECTS)
    (hself : u.coordinator y = some u.me) :
    exec (.suspicionTimeout y) s = .next (s.keep u) := by
  rw [exec_suspicionTimeout, execSuspicionTimeout, nodeEvt_runs h,
    if_neg (State.not_passedOver_of_silent hnew hlinks hsilent)]
  simp only [← hu, hself, if_true]

theorem exec_suspicionTimeout_tells (h : Runs s) (hnew : s.suspected y = false) (hlinks : s.linksTo y ≠ [])
    (hsilent : tSUS ≤ s.silence y) (hu : u = (s.setSuspect y true).tallyN .MEMB_SUSPECTS) {c : Nat}
    (hother : u.coordinator y = some c) (hc : c ≠ u.me) :
    exec (.suspicionTimeout y) s =
      .next (s.keep (u.sendStep c (.suspect (u.stepMsg u.openStep y (u.silence y) 0) u.me))) := by
  rw [exec_suspicionTimeout, execSuspicionTimeout, nodeEvt_runs h,
    if_neg (State.not_passedOver_of_silent hnew hlinks hsilent)]
  simp only [← hu, hother, if_neg hc]

theorem exec_suspect_stands (h : Runs s) (hm : s.stepBad m = false) (src : Nat) :
    exec (.suspect m src) s = .next (s.keep ((s.dropSuspicion m.subject src).modStp fun k => { k with
      suspects := k.suspects ++ [{ subject := m.subject, by_ := src, count := m.count, at_ := s.now }] })) := by
  rw [exec_suspect, execSuspect, nodeEvt_runs h, State.withStep_good hm]
  rfl

theorem exec_clear_coordinator (h : Runs s) (hm : s.stepBad m = false) (hself : s.coordinator m.subject = some s.me)
    (src : Nat) :
    exec (.clear m src) s = .next (s.keep (s.dropSuspicion m.subject src)) := by
  rw [exec_clear, execClear, nodeEvt_runs h, State.withStep_good hm, if_pos hself]

theorem exec_membTimeout_asksRoot (h : Runs s) (hmay : s.mayExclude y = true)
    (hroot : y ≠ s.get Reg.STEP_ROLE_ROOT_ID)
    (hu : u = { s with stp := { s.stp with excludeSent := y :: s.stp.excludeSent } }) :
    exec (.membTimeout y) s = .next (s.keep
      (u.sendStep (s.get Reg.STEP_ROLE_ROOT_ID) (.exclude (u.stepMsg u.openStep y 0 0) u.me))) := by
  rw [exec_membTimeout, execMembTimeout, nodeEvt_runs h, if_neg (by simp [hmay]), hu]
  simp only [if_pos hroot]

theorem exec_quorumAbandon_abandons (h : Runs s) (hmay : s.mayAbandon y = true)
    (hu : u = (s.tallyN .MEMB_NO_QUORUM).sendEach 0 0 0 32 (.clear (s.stepMsg s.openStep y 0 0) s.me)
      ((s.stp.suspects.filter (fun x => decide (x.subject = y))).map (·.by_))) :
    exec (.quorumAbandon y) s = .next (s.keep (({ u with stp := { u.stp with
      suspects := u.stp.suspects.filter (fun x => decide (x.subject ≠ y)) } } : State).markSilent y)) := by
  rw [exec_quorumAbandon, execQuorumAbandon, nodeEvt_runs h, if_neg (by simp [hmay]), hu]

theorem exec_isolationTimeout_isolates (h : Runs s) (hme : s.isMember s.me = true) (hcut : s.cutOff = true)
    (hnbrs : tget [] s.ovl.neighbours s.me ≠ []) :
    exec .isolationTimeout s = .next (s.setB Reg.STEP_STATUS_SELF_ISOLATED true) := by
  have halone : (s.isMember s.me && s.cutOff && !(tget [] s.ovl.neighbours s.me).isEmpty) = true := by
    simp [hme, hcut, hnbrs]
  rw [exec_isolationTimeout, execIsolationTimeout, nodeEvt_runs h, if_pos halone, State.keep_setB]

theorem exec_joinRetryTimeout_due (h : Runs s) {t : Nat} (ht : s.stp.joinTick = some t) (hdue : t + tSUS ≤ s.now)
    (hrec : s.flag Reg.STEP_STATUS_RECOVERING = true) :
    exec .joinRetryTimeout s = .next (s.keep s.askJoin) := by
  rw [exec_joinRetryTimeout, execJoinRetryTimeout, nodeEvt_runs h, ht]
  simp only [if_pos (And.intro hdue hrec)]

end Suspicion

/-- Settles O2: each timer and message is its body on the running node, at the branch its conditions choose. What a
JOIN_REQ carries as its step is the model's reading (assumption 6). -/
theorem silenceAndSuspicionRuns : Obligations.SilenceAndSuspicionRuns := by
  refine ⟨fun u s hr hdue hu => exec_heartbeatTimer_due hr hdue hu,
    fun y u s hr hnew hlinks hsilent hu =>
      ⟨fun hself => exec_suspicionTimeout_coordinator hr hnew hlinks hsilent hu hself,
       fun c hother hc => exec_suspicionTimeout_tells hr hnew hlinks hsilent hu hother hc⟩,
    fun m src s hr hm => exec_suspect_stands hr hm src,
    fun m src s hr hm hself => exec_clear_coordinator hr hm hself src,
    fun y u s hr hmay hroot hu => exec_membTimeout_asksRoot hr hmay hroot hu,
    fun y u s hr hmay hu => exec_quorumAbandon_abandons hr hmay hu,
    fun s hr hme hcut hnbrs => exec_isolationTimeout_isolates hr hme hcut hnbrs,
    fun s t hr ht hdue hrec => exec_joinRetryTimeout_due hr ht hdue hrec⟩

/-! ### Excluding, joining and forming -/

section Membership

variable {s u : State} {m : StepMsg}

/-- A member that is not the acting root only stops awaiting the excluded node (R45). -/
theorem exec_exclude_notRoot (h : Runs s) (hm : s.stepBad m = false) (hmember : s.isMember m.subject = true)
    (hother : m.subject ≠ s.me) (hnew : s.stp.excludes.contains m.subject = false)
    (hroot : m.subject ≠ s.get Reg.STEP_ROLE_ROOT_ID) (hu : u = s.awaitNothing m.subject) (hacts : u.actsRoot = false)
    (src : Nat) :
    exec (.exclude m src) s = .next (s.keep u) := by
  have hconcerns : ¬ (!s.isMember m.subject || decide (m.subject = s.me) || s.stp.excludes.contains m.subject) = true := by
    rw [hmember, hnew, decide_eq_false hother]
    decide
  rw [exec_exclude, execExclude, nodeEvt_runs h, State.withStep_good hm]
  simp only [if_neg hconcerns, if_neg (fun hr : _ ∧ _ => hroot hr.1), ← hu, hacts, Bool.false_eq_true, if_false]

/-- A HEARTBEAT renews the sender's links and informs the node; one that recovers also learns the root (R43, R48). -/
theorem exec_heartbeat_heard (h : Runs s) (hm : s.stepBad m = false) {src : Nat}
    (hu : u = (((s.linksTo src).foldl (fun t l => t.setLink l { t.link l with heard := t.now }) s).heardFrom src).learnEpoch
      m.epoch) :
    exec (.heartbeat m src) s = .next (s.keep
      (if u.flag Reg.STEP_STATUS_RECOVERING then u.set Reg.STEP_ROLE_ROOT_ID m.root else u)) := by
  rw [exec_heartbeat, execHeartbeat, nodeEvt_runs h, State.withStep_good hm, hu]

/-- A JOIN_REQ in no structure is kept, and the candidate forms one when all have asked (R430). -/
theorem exec_joinReq_asked (h : Runs s) (hcrc : m.crcOk = true) (hepoch : s.get Reg.STEP_EPOCH = 0)
    (hu : u = { s with stp := { s.stp with
      asked := (m.subject, m.step) :: s.stp.asked.filter (fun a => decide (a.1 ≠ m.subject)),
      formTick := some (s.stp.formTick.getD s.now) } }) (src : Nat) :
    exec (.joinReq m src) s = .next (s.keep (if u.mayForm false then u.form else u)) := by
  rw [exec_joinReq, execJoinReq, nodeEvt_runs h, if_neg (by simp [hcrc]), if_pos hepoch, hu]
  rfl

theorem exec_joinReq_granted (h : Runs s) (hcrc : m.crcOk = true) (hepoch : s.get Reg.STEP_EPOCH ≠ 0)
    (hroot : s.flag Reg.STEP_ROLE_IS_ROOT = true) (hnew : s.isMember m.subject = false)
    (honce : s.stp.joins.any (fun j => decide (j.1 = m.subject)) = false) (src : Nat) :
    exec (.joinReq m src) s = .next (s.keep (s.grantJoin m.subject)) := by
  have hgrants : (s.flag Reg.STEP_ROLE_IS_ROOT && !s.isMember m.subject &&
      !s.stp.joins.any (fun j => decide (j.1 = m.subject))) = true := by rw [hroot, hnew, honce]; rfl
  rw [exec_joinReq, execJoinReq, nodeEvt_runs h, if_neg (by simp [hcrc]), if_neg hepoch, if_pos hgrants]

theorem exec_formationWaitExpiry_forms (h : Runs s) {t : Nat} (ht : s.stp.formTick = some t)
    (hdue : t + second * s.get Reg.CFG_AMEND_CFG_FORM_WAIT_S ≤ s.now) (hmay : s.mayForm true = true) :
    exec .formationWaitExpiry s = .next (s.keep s.form) := by
  rw [exec_formationWaitExpiry, execFormationWaitExpiry, nodeEvt_runs h, ht]
  simp only [if_pos (And.intro hdue hmay)]

/-- A member keeps a grant it has not heard of and floods it on (R52). -/
theorem exec_joinGrant_flooded (h : Runs s) (hm : s.stepBad m = false) (hepoch : s.get Reg.STEP_EPOCH ≠ 0)
    (hrunning : m.epoch ≠ 1) (hnew : s.stp.joins.contains (m.subject, m.step) = false) (hme : s.isMember s.me = true)
    (hu : u = { s with stp := { s.stp with joins := (m.subject, m.step) :: s.stp.joins } }) (src : Nat) :
    exec (.joinGrant m src) s = .next (s.keep (u.flood 0 0 32 (some src) (.joinGrant m s.me))) := by
  have hmember : u.isMember u.me = true := by rw [hu]; exact hme
  rw [exec_joinGrant, execJoinGrant, nodeEvt_runs h, State.withStep_good hm, if_neg hepoch,
    if_neg (fun hr : _ ∧ _ => hrunning hr.1), if_neg (ne_true_of_eq_false hnew)]
  simp only [← hu, if_pos hmember]
  rw [hu]
  rfl

end Membership

/-- Settles O3: each message is its body on the running node, at the branch its conditions choose. A JOIN_REQ that carries
the lease as its step, and an EXCLUDE that members act on, are the model's readings (assumptions 6 and 43). -/
theorem membershipChangesRun : Obligations.MembershipChangesRun := by
  refine ⟨fun m src u s hr hm hmember hother hnew hroot hu hacts =>
      exec_exclude_notRoot hr hm hmember hother hnew hroot hu hacts src,
    fun m src u s hr hm hu => ⟨fun hrec => ?_, fun hrec => ?_⟩,
    fun m src u s hr hcrc hepoch hu => ⟨fun hwaits => ?_, fun hforms => ?_⟩,
    fun m src s hr hcrc hepoch hroot hnew honce => exec_joinReq_granted hr hcrc hepoch hroot hnew honce src,
    fun s t hr ht hdue hmay => exec_formationWaitExpiry_forms hr ht hdue hmay,
    fun m src u s hr hm hepoch hrunning hnew hme hu => exec_joinGrant_flooded hr hm hepoch hrunning hnew hme hu src⟩
  · rw [exec_heartbeat_heard hr hm hu, if_neg (ne_true_of_eq_false hrec)]
  · rw [exec_heartbeat_heard hr hm hu, if_pos hrec]
  · rw [exec_joinReq_asked hr hcrc hepoch hu, if_neg (ne_true_of_eq_false hwaits), hu]
    rfl
  · rw [exec_joinReq_asked hr hcrc hepoch hu, if_pos hforms]

end Sys2Proof.Machine
end

/-! SUPPORT. Operations admitted as queries (R31, R93, R94, R221, R290, R473). -/

section
namespace Sys2Proof.Machine

open Sys2Proof

/-! ### Admission of a served descriptor -/

section AdmittedQueries

variable {s u : State} {p n : Nat} {h : Head} {dlv : Delivery} {t : Taken} {a : Admitted}

/-- A vector-form QUERY takes its vector's forms and is admitted; it starts where the step before its own is committed. -/
theorem exec_query_vector {q : Query} {f : State × Query} (hr : Runs s) (hs : Served s 1 p n h dlv)
    (hform : rawForm h.data = false) (ht : t = (s.takeHead p n h).2)
    (hu : u = (s.takeHead p n h).1.tallyP .QRY_ADMITTED t.part) (hq : q = u.queryOf t dlv)
    (hf : f = u.formQuery q q.qscale q.qzero
      ((h.data.drop 64).take ((u.cfgOf q.handle).dim * elemBytes (u.cfgOf q.handle).elem)))
    (ha : a = { t.admitted dlv q.handle 0 true with query := some f.2 }) :
    exec .query s = .next (s.keep
      (if t.id.step ≤ (f.1.admitOp a).get Reg.STEP_COMMITTED + 1 then (f.1.admitOp a).startQuery a
       else f.1.admitOp a)) := by
  have hdata : t.data = h.data := by rw [ht, takeHead_data]
  have hvector : ¬ rawForm t.data = true := by rw [hdata, hform]; decide
  rw [exec_query, execQuery, nodeEvt_runs hr, serve_served hs]
  simp only [← ht, ← hu, ← hq, if_neg hvector]
  rw [hdata, ← hf, ← ha]

/-- ENC_RUN becomes a job whose records join the backlog, announced where it starts at once. -/
theorem exec_encRun_admitted {i : Nat} {started : Bool} {v : State} (hr : Runs s) (hs : Served s 0x2C p n h dlv)
    (hu : u = (s.takeHead p n h).1) (ht : t = (s.takeHead p n h).2)
    (hi : i = (u.modelEntry t.part (body h.data 0 4) t.id.step).getD 0)
    (hstarted : started = decide (t.id.step ≤ u.get Reg.STEP_COMMITTED + 1))
    (ha : a = { t.admitted dlv (body h.data 0 4) 0 true with items := body h.data 4 4, started := started })
    (hv : v = ((u.admitOp a).modEnc fun e => { e with jobs := e.jobs ++ [{
        id := t.id, count := body h.data 4 4, src := body h.data 8 8, dst := body h.data 16 8,
        inStride := body h.data 24 4, outStride := body h.data 28 4, ok := 0, bad := 0, status := 0 }] }).admitRecords
      ((List.range (body h.data 4 4)).map (fun k => { id := t.id, pos := k, cls := 1, model := i, part := t.part }))) :
    exec .encRun s = .next (s.keep (if started then v.announceOp t.id 0x2C else v)) := by
  have hdata : t.data = h.data := by rw [ht, takeHead_data]
  rw [exec_encRun, execEncRun, nodeEvt_runs hr, serve_served hs]
  simp only [← ht, ← hu, hdata, ← hi, ← hstarted, ← ha, ← hv]

/-- EMB_TABLE_SAVE becomes a look-up of rows; it starts where the step before its own is committed. -/
theorem exec_embTableSave_admitted {v : State} (hr : Runs s) (hs : Served s 0x23 p n h dlv)
    (hu : u = (s.takeHead p n h).1) (ht : t = (s.takeHead p n h).2)
    (ha : a = { t.admitted dlv (body h.data 0 2) 0 true with items := body h.data 8 8 })
    (hv : v = (u.admitOp a).modEmb (fun e => { e with lookups := e.lookups ++ [{
      id := t.id, table := body h.data 0 2, dst := body h.data 16 8, save := true, first := body h.data 4 4,
      count := body h.data 8 8, bags := [], sums := [], await := [], fwd := 0, bad := 0 }] })) :
    exec .embTableSave s = .next (s.keep
      (if t.id.step ≤ v.get Reg.STEP_COMMITTED + 1 then v.startLookup a else v)) := by
  have hdata : t.data = h.data := by rw [ht, takeHead_data]
  rw [exec_embTableSave, execEmbTableSave, nodeEvt_runs hr, serve_served hs]
  simp only [← ht, ← hu, hdata, ← ha, ← hv]

end AdmittedQueries

/-- Settles O7: the pick is taken, and its operation runs on the descriptor taken, whose bytes are the head's. How a query
reaches its completion slot is the model's reading (assumption 7). -/
theorem admittedQueriesRun : Obligations.AdmittedQueriesRun := by
  refine ⟨fun p n h dlv t q f a u s hr hs hform ht hu hq hf ha => exec_query_vector hr hs hform ht hu hq hf ha,
    fun p n h dlv t i started a v u s hr hs hu ht hi hstarted ha hv =>
      exec_encRun_admitted hr hs hu ht hi hstarted ha hv,
    fun p n h dlv t a v u s hr hs hu ht ha hv => exec_embTableSave_admitted hr hs hu ht ha hv⟩

end Sys2Proof.Machine
end

/-! SUPPORT. The stages of a start (R52, R186, R191, R193, R204, R410, R413, R414, R423, R428, R429, R431). -/

section
namespace Sys2Proof.Machine

open Sys2Proof

section StartStages

variable {s u : State}

/-! ### The identity key and the image -/

/-- In stage 0, with the supply good, a key is derived from a response whose flips the code corrects; stage 1 begins with
or without it (R414, R443). -/
theorem exec_pufDeriveDone_stage0 {flipped : Nat} {ok good : Bool} (h : Runs s)
    (hstage : s.get Reg.CFG_STATUS_STAGE = 0) (hpower : s.pwr.pwrFailN = true)
    (hu : u = (s.setB Reg.SEC_STATUS_PUF_DONE true).setB Reg.SEC_STATUS_PUF_MARGIN (decide (1638 < flipped)))
    (hgood : (ok && decide (flipped ≤ 2457)) = good) :
    exec (.pufDeriveDone flipped ok) s = .next (s.keep
      (((if good then u.set Reg.SEC_ID_PUB Config.idPub.toNat else u).modCfg fun k => { k with pufOk := good }).stageTo 1)) := by
  have hruns : ¬ (s.get Reg.CFG_STATUS_STAGE ≠ 0 ∨ s.pwr.pwrFailN = false) := by simp [hstage, hpower]
  rw [exec_pufDeriveDone, execPufDeriveDone, nodeEvt_runs h, if_neg hruns]
  simp only [← hu, hgood]

section ImageVerify

variable {device : Nat} {r : ImgRead} {i : Image}

/-- IMAGE_VERIFY_DONE acts in stage 1 on the device in turn (R410). -/
theorem State.imageInTurn (hstage : s.get Reg.CFG_STATUS_STAGE = 1)
    (hturn : device = if s.cfg.firstFail.isNone then s.get Reg.CFG_STATUS_STRAP_CFG_SEL
      else 1 - s.get Reg.CFG_STATUS_STRAP_CFG_SEL) :
    ¬ (s.get Reg.CFG_STATUS_STAGE ≠ 1 ∨ device ≠ if s.cfg.firstFail.isNone then s.get Reg.CFG_STATUS_STRAP_CFG_SEL
      else 1 - s.get Reg.CFG_STATUS_STRAP_CFG_SEL) :=
  fun hskip => hskip.elim (· hstage) (· hturn)

theorem exec_imageVerifyDone_unreadable (h : Runs s) (hstage : s.get Reg.CFG_STATUS_STAGE = 1)
    (hturn : device = if s.cfg.firstFail.isNone then s.get Reg.CFG_STATUS_STRAP_CFG_SEL
      else 1 - s.get Reg.CFG_STATUS_STRAP_CFG_SEL) {reason : Nat} (hr : imgVerify r = .inl reason) :
    exec (.imageVerifyDone device r) s = .next (s.keep (s.imageFails device reason)) := by
  rw [exec_imageVerifyDone, execImageVerifyDone, nodeEvt_runs h]
  simp only [if_neg (State.imageInTurn hstage hturn), hr]

theorem exec_imageVerifyDone_verified (h : Runs s) (hstage : s.get Reg.CFG_STATUS_STAGE = 1)
    (hturn : device = if s.cfg.firstFail.isNone then s.get Reg.CFG_STATUS_STRAP_CFG_SEL
      else 1 - s.get Reg.CFG_STATUS_STRAP_CFG_SEL) (hr : imgVerify r = .inr i) :
    exec (.imageVerifyDone device r) s = .next (s.keep
      (if s.identityOk i then s.takeImage device i else s.imageFails device 8)) := by
  rw [exec_imageVerifyDone, execImageVerifyDone, nodeEvt_runs h]
  simp only [if_neg (State.imageInTurn hstage hturn), hr]

end ImageVerify

/-! ### Stacks and flash -/

/-- Once, in stage 1 or 2, the trained stacks are repaired; in stage 2 the layout is known, the failed channels are
relocated and stage 3 begins (R186, R428). -/
theorem exec_stackTrainingDone_trains {failed : List Nat} {vias : List (Nat × Nat)} {rows : List (Nat × Nat × Nat)}
    (h : Runs s) (hfirst : s.cfg.trained = false)
    (hu : u = (rows.foldl (fun (s : State) r => s.repairRow r.1 r.2.1 r.2.2)
      (vias.foldl (fun (s : State) v => s.remapVia v.1 v.2) s)).modCfg
        (fun k => { k with trained := true, badChans := failed }))
    (hstage : s.get Reg.CFG_STATUS_STAGE = 1 ∨ s.get Reg.CFG_STATUS_STAGE = 2) :
    exec (.stackTrainingDone failed vias rows) s = .next (s.keep
      (if s.get Reg.CFG_STATUS_STAGE = 2 then u.failTrained.startStage3 else u)) := by
  have htrains : ¬ (s.cfg.trained = true ∨ (s.get Reg.CFG_STATUS_STAGE ≠ 1 ∧ s.get Reg.CFG_STATUS_STAGE ≠ 2)) :=
    fun hskip => hskip.elim (ne_true_of_eq_false hfirst) fun hother => hstage.elim hother.1 hother.2
  rw [exec_stackTrainingDone, execStackTrainingDone, nodeEvt_runs h]
  simp only [if_neg htrains, ← hu]

/-- In stage 3 the LUNs present are taken; replay begins unless the map refers to one that is not there (R191, R193). -/
theorem exec_flashInitDone_takesLuns {luns use : List Nat} {chans : List (Nat × Nat × Nat)} {offline : List (Option Nat)}
    {est : Nat} {t v : State} (h : Runs s) (hstage : s.get Reg.CFG_STATUS_STAGE = 3)
    (hreplay : s.flag Reg.GRAN_STATUS_REPLAYING = false) (hmissing : s.flag Reg.GRAN_STATUS_CH_MISSING = false)
    (huse : use = if s.gran.map.isEmpty then luns.filter (fun l => bit s.gran.chanMask (l / 8)) else luns)
    (hest : est = min 5256000 ((offline.map (fun o => o.getD 5256000)).foldl max 0))
    (ht : t = s.modGran (fun g => { g with luns := use }))
    (hu : u = (((chans.filter (fun x => decide (x.1 < 16))).foldl (fun (s : State) x => s.showChan luns x) t).set
      Reg.GRAN_AGE_OFFLINE_EST est).stick Reg.GRAN_AGE_AGE est)
    (hv : v = u.set Reg.GRAN_SPACE_USER_GIB
      (userBytes u.gran.profile use.length (u.get Reg.GRAN_CFG_OP_PCT) / 2 ^ 30)) :
    exec (.flashInitDone luns chans offline) s = .next (s.keep (if v.lunMissing then
      ((v.setB Reg.GRAN_STATUS_CH_MISSING true).setB Reg.STEP_STATUS_RECOVERING true).nodeFault
      else v.setB Reg.GRAN_STATUS_REPLAYING true)) := by
  have hstarts : ¬ (s.get Reg.CFG_STATUS_STAGE ≠ 3 ∨ s.flag Reg.GRAN_STATUS_REPLAYING = true ∨
      s.flag Reg.GRAN_STATUS_CH_MISSING = true) := by simp [hstage, hreplay, hmissing]
  rw [exec_flashInitDone, execFlashInitDone, nodeEvt_runs h]
  simp only [if_neg hstarts, ← huse, ← hest, ← ht, ← hu, ← hv]

/-- The end of the replay opens the step of the lease mark and applies what the log holds up to it (R204, R423, R429). -/
theorem exec_mapReplayDone_replayed (h : Runs s) (hreplay : s.flag Reg.GRAN_STATUS_REPLAYING = true)
    (hu : u = (s.setB Reg.GRAN_STATUS_REPLAYING false).set Reg.STEP_OPEN (s.get Reg.GRAN_LEASE))
    (mem : List (Nat × List Byte)) :
    exec (.mapReplayDone mem) s = .next (s.keep
      (((u.replayModels.replayLog mem (u.get Reg.GRAN_LEASE)).homeDiscard.stageTo 4).settleLinks)) := by
  rw [exec_mapReplayDone, execMapReplayDone, nodeEvt_runs h, if_pos hreplay, hu]

/-! ### Catching up -/

section CatchUp

variable {c : CatchUp} {log : List (List Byte)} {mem : List (Nat × List Byte)} {t v : State}

/-- A recovering node in stage 5 stands at the commit it has caught up to and asks to join (R52, R431). -/
theorem exec_catchUpDone_recovering (h : Runs s)
    (ht : t = ((log.foldl (fun (s : State) r => s.takeAppend r) s).replayLog mem (c.committed + 1)).takeCatchUp c)
    (hu : u = (t.set Reg.STEP_MEMBERS c.members).set Reg.STEP_EPOCH c.epoch)
    (hv : v = (u.set Reg.STEP_ROLE_ROOT_ID c.root).setB Reg.STEP_ROLE_IS_ROOT (decide (c.root = u.me)))
    (hearly : (s.flag Reg.STEP_STATUS_RECOVERING && decide (s.get Reg.CFG_STATUS_STAGE = 5) &&
      !s.flag Reg.GRAN_STATUS_CH_MISSING) = true) :
    exec (.catchUpDone c log mem) s = .next (s.keep
      (((v.set Reg.STEP_COMMITTED c.committed).set Reg.STEP_EXEC (c.committed + 1)).set Reg.STEP_OPEN
        (c.committed + 1)).askJoin) := by
  rw [exec_catchUpDone, execCatchUpDone, nodeEvt_runs h]
  simp only [hearly, Bool.not_true, Bool.false_and, Bool.false_eq_true, if_false, if_true, ← ht, ← hu, ← hv]

/-- A node that has joined serves once its catch-up reaches the commit of its join (R52, assumption 46). -/
theorem exec_catchUpDone_joined (h : Runs s)
    (ht : t = ((log.foldl (fun (s : State) r => s.takeAppend r) s).replayLog mem (c.committed + 1)).takeCatchUp c)
    (hu : u = (t.set Reg.STEP_MEMBERS c.members).set Reg.STEP_EPOCH c.epoch)
    (hv : v = (u.set Reg.STEP_ROLE_ROOT_ID c.root).setB Reg.STEP_ROLE_IS_ROOT (decide (c.root = u.me)))
    (hrec : s.flag Reg.STEP_STATUS_RECOVERING = false) (hjoin : s.stp.joinStep ≠ none) {j : Nat}
    (hj : v.stp.joinStep = some j) :
    exec (.catchUpDone c log mem) s = .next (s.keep
      (if j ≤ c.committed then v.modStp (fun k => { k with joinStep := none }) else v)) := by
  have hnone : s.stp.joinStep.isNone = false := by rwa [Option.isNone_eq_false_iff, Option.isSome_iff_ne_none]
  rw [exec_catchUpDone, execCatchUpDone, nodeEvt_runs h]
  simp only [hrec, hnone, Bool.false_and, Bool.and_false, Bool.false_eq_true, if_false, ← ht, ← hu, ← hv, hj]

end CatchUp

end StartStages

/-- Settles O37: each event is its body on the running node, at the branch its conditions choose. An image's contents and
the other holders' state are operands, a node that has joined may still catch up, and the repairs of training count (the
model's readings, assumptions 41, 46, 66 and 85). -/
theorem startStagesRun : Obligations.StartStagesRun := by
  refine ⟨fun flipped u s hr hstage hpower hu =>
      ⟨fun hflips => exec_pufDeriveDone_stage0 (good := true) hr hstage hpower hu (by simpa using hflips),
       fun hflips => exec_pufDeriveDone_stage0 (good := false) hr hstage hpower hu (by simpa using hflips),
       exec_pufDeriveDone_stage0 hr hstage hpower hu (Bool.false_and _)⟩,
    fun device r s hr hstage hturn =>
      ⟨fun reason hv => exec_imageVerifyDone_unreadable hr hstage hturn hv, fun i hv hkey => ?_, fun i hv hkey => ?_⟩,
    fun failed vias rows u s hr hfirst hu => ⟨fun hstage => ?_, fun hstage => ?_⟩,
    fun luns use chans offline est t u v s hr hstage hreplay hmissing huse hest ht hu hv => ⟨fun hl => ?_, fun hl => ?_⟩,
    fun mem u s hr hreplay hu => exec_mapReplayDone_replayed hr hreplay hu mem,
    fun c log mem t u v s hr ht hu hv =>
      ⟨fun hearly => exec_catchUpDone_recovering hr ht hu hv hearly,
       fun hrec hjoin j hj => exec_catchUpDone_joined hr ht hu hv hrec hjoin hj⟩⟩
  · rw [exec_imageVerifyDone_verified hr hstage hturn hv, if_pos hkey]
  · rw [exec_imageVerifyDone_verified hr hstage hturn hv, if_neg (ne_true_of_eq_false hkey)]
  · rw [exec_stackTrainingDone_trains hr hfirst hu (.inl hstage), if_neg (by omega)]
  · rw [exec_stackTrainingDone_trains hr hfirst hu (.inr hstage), if_pos hstage]
  · rw [exec_flashInitDone_takesLuns hr hstage hreplay hmissing huse hest ht hu hv, if_neg (ne_true_of_eq_false hl)]
  · rw [exec_flashInitDone_takesLuns hr hstage hreplay hmissing huse hest ht hu hv, if_pos hl]

end Sys2Proof.Machine
end

/-! SUPPORT. Mutations, filter operations, table loads and shared-space operations: admission (R76, R79, R137, R140, R142,
R290, R302, R315, R320, R471). -/

section
namespace Sys2Proof.Machine

open Sys2Proof

/-! ### Served descriptors that are no queries -/

section AdmittedMutations

variable {s u : State} {p n : Nat} {h : Head} {dlv : Delivery} {t : Taken} {a : Admitted}

/-- On a running node a served pick's operation runs on the descriptor taken (R471). -/
theorem nodeEvt_serve_served {op : Nat} (hr : Runs s) (hs : Served s op p n h dlv) (hu : u = (s.takeHead p n h).1)
    (ht : t = (s.takeHead p n h).2) (run : State → Taken → Delivery → State) :
    nodeEvt s (fun s => s.serve (isOp op) run) = .next (s.keep (run u t dlv)) := by
  rw [nodeEvt_runs hr, serve_served hs, hu, ht]

/-- RECORD_READ is admitted; it starts where the step before its own is committed (R142). -/
theorem exec_recordRead_admitted (hr : Runs s) (hs : Served s 0x13 p n h dlv) (ht : t = (s.takeHead p n h).2)
    (ha : a = t.admitted dlv (body h.data 0 2 % 4096) (body h.data 8 8) false)
    (hu : u = (s.takeHead p n h).1.admitOp a) :
    exec .recordRead s = .next (s.keep (if t.id.step ≤ u.get Reg.STEP_COMMITTED + 1 then u.startRead a else u)) := by
  have hdata : t.data = h.data := by rw [ht, takeHead_data]
  rw [exec_recordRead, execRecordRead, nodeEvt_serve_served hr hs rfl ht]
  simp only [hdata, ← ha, ← hu]

/-- EMB_TABLE_LOAD is kept as a load not yet done, due LOAD_LAG steps after its own (R290). -/
theorem exec_embTableLoad_admitted (hr : Runs s) (hs : Served s 0x22 p n h dlv) (hu : u = (s.takeHead p n h).1)
    (ht : t = (s.takeHead p n h).2)
    (ha : a = { t.admitted dlv (body h.data 0 2) 0 false with items := body h.data 8 8, started := true }) :
    exec .embTableLoad s = .next (s.keep ((u.admitOp a).modEmb fun e => { e with loads := e.loads ++ [{
      info := { id := t.id, table := body h.data 0 2, part := t.part, first := body h.data 4 4,
                count := body h.data 8 8, clear := bit (body h.data 2 1) 0 },
      rows := [], done := false, due := t.id.step + u.get Reg.EMB_CFG_LOAD_LAG }] })) := by
  have hdata : t.data = h.data := by rw [ht, takeHead_data]
  rw [exec_embTableLoad, execEmbTableLoad, nodeEvt_serve_served hr hs hu ht]
  simp only [hdata, ← ha]

end AdmittedMutations

/-- Settles O8: the pick is taken, and its operation runs on the descriptor taken, whose bytes are the head's. Filter
operations going to every member, the staging credit that a mutation spends and the holder that a RECORD_READ asks are the
model's readings (assumptions 9, 13 and 15). -/
theorem admittedMutationsRun : Obligations.AdmittedMutationsRun := by
  refine ⟨fun p n h dlv t u s hr hu ht => ⟨fun hs => ?_, fun hs => ?_, fun hs => ?_⟩,
    fun p n h dlv t a u s hr hs ht ha hu => exec_recordRead_admitted hr hs ht ha hu,
    fun p n h dlv t u s hr hu ht => ⟨fun hs => ?_, fun hs => ?_⟩,
    fun p n h dlv t a u s hr hs hu ht ha => exec_embTableLoad_admitted hr hs hu ht ha,
    fun p n h dlv t u s hr hu ht => ⟨fun hs => ?_, fun hs => ?_, fun hs => ?_⟩⟩
  · rw [exec_insert, execInsert, nodeEvt_serve_served hr hs hu ht]
  · rw [exec_delete, execDelete, nodeEvt_serve_served hr hs hu ht]
  · rw [exec_replace, execReplace, nodeEvt_serve_served hr hs hu ht]
  · rw [exec_filterLoad, execFilterLoad, nodeEvt_serve_served hr hs hu ht]
  · rw [exec_filterRetire, execFilterRetire, nodeEvt_serve_served hr hs hu ht]
  · rw [exec_shmPublish, execShmPublish, nodeEvt_serve_served hr hs hu ht]
  · rw [exec_shmFlush, execShmFlush, nodeEvt_serve_served hr hs hu ht]
  · rw [exec_shmStageReset, execShmStageReset, nodeEvt_serve_served hr hs hu ht]

end Sys2Proof.Machine
end

/-! SUPPORT. Staging, digests, acknowledgements and builds (R74, R76, R137 to R139, R142, R144, R147, R148, R182). -/

section
namespace Sys2Proof.Machine

open Sys2Proof

section MutationStaging

variable {s : State} {id : OpId}

@[simp] theorem State.keep_modSrch (s : State) (f : SearchSt → SearchSt) : s.keep (s.modSrch f) = s.modSrch f := rfl

/-! ### STAGE and DIGEST -/

/-- A mutation of a step still to commit here is staged when it first comes from its admitting node (R29, R138). -/
theorem exec_stage_mutation {m : Mutation} {src : Nat} (h : Runs s) (hop : m.op ≠ 0x13)
    (hstep : s.get Reg.STEP_COMMITTED < m.id.step) (hnew : s.staged? m.id = none) (hsrc : src = m.id.admitter)
    (again : Option (Nat × Bool)) :
    exec (.stage (.mutation m) src again) s = .next (s.keep (s.stageMut m again)) := by
  have htaken : ¬ (m.id.step ≤ s.get Reg.STEP_COMMITTED ∨ (s.staged? m.id).isSome = true ∨ src ≠ m.id.admitter) := by
    simp [hstep, hnew, hsrc]
  rw [exec_stage, execStage, nodeEvt_runs h]
  simp only [if_neg hop, if_neg htaken]

theorem exec_stage_filter {f : FilterOp} (h : Runs s) (hstep : s.get Reg.STEP_COMMITTED < f.id.step) (src : Nat)
    (again : Option (Nat × Bool)) :
    exec (.stage (.filter f) src again) s = .next (s.keep (s.stageFilter f)) := by
  rw [exec_stage, execStage, nodeEvt_runs h]
  simp only [if_neg (Nat.not_le.mpr hstep)]

/-- A digest that comes before its mutation is kept (R139). -/
theorem exec_digest_early (h : Runs s) (hnone : s.staged? id = none) (d : Digest) (src : Nat)
    (again : Option (Nat × Bool)) :
    exec (.digest id d src again) s = .next (s.modSrch fun k => { k with digests := k.digests ++ [(id, d)] }) := by
  have habsent : ¬ (s.staged? id).isSome = true := by simp [hnone]
  rw [exec_digest, execDigest, nodeEvt_runs h, if_neg habsent, State.keep_modSrch]

theorem exec_digest_staged (h : Runs s) (hstaged : (s.staged? id).isSome = true) (d : Digest) (src : Nat)
    (again : Option (Nat × Bool)) :
    exec (.digest id d src again) s = .next (s.keep ((s.modSrch fun k => { k with
      staged := lmod (fun g => decide (g.m.id = id)) (fun g => { g with peer := some d }) k.staged }).compareDigests
        id again)) := by
  rw [exec_digest, execDigest, nodeEvt_runs h, if_pos hstaged]

/-! ### STAGE_ACK, OUTCOME and CREDIT -/

theorem exec_stageAck_admitter (h : Runs s) (hme : id.admitter = s.me) (fwd src : Nat) :
    exec (.stageAck id fwd src) s = .next (s.keep ((s.gotAck id src).countFwd id fwd)) := by
  rw [exec_stageAck, execStageAck, nodeEvt_runs h, if_pos hme]

theorem exec_stageAck_forwarder (h : Runs s) (hother : id.admitter ≠ s.me) (fwd src : Nat) :
    exec (.stageAck id fwd src) s = .next (s.keep (s.relayAck id src)) := by
  rw [exec_stageAck, execStageAck, nodeEvt_runs h, if_neg hother]

theorem exec_outcome_runs (h : Runs s) (o : MutOutcome) (src : Nat) :
    exec (.outcome id o src) s = .next (s.keep ((s.takeOutcome id o src).tryFilter id)) := by
  rw [exec_outcome, execOutcome, nodeEvt_runs h]

theorem exec_credit_runs (h : Runs s) (src : Nat) (units : Int) :
    exec (.credit src units) s = .next (s.keep (s.takeCredit src units).drainGrads) := by
  rw [exec_credit, execCredit, nodeEvt_runs h]

end MutationStaging

/-- Settles O11: each event is its body on the running node, at the branch its conditions choose; the three builds act on
the shard whether or not they find anything to mark. A filter operation staged as STAGE, a rebuild's edges as its operand
and the relayed STAGE_ACK are the model's readings (assumptions 9, 18 and 104). -/
theorem mutationStagingRuns : Obligations.MutationStagingRuns := by
  refine ⟨fun m src again s hr hop hstep hnew hsrc => exec_stage_mutation hr hop hstep hnew hsrc again,
    fun f src again s hr hstep => exec_stage_filter hr hstep src again,
    fun id d src again s hr =>
      ⟨fun hnone => exec_digest_early hr hnone d src again, fun hstaged => exec_digest_staged hr hstaged d src again⟩,
    fun id fwd src s hr =>
      ⟨fun hme => exec_stageAck_admitter hr hme fwd src, fun hother => exec_stageAck_forwarder hr hother fwd src⟩,
    fun id o src a s hr hadm => exec_outcome_runs hr o src,
    fun src units s hr => exec_credit_runs hr src units,
    fun coll shard fslot status bitmap s hr hshard => ?_,
    fun coll shard list s hr hshard => ?_,
    fun coll shard edges entry sh b s hr hshard hrebuild hdone => ?_⟩
  · rw [exec_filterPlacementDone, execFilterPlacementDone, nodeEvt_runs hr]
  · rw [exec_upkeepBuildDone, execUpkeepBuildDone, nodeEvt_runs hr]
  · rw [exec_graphRebuildDone, execGraphRebuildDone]
    exact nodeEvt_runs hr _

end Sys2Proof.Machine
end

/-! SUPPORT. Rings and their doorbells (R6, R87, R88, R92, R103, R471). -/

section
namespace Sys2Proof

/-! ### Writing what already stands -/

/-- In a rising table, to put a key's own value changes nothing. -/
theorem tput_of_tfind {α : Type} {t : Tab α} {k : Nat} {v : α} (h : tabRising t = true) (hk : tfind t k = some v) :
    tput t k v = t := by
  induction t with
  | nil => simp [tfind] at hk
  | cons e t ih =>
    obtain ⟨j, w⟩ := e
    obtain ⟨hrest, hbelow⟩ := tabRising_tail h
    by_cases hjk : k = j
    · have hw : w = v := by simpa [tfind, hjk] using hk
      simp [tput, hjk, hw]
    · have hin : tfind t k = some v := by simpa [tfind, hjk] using hk
      have hlt : ¬ k < j := fun hlt => by
        rw [tfind_below fun x hx => hlt.trans (hbelow x hx)] at hin
        exact absurd hin (by simp)
      rw [tput, if_neg hlt, if_neg hjk, ih hrest hin]

/-- To take away a key that is not listed changes nothing. -/
theorem tdel_of_tfind_none {α : Type} {t : Tab α} {k : Nat} (hk : tfind t k = none) : tdel t k = t := by
  induction t with
  | nil => rfl
  | cons e t ih =>
    obtain ⟨j, w⟩ := e
    have hjk : k ≠ j := fun hjk => by simp [tfind, hjk] at hk
    rw [tdel, if_neg hjk, ih (by simpa [tfind, hjk] using hk)]

/-- In a rising table that does not list the key's default, to set a key to what it reads changes nothing. -/
theorem tset_tget_self {α : Type} [DecidableEq α] {d : α} {t : Tab α} {k : Nat} (h : tabRising t = true)
    (hk : tfind t k ≠ some d) : tset d t k (tget d t k) = t := by
  cases hf : tfind t k with
  | none => simp [tset, tget, hf, tdel_of_tfind_none hf]
  | some v =>
    have hv : v ≠ d := fun hv => hk (hf.trans (congrArg some hv))
    simp [tset, tget, hf, hv, tput_of_tfind h hf]

end Sys2Proof

namespace Sys2Proof.Machine

open Sys2Proof

/-- In canonical registers, to write what a field reads changes nothing. -/
theorem State.set_get_self {s : State} {f : Fld} (h : tabRising s.regs = true) (hf : tfind s.regs f.bit ≠ some f.dflt)
    (hw : s.get f < 2 ^ f.w) : s.set f (s.get f) = s := by
  have hregs : tset f.dflt s.regs f.bit (s.get f % 2 ^ f.w) = s.regs := by
    rw [Nat.mod_eq_of_lt hw]
    exact tset_tget_self h hf
  rw [State.set, hregs]

/-! ### Distances on a ring (R88) -/

/-- The distance from b up to a is the only d below m that leads from b to a. -/
theorem ringDist_eq {a b d m : Nat} (hd : d < m) (h : (b + d) % m = a % m) : ringDist a b m = d := by
  have hr : b % m < m := Nat.mod_lt b (Nat.zero_lt_of_lt hd)
  calc ringDist a b m = (a + (m - b % m)) % m := by rw [ringDist, Nat.add_sub_assoc hr.le]
    _ = (a % m + (m - b % m)) % m := (Nat.mod_add_mod ..).symm
    _ = ((b % m + d) % m + (m - b % m)) % m := by rw [← h, Nat.mod_add_mod b m d]
    _ = (d + m) % m := by
      rw [Nat.mod_add_mod, Nat.add_right_comm, Nat.add_sub_cancel' hr.le, Nat.add_comm]
    _ = d := by rw [Nat.add_mod_right, Nat.mod_eq_of_lt hd]

/-- R88's test in terms of the two distances from HEAD. -/
theorem doorbellOk_iff {size head tail value dOld dNew : Nat} (hold : dOld < 2 * size)
    (htail : (head + dOld) % (2 * size) = tail % (2 * size)) (hnew : dNew < 2 * size)
    (hvalue : (head + dNew) % (2 * size) = value % (2 * size)) :
    doorbellOk size head tail value = true ↔ value < 2 * size ∧ dOld ≤ dNew ∧ dNew ≤ size := by
  rw [doorbellOk, decide_eq_true_eq, ringDist_eq hold htail, ringDist_eq hnew hvalue]

theorem doorbellOk_past {size value : Nat} (h : 2 * size ≤ value) (head tail : Nat) :
    doorbellOk size head tail value = false :=
  decide_eq_false fun ⟨hlt, _⟩ => absurd hlt (Nat.not_lt.mpr h)

/-! ### Doorbells (R88, R103) -/

section Doorbells

variable {s : State} {h : HostReq} {p n value : Nat}

theorem State.ringDoorbell_ok (hok : doorbellOk (s.iringSize p n) (s.get (Reg.IRING_HEAD p n))
    (s.get (Reg.IRING_TAIL p n)) value = true) : s.ringDoorbell p n value = s.set (Reg.IRING_TAIL p n) value :=
  if_pos hok

theorem State.ringDoorbell_bad (hbad : doorbellOk (s.iringSize p n) (s.get (Reg.IRING_HEAD p n))
    (s.get (Reg.IRING_TAIL p n)) value = false) : s.ringDoorbell p n value = s.badDoorbell p :=
  if_neg (ne_true_of_eq_false hbad)

/-- A head write is accepted as far as the slots from SRING_HEAD on are written (R103). -/
theorem State.returnSlots_ok {size head d : Nat} (hsize : size = s.sringSize p n)
    (hhead : head = s.get (Reg.SRING_HEAD p n)) (hd : d = ringDist value head (2 * size)) (hlt : value < 2 * size)
    (hrun : d ≤ s.writtenRun p n head size) :
    s.returnSlots p n value =
      (s.setWritten p n ((s.writtenOf p n).filter (fun i => decide (d ≤ ringDist i head (2 * size))))).set
        (Reg.SRING_HEAD p n) value := by
  subst hsize hhead hd
  exact if_pos ⟨hlt, hrun⟩

theorem State.returnSlots_bad {size head d : Nat} (hsize : size = s.sringSize p n)
    (hhead : head = s.get (Reg.SRING_HEAD p n)) (hd : d = ringDist value head (2 * size))
    (hbad : 2 * size ≤ value ∨ s.writtenRun p n head size < d) : s.returnSlots p n value = s.badDoorbell p := by
  subst hsize hhead hd
  exact if_neg fun ⟨hlt, hrun⟩ => hbad.elim (fun hpast => absurd hlt (Nat.not_lt.mpr hpast))
    fun hgap => absurd hrun (Nat.not_le.mpr hgap)

/-- A bound host's tail write: its reserved bits are counted, and the rest rings the doorbell (R6, R88). -/
theorem exec_iringTailWrite_bound (ht : Takes s) (hb : Bound s h p) (hn : n < 16) :
    exec (.iringTailWrite h p n value) s = .next (s.keep
      ((if value % 2 ^ 32 / 2 ^ 17 ≠ 0 then s.tallyP .CXP_RSVD_WRITES p else s).ringDoorbell p n (value % 2 ^ 17))) := by
  rw [exec_iringTailWrite, execIringTailWrite, hostCmd_takes ht, ownPage_bound hb, if_neg (Nat.not_le.mpr hn), State.when]
  simp only [decide_eq_true_eq]

/-- A bound host's head write: its reserved bits are counted, and the rest returns slots (R6, R103). -/
theorem exec_sringHeadWrite_bound (ht : Takes s) (hb : Bound s h p) (hn : n < 16) :
    exec (.sringHeadWrite h p n value) s = .next (s.keep
      ((if value % 2 ^ 32 / 2 ^ 17 ≠ 0 then s.tallyP .CXP_RSVD_WRITES p else s).returnSlots p n (value % 2 ^ 17))) := by
  rw [exec_sringHeadWrite, execSringHeadWrite, hostCmd_takes ht, ownPage_bound hb, if_neg (Nat.not_le.mpr hn), State.when]
  simp only [decide_eq_true_eq]

/-- A doorbell within its field writes no reserved bit. -/
theorem doorbell_bits_in_field (hv : value < 2 ^ 17) : ¬ value % 2 ^ 32 / 2 ^ 17 ≠ 0 ∧ value % 2 ^ 17 = value := by
  omega

theorem exec_iringTailWrite_in_field (ht : Takes s) (hb : Bound s h p) (hn : n < 16) (hv : value < 2 ^ 17) :
    exec (.iringTailWrite h p n value) s = .next (s.keep (s.ringDoorbell p n value)) := by
  obtain ⟨hrsvd, hfield⟩ := doorbell_bits_in_field hv
  rw [exec_iringTailWrite_bound ht hb hn, if_neg hrsvd, hfield]

theorem exec_sringHeadWrite_in_field (ht : Takes s) (hb : Bound s h p) (hn : n < 16) (hv : value < 2 ^ 17) :
    exec (.sringHeadWrite h p n value) s = .next (s.keep (s.returnSlots p n value)) := by
  obtain ⟨hrsvd, hfield⟩ := doorbell_bits_in_field hv
  rw [exec_sringHeadWrite_bound ht hb hn, if_neg hrsvd, hfield]

end Doorbells

/-- Settles O49: a doorbell's test is on the two distances from HEAD, which are the only numbers below 2N that lead there;
an accepted write of what TAIL reads leaves canonical registers as they are. -/
theorem doorbellTest : Obligations.DoorbellTest := by
  refine ⟨fun h p n value v size hd tl u s ht hb hn hv hu hsize hhd htl => ?_,
    fun h p n value v size hd d u s ht hb hn hv hu hsize hpos hhd hd2 hdist => ?_⟩
  · subst hsize hhd htl
    have hexec : exec (.iringTailWrite h p n value) s = .next (s.keep (u.ringDoorbell p n v)) := by
      rw [exec_iringTailWrite_bound ht hb hn, ← hu, ← hv]
    rw [hexec]
    refine ⟨fun hpast => ?_, fun dOld dNew hlt hold htail hnew hvalue => ?_⟩
    · rw [State.ringDoorbell_bad (doorbellOk_past hpast _ _), State.badDoorbell]
    · have htest := doorbellOk_iff hold htail hnew (hvalue.trans (Nat.mod_eq_of_lt hlt).symm)
      refine ⟨fun hok => ?_, fun hok hsame hcanon hlisted => ?_, fun hbad => ?_⟩
      · rw [State.ringDoorbell_ok (htest.mpr ⟨hlt, hok⟩)]
      · have hfield : u.get (Reg.IRING_TAIL p n) < 2 ^ (Reg.IRING_TAIL p n).w := by
          rw [← hsame, hv]
          exact Nat.mod_lt _ (Nat.two_pow_pos _)
        rw [State.ringDoorbell_ok (htest.mpr ⟨hlt, hok⟩), hsame, State.set_get_self hcanon hlisted hfield]
      · rw [State.ringDoorbell_bad (Bool.eq_false_iff.mpr fun htrue => hbad (htest.mp htrue).2), State.badDoorbell]
  · have hexec : exec (.sringHeadWrite h p n value) s = .next (s.keep (u.returnSlots p n v)) := by
      rw [exec_sringHeadWrite_bound ht hb hn, ← hu, ← hv]
    have hd3 : d = ringDist v hd (2 * size) := (ringDist_eq hd2 hdist).symm
    rw [hexec]
    refine ⟨fun hlt hrun => ?_, fun hbad => ?_⟩
    · rw [State.returnSlots_ok hsize hhd hd3 hlt hrun]
    · rw [State.returnSlots_bad hsize hhd hd3 hbad, State.badDoorbell]

/-! ### Fetches and units that complete at once (R87, R471) -/

section Fetches

variable {s u : State} {p n : Nat}

/-- The fetch of units that TAIL covers makes them the ring's head, moves HEAD on and looks at the CRC (R87). -/
theorem exec_descriptorFetch_covered {data : List Byte} (hr : Runs s) (hlo : 1 ≤ p) (hhi : p ≤ 64)
    (hon : s.iringOn p n = true) (hfree : s.head? p n = none) (hlen : data.length = 64 * fetchUnits data)
    (hcov : fetchUnits data ≤
      ringDist (s.get (Reg.IRING_TAIL p n)) (s.get (Reg.IRING_HEAD p n)) (2 * s.iringSize p n))
    (hreset : (s.ctx (s.iringOwner p n)).resetStep = none)
    (hu : u = (s.modHost fun k => { k with
      heads := tput k.heads (16 * p + n) { data := data, units := fetchUnits data } }).set (Reg.IRING_HEAD p n)
        ((s.get (Reg.IRING_HEAD p n) + fetchUnits data) % (2 * s.iringSize p n))) :
    exec (.descriptorFetch p n data) s = .next (s.keep
      (if !badLength data && !crcOk data 12 then (u.setB (Reg.INT_STATUS_CRC_EVT p) true).event p 6 else u)) := by
  have hreads : (s.iringOn p n && (s.head? p n).isNone && decide (1 ≤ p ∧ p ≤ 64 ∧ data.length = 64 * fetchUnits data ∧
      fetchUnits data ≤ ringDist (s.get (Reg.IRING_TAIL p n)) (s.get (Reg.IRING_HEAD p n)) (2 * s.iringSize p n)) &&
      (s.ctx (s.iringOwner p n)).resetStep.isNone) = true := by
    rw [hon, hfree, hreset, decide_eq_true ⟨hlo, hhi, hlen, hcov⟩]
    rfl
  rw [exec_descriptorFetch, execDescriptorFetch, nodeEvt_runs hr]
  simp only [if_pos hreads, ← hu]

/-- A pick that f accepts and that a check completes at once is taken and completed (R471). -/
theorem serve_completed {h : Head} {v : Nat} {f : List Byte → Bool} (hpick : s.pick = some (p, n))
    (hhead : s.head? p n = some h) (hf : f h.data = true) (hv : s.headVerdict p n h.data = some v)
    (run : State → Taken → Delivery → State) :
    s.serve f run = (s.takeHead p n h).1.completeTaken (s.takeHead p n h).2 v := by
  simp [State.serve, hpick, hhead, hf, hv]

end Fetches

/-- Settles O6: a doorbell whose value fits its field is its body at the branch its test chooses; a fetch splits on the
length and the CRC; a malformed or unknown unit is served with the verdict of its checks. -/
theorem descriptorRingsRun : Obligations.DescriptorRingsRun := by
  refine ⟨fun h p n value s ht hb hn hv => ⟨fun hok => ?_, fun hbad => ?_⟩,
    fun h p n value d s ht hb hn hv hlt hd hrun => ?_,
    fun p n data u s hr hlo hhi hon hfree hlen hcov hreset hu => ?_,
    fun p n v h s hr hpick hhead hv hbad => ?_⟩
  · rw [exec_iringTailWrite_in_field ht hb hn hv, State.ringDoorbell_ok hok, State.keep_set]
  · rw [exec_iringTailWrite_in_field ht hb hn hv, State.ringDoorbell_bad hbad]
  · rw [exec_sringHeadWrite_in_field ht hb hn hv, State.returnSlots_ok rfl rfl hd hlt hrun]
    rfl
  · rw [exec_descriptorFetch_covered hr hlo hhi hon hfree hlen hcov hreset hu]
    have hkept : s.keep u = u := by rw [hu]; rfl
    refine ⟨fun hgood => ?_, fun hlength hcrc => ?_⟩
    · have hsound : ¬ (!badLength data && !crcOk data 12) = true := by
        rcases hgood with hgood | hgood <;> simp [hgood]
      rw [if_neg hsound, hkept]
    · rw [hlength, hcrc]
      rfl
  · have hreserved : (badLength h.data || !knownOpcode (opcodeOf h.data)) = true := by simpa using hbad
    rw [exec_malformedUnit, execMalformedUnit, nodeEvt_runs hr, serve_completed hpick hhead hreserved hv]

end Sys2Proof.Machine
end

/-! SUPPORT. Structures closed with their CRC-32C (R5, R86, R101). -/

section
namespace Sys2Proof

section Splice

variable {b d : List Byte} {o : Nat}

@[simp] theorem natLe_length (n v : Nat) : (natLe n v).length = n := by
  induction n generalizing v with
  | zero => rfl
  | succ n ih => rw [natLe, List.length_cons, ih]

/-- Where n little-endian bytes of a number stand, their number is the number modulo 256^n (R5). -/
theorem leNat_of_drop {n v : Nat} {r : List Byte} (h : b.drop o = natLe n v ++ r) : leNat b o n = v % 256 ^ n := by
  induction n generalizing o v with
  | zero => rw [leNat, Nat.pow_zero, Nat.mod_one]
  | succ n ih =>
    have hrest : b.drop (o + 1) = natLe n (v / 256) ++ r := by
      rw [← List.tail_drop, h]
      rfl
    have hbyte : ((b.drop o).headD 0).toNat = v % 256 := by
      rw [h]
      exact BitVec.toNat_ofNat v 8
    rw [leNat, ih hrest, hbyte, Nat.pow_succ', Nat.mod_mul]

theorem spliceAt_length (h : o + d.length ≤ b.length) : (spliceAt b o d).length = b.length := by
  simp only [spliceAt, List.length_append, List.length_take, List.length_drop]
  omega

theorem drop_spliceAt (h : o ≤ b.length) : (spliceAt b o d).drop o = d ++ b.drop (o + d.length) := by
  rw [spliceAt, List.append_assoc]
  exact List.drop_left' (List.length_take_of_le h)

theorem take_spliceAt (h : o ≤ b.length) : (spliceAt b o d).take o = b.take o := by
  rw [spliceAt, List.append_assoc]
  exact List.take_left' (List.length_take_of_le h)

/-- Behind the bytes written, the string is as before. -/
theorem drop_spliceAt_end (h : o ≤ b.length) : (spliceAt b o d).drop (o + d.length) = b.drop (o + d.length) := by
  rw [← List.drop_drop, drop_spliceAt h, List.drop_left]

theorem getElem?_spliceAt_outside (h : o ≤ b.length) {i : Nat} (hi : i < o ∨ o + d.length ≤ i) :
    (spliceAt b o d)[i]? = b[i]? := by
  rcases hi with hlow | hhigh
  · rw [← List.getElem?_take_of_lt hlow, take_spliceAt h, List.getElem?_take_of_lt hlow]
  · obtain ⟨j, rfl⟩ := Nat.exists_eq_add_of_le hhigh
    rw [← List.getElem?_drop, drop_spliceAt_end h, List.getElem?_drop]

/-- The bytes written at a field are gone once the field is zeroed. -/
theorem zeroAt_spliceAt {n : Nat} (hd : d.length = n) (h : o + n ≤ b.length) :
    zeroAt (spliceAt b o d) o n = zeroAt b o n := by
  subst hd
  have ho : o ≤ b.length := (Nat.le_add_right ..).trans h
  rw [zeroAt, take_spliceAt ho, spliceAt_length h, drop_spliceAt_end ho, zeroAt]

/-- A number of n bytes reads back where it was written. -/
theorem leNat_spliceAt {n v : Nat} (h : o ≤ b.length) (hv : v < 256 ^ n) : leNat (spliceAt b o (natLe n v)) o n = v := by
  rw [leNat_of_drop (drop_spliceAt h), Nat.mod_eq_of_lt hv]

end Splice

theorem crcWithout_lt (b : List Byte) (o : Nat) : crcWithout b o < 256 ^ 4 := (crc32c (zeroAt b o 4)).isLt

/-- The CRC of a structure does not depend on what its CRC field holds (R86). -/
theorem crcWithout_sealCrc {b : List Byte} {o : Nat} (h : o + 4 ≤ b.length) :
    crcWithout (sealCrc b o) o = crcWithout b o := by
  rw [crcWithout, sealCrc, zeroAt_spliceAt (natLe_length ..) h, ← crcWithout]

theorem crcOk_sealCrc {b : List Byte} {o : Nat} (h : o + 4 ≤ b.length) : crcOk (sealCrc b o) o = true := by
  rw [crcOk, decide_eq_true_eq, crcWithout_sealCrc h, sealCrc,
    leNat_spliceAt ((Nat.le_add_right ..).trans h) (crcWithout_lt b o)]

end Sys2Proof

namespace Sys2Proof.Machine

open Sys2Proof

/-- Settles O57: the check takes the CRC field as zero, so that filling it in leaves the CRC as it was, and the field reads
back what was filled in. The CRC's initial value and final inversion are the model's (assumption 4). -/
theorem sealedStructuresPass : Obligations.SealedStructuresPass := by
  intro b o h
  have hfield : o + (natLe 4 (crcWithout b o)).length ≤ b.length := by rwa [natLe_length]
  refine ⟨crcOk_sealCrc h, spliceAt_length hfield, fun i hi => ?_⟩
  exact getElem?_spliceAt_outside ((Nat.le_add_right ..).trans h) (by rwa [natLe_length])

end Sys2Proof.Machine
end

/-! SUPPORT. A query's work on a node: routing, threshing, winnowing and gleaning (R94, R99, R115, R128, R156, R157, R164). -/

section
namespace Sys2Proof.Machine

open Sys2Proof

/-! ### Checks that find nothing -/

section Checks

variable {s : State}

/-- A condition that does not hold changes nothing, however it is decided. -/
theorem State.when_unmet {c : Prop} {_ : Decidable c} (hc : ¬ c) (f : State → State) : s.when (decide c) f = s := by
  rw [decide_eq_false hc, State.when_false]

/-- A residue check that finds nothing leaves the node as it is (R388). -/
@[simp] theorem State.residueFault_none (cls : UnitClass) (id : OpId) : s.residueFault cls id none = s := rfl

/-- Two selection datapaths that agree leave the node as it is (R131). -/
@[simp] theorem State.compareFail_none (id : OpId) (p : Nat) : s.compareFail id p none = s := rfl

/-- A node-wide tally is in the registers alone (R399). -/
@[simp] theorem State.tallyN_srch (t : NTally) (n : Nat) : (s.tallyN t n).srch = s.srch := by
  rw [State.tallyN, State.count, State.tallyEvent, if_pos rfl]
  split <;> rfl

@[simp] theorem State.keep_modPass (id : OpId) (shard list : Nat) (f : ListPass → ListPass) :
    s.keep (s.modPass id shard list f) = s.modPass id shard list f := rfl

end Checks

section Passes

variable {s u : State} {id : OpId} {shard : Nat} {w : QWork} {sh : Shard}

/-! ### Distribution and routing (R72, R94, R128) -/

theorem exec_queryDist_runs (hr : Runs s) (q : Query) (src : Nat) :
    exec (.queryDist q src) s =
      .next (s.keep ((s.flood q.part 1 (s.distBytes q) (some src) (.queryDist q s.me)).beginQuery q)) := by
  rw [exec_queryDist, execQueryDist, nodeEvt_runs hr]

/-- A shard not yet routed, whose merge is reserved, is routed by the sound units of the node (R72, R128). -/
theorem exec_routingComplete_routes {x : ShardWork} {r : List Nat × Bool × Nat} (hr : Runs s)
    (hwork : s.work? id = some w) (hx : w.shards.find? (fun x => decide (x.shard = shard)) = some x)
    (hsh : s.shard? w.q.handle shard = some sh) (hnew : x.routed = false) (hres : w.mergeRes ≠ none)
    (hunits : s.get Reg.SAFE_UNITS_ROUTE_ISO ≠ 2 ^ 16 - 1)
    (hroute : r = sh.route (s.cfgAt w.q.id.step w.q.handle) w.q.id.step w.q.rform w.q.probes)
    (hu : u = (((s.tallyP .COLL_ROUTE_MAXEXP w.q.part (b2n r.2.1)).tallyP .COLL_TOMB_DEPTH w.q.part r.2.2).modShardWork
      id shard (fun y => { y with routed := true, passes := r.1.map (fun i =>
        { list := i, stook := none, full := false, last := none, want := true, fallback := false, far := none }) })).grantPools) :
    exec (.routingComplete id shard none) s = .next (s.keep ((u.winnow id shard).tryNodeSheaf id shard)) := by
  have hstarts : ¬ (x.routed || w.mergeRes.isNone) = true := by simp [hnew, hres]
  have hworks : ¬ s.get Reg.SAFE_UNITS_ROUTE_ISO = 2 ^ 16 - 1 := hunits
  rw [exec_routingComplete, execRoutingComplete, nodeEvt_runs hr, State.residueFault_none]
  simp only [hwork, Option.bind_some, hx, hsh, if_neg hstarts, State.when_unmet hworks, ← hroute, ← hu]

/-! ### Threshing (R156, R157, R164) -/

section OnePass

variable {list : Nat} {p : ListPass}

/-- A wanted pass over a list that a unit here can thresh makes its stook (R156). -/
theorem exec_nbuThresh_sound {l : LList} (hr : Runs s) (hpass : s.pass? id shard list = some (w, sh, p))
    (hwant : p.want = true) (hres : w.stookRes ≠ none) (hlist : sh.at list w.q.id.step = some l)
    (hunit : s.noUnit l (s.cfgOf w.q.handle).w w.q.id.step false = false)
    (hbits : s.srch.lostBits.contains (w.q.handle, shard, list, w.q.fslot) = false)
    (hu : u = s.tallyN .NBU_FALLBACK_SEGMENTS (s.fallbackSegs l (s.cfgOf w.q.handle).w w.q.id.step)) :
    exec (.nbuThresh id shard list .none) s = .next (s.keep (u.modPass id shard list (fun p =>
      { p with stook := some (u.passStook w.q sh list p.last), want := false }))) := by
  have hasked : ¬ (!p.want || w.stookRes.isNone) = true := by simp [hwant, hres]
  have hkept : ¬ u.srch.lostBits.contains (w.q.handle, shard, list, w.q.fslot) = true := by
    rw [hu, State.tallyN_srch, hbits]
    decide
  have hsound : decide (ThreshFault.none ≠ .none) = false := rfl
  rw [exec_nbuThresh, execNbuThresh, nodeEvt_runs hr]
  simp only [hpass, if_neg hasked, hlist, hsound, hunit, Bool.false_eq_true, if_false, ← hu, if_neg hkept]

/-- A stook is delivered once its fallback pass, if it needed one, is done (R115, R164). -/
theorem exec_chainStookDelivery_delivers {st : List StookEntry} (hr : Runs s)
    (hpass : s.pass? id shard list = some (w, sh, p)) (hst : p.stook = some st) (hdone : p.fallback = false)
    (hu : u = (s.modShardWork id shard (fun x => { x with pool := x.pool ++ st })).modPass id shard list (fun p => { p with
      stook := none, full := decide (st.length = stookLen w.q),
      last := match st.getLast? with | some e => some (e.dist, e.pos) | none => p.last })) :
    exec (.chainStookDelivery id shard list none) s = .next (s.keep ((u.winnow id shard).tryNodeSheaf id shard)) := by
  rw [exec_chainStookDelivery, execChainStookDelivery, nodeEvt_runs hr]
  simp only [hpass, hst, hdone, Bool.false_eq_true, if_false, State.compareFail_none]
  subst hu
  rfl

/-- The answer to STOOK_REQ is the pass made here, or its failure (R157). -/
theorem exec_stookReq_answered {q : Query} {floor : Option (Nat × Nat)} {st : List StookEntry} (hr : Runs s)
    (hsh : s.shard? q.handle shard = some sh) (hst : st = s.passStook q sh list floor) (src : Nat) (failed : Bool) :
    exec (.stookReq id shard list floor src q failed) s = .next (s.keep (s.sendMsg q.part 2 0 src (24 + 16 * st.length)
      (.stook id shard list (if failed then none else some (st.map (fun e => (e.dist, e.slot, e.pos))))))) := by
  rw [exec_stookReq, execStookReq, nodeEvt_runs hr]
  simp only [hsh, ← hst]

/-- An awaited STOOK takes the place of the pass that failed here (R157). -/
theorem exec_stook_awaited (hr : Runs s) (hpass : s.pass? id shard list = some (w, sh, p)) (hfar : p.far ≠ none)
    (es : List (Nat × Nat × Nat)) :
    exec (.stook id shard list (some es)) s = .next (s.modPass id shard list (fun p => { p with
      far := none, stook := some (es.map (fun e => { dist := e.1, slot := e.2.1, list := list, pos := e.2.2 })) })) := by
  have hawaited : ¬ p.far.isNone = true := by simp [hfar]
  rw [exec_stook, execStook, nodeEvt_runs hr]
  simp only [hpass, if_neg hawaited, State.keep_modPass]

/-- A sound fallback pass stands, and the NBU is isolated (R164). -/
theorem exec_fallbackPassDone_sound (hr : Runs s) (hpass : s.pass? id shard list = some (w, sh, p))
    (hruns : p.fallback = true) (hu : u = s.modPass id shard list (fun p => { p with fallback := false })) (bank : Nat) :
    exec (.fallbackPassDone id shard list bank true) s = .next (s.keep (u.showFallback.react 8 .nbu bank 0 0 list)) := by
  rw [exec_fallbackPassDone, execFallbackPassDone, nodeEvt_runs hr]
  simp only [hpass, hruns, Bool.not_true, Bool.false_eq_true, if_false, if_true, State.when_false, ← hu]

end OnePass

/-! ### Gleaning (R99) -/

/-- A candidate's record read from flash, not yet gleaned, is scored, counted, cached and kept (R99). -/
theorem exec_gleanRecordArrival_flash {slot : Nat} {x : ShardWork} {cs : List StookEntry} {e : StookEntry} {r : Rerank}
    {v : State} (hr : Runs s) (hwork : s.work? id = some w)
    (hx : w.shards.find? (fun x => decide (x.shard = shard)) = some x) (hcands : x.cands = some cs)
    (he : cs.find? (fun e => decide (e.slot = slot)) = some e) (hsh : s.shard? w.q.handle shard = some sh)
    (hrec : tfind sh.store slot = some r) (hnew : x.gleaned.any (fun g => decide (g.1 = e)) = false)
    (hunits : s.get Reg.SAFE_UNITS_GLN_ISO ≠ 2 ^ 32 - 1)
    (hv : v = s.modSrch fun k => { k with
      fetched := k.fetched.filter (fun f => decide ((f.1, f.2.1, f.2.2.1) ≠ (w.q.handle, shard, slot))) })
    (hu : u = v.tallyP .GLN_FLASH_READS w.q.part) :
    exec (.gleanRecordArrival id shard slot .flash none) s = .next (s.keep
      (((u.touchCache w.q.handle shard slot).modShardWork id shard
        (fun y => { y with gleaned := y.gleaned ++ [(e, r.record, u.scoreOf w.q r)] })).tryNodeSheaf id shard)) := by
  have hworks : ¬ v.get Reg.SAFE_UNITS_GLN_ISO = 2 ^ 32 - 1 := by rwa [hv, State.modSrch_get]
  have hfound : decide (GleanSrc.flash ≠ .lost) = true := rfl
  rw [exec_gleanRecordArrival, execGleanRecordArrival, nodeEvt_runs hr]
  simp only [hwork, Option.bind_some, hx, hcands, he, hsh, hnew, Bool.or_self, Bool.false_eq_true, if_false, ← hv,
    State.residueFault_none, State.when_unmet hworks, ← hu, reduceCtorEq, hrec, hfound, State.when_true]

end Passes

/-- Settles O9: each event is its body on the running node, at the branch its conditions choose; with no fault named, no
residue check and no comparison of datapaths acts. -/
theorem queryPassesRun : Obligations.QueryPassesRun := by
  refine ⟨fun q src s hr => exec_queryDist_runs hr q src,
    fun id shard w x sh r u s hr hwork hx hsh hnew hres hunits hroute hu =>
      exec_routingComplete_routes hr hwork hx hsh hnew hres hunits hroute hu,
    fun id shard list w sh p l s hr hpass hwant hres hlist hunit hbits =>
      exec_nbuThresh_sound hr hpass hwant hres hlist hunit hbits rfl,
    fun id shard list w sh p st u s hr hpass hst hdone hu => exec_chainStookDelivery_delivers hr hpass hst hdone hu,
    fun id shard list src floor q failed sh st s hr hsh hst => exec_stookReq_answered hr hsh hst src failed,
    fun id shard list w sh p es s hr hpass hfar => exec_stook_awaited hr hpass hfar es,
    fun id shard list bank w sh p u s hr hpass hruns hu => exec_fallbackPassDone_sound hr hpass hruns hu bank,
    fun id shard slot w x sh cs e r v u s hr hwork hx hcands he hsh hrec hnew hunits hv hu =>
      exec_gleanRecordArrival_flash hr hwork hx hcands he hsh hrec hnew hunits hv hu⟩

end Sys2Proof.Machine
end

/-! SUPPORT. Messages of a running query and of reads between holders (R99, R100, R119, R122, R182, R209, R361, R473). -/

section
namespace Sys2Proof.Machine

open Sys2Proof

section QueryMessages

variable {s : State} {id : OpId}

/-! ### Held operations (R473) -/

theorem exec_announce_runs (hr : Runs s) (opcode src : Nat) :
    exec (.announce id opcode src) s = .next (s.keep
      (((s.holdOp id opcode).flood 0 1 24 (some src) (.announce id opcode s.me)).awaitCopies src s.ovl.nextMsg)) := by
  rw [exec_announce, execAnnounce, nodeEvt_runs hr]

theorem exec_release_runs (hr : Runs s) (opcode src : Nat) :
    exec (.release id opcode src) s = .next (s.keep
      ((s.flood 0 1 24 (some src) (.release id opcode s.me)).modStp fun k => { k with
        ops := lmod (·.is id) (fun o => { o with released := true }) k.ops }).finishOps) := by
  rw [exec_release, execRelease, nodeEvt_runs hr]

/-! ### The merge tree and the final sheaf (R100, R119, R122) -/

/-- A sound sheaf of an awaited child becomes an input of the merge (R119). -/
theorem exec_transit_awaited {src : Nat} {sh : Sheaf} {w : QWork} (hr : Runs s) (hwork : s.work? id = some w)
    (hfirst : sh.rerun = none) (hawait : w.await.contains src = true) :
    exec (.transit id src sh true none) s = .next (s.keep ((s.modWork id (fun y => { y with
      await := y.await.erase src, inputs := y.inputs ++ [(src, sh)] })).tryEmit id)) := by
  rw [exec_transit, execTransit, nodeEvt_runs hr]
  simp only [hwork, Bool.not_true, State.when_false, State.compareFail_none, hfirst, if_pos hawait]

/-- The notice of an operation admitted here, whose host can still be written to, is counted and its slot is done
(R100). -/
theorem State.noticed_writable {a : Admitted} (hadm : s.adm? id = some a) (status : Nat)
    (hhost : ((s.queryTally a.dlv.part status).dropAdm a).writable a.dlv.pid = true) :
    s.noticed id status =
      ((s.queryTally a.dlv.part status).dropAdm a).slotDone a.dlv.part a.dlv.ring a.dlv.idx := by
  rw [State.noticed]
  simp only [hadm, if_pos hhost]

theorem exec_notice_runs (hr : Runs s) (status src : Nat) :
    exec (.notice id status src) s = .next (s.keep (s.noticed id status)) := by
  rw [exec_notice, execNotice, nodeEvt_runs hr]

theorem exec_confirm_runs (hr : Runs s) (status src : Nat) :
    exec (.confirm id status src) s = .next (s.keep (s.dropWork id)) := by
  rw [exec_confirm, execConfirm, nodeEvt_runs hr]

/-- At the admitting node itself, a confirmed sheaf write is noticed and confirmed to every other member (R100). -/
theorem exec_sheafFlushReadDone_admitter {f : Nat × Nat × Nat × Nat} {u : State} (hr : Runs s) (hme : id.admitter = s.me)
    (hf : s.host.flushReads.find? (fun f => decide (f.1 = id.step ∧ f.2.1 = id.seq ∧ f.2.2.1 = id.admitter)) = some f)
    (hu : u = (s.modHost fun k => { k with flushReads := k.flushReads.erase f }).noticed id f.2.2.2) :
    exec (.sheafFlushReadDone id) s = .next (s.keep
      ((u.sendEach 0 1 0 24 (.confirm id f.2.2.2 u.me) u.otherMembers).dropWork id)) := by
  have hself : id.admitter = (s.modHost fun k => { k with flushReads := k.flushReads.erase f }).me := hme
  rw [exec_sheafFlushReadDone, execSheafFlushReadDone, nodeEvt_runs hr]
  simp only [hf, if_pos hself, ← hu]

/-! ### Reads between holders (R99, R182, R209) -/

section Holders

variable {coll shard : Nat}

theorem exec_bulkRecordRead_answered {slot : Nat} {ok : Bool} (hr : Runs s)
    (hok : ok = (match s.shard? coll shard with | some sh => (tfind sh.store slot).isSome | none => false)) (src : Nat) :
    exec (.bulkRecordRead coll shard slot src) s = .next (s.keep (s.sendMsg 0 9 0 src
      (if ok then 16 + s.recordBytes coll else 16) (.bulkRecordReply coll shard slot ok))) := by
  subst hok
  rw [exec_bulkRecordRead, execBulkRecordRead]
  exact nodeEvt_runs hr _

/-- A failure that is not yet known is kept (R99). -/
theorem exec_bulkRecordReply_failed {slot : Nat} (hr : Runs s)
    (hnew : s.srch.fetched.contains (coll, shard, slot, false) = false) :
    exec (.bulkRecordReply coll shard slot false) s =
      .next (s.modSrch fun k => { k with fetched := k.fetched ++ [(coll, shard, slot, false)] }) := by
  rw [exec_bulkRecordReply, execBulkRecordReply, nodeEvt_runs hr]
  simp only [State.modSrch, hnew, Bool.false_eq_true, if_false]
  rfl

/-- A page of a shard held here is written again, or known to be unreadable (R209). -/
theorem exec_indexPage_held (hr : Runs s) (hshard : (s.shard? coll shard).isSome = true) (lpage : Nat) (ok : Bool) :
    exec (.indexPage coll shard lpage ok) s =
      .next (s.keep (if ok then (s.idxRead lpage true).rewritePage lpage else s.idxRead lpage false)) := by
  have hheld : ¬ (s.shard? coll shard).isNone = true := by
    rw [Option.isNone_eq_false_iff.mpr hshard]
    decide
  rw [exec_indexPage, execIndexPage, nodeEvt_runs hr, if_neg hheld]

/-- Bits that cannot be copied, and are not yet known to be lost, are marked lost (R182). -/
theorem exec_filterBits_lost {list fslot : Nat} (hr : Runs s) (hshard : (s.shard? coll shard).isSome = true)
    (hnew : s.srch.lostBits.contains (coll, shard, list, fslot) = false) :
    exec (.filterBits coll shard list fslot false) s =
      .next (s.modSrch fun k => { k with lostBits := k.lostBits ++ [(coll, shard, list, fslot)] }) := by
  have hlost : ¬ (false || (s.shard? coll shard).isNone || s.srch.lostBits.contains (coll, shard, list, fslot)) = true := by
    rw [hnew, Option.isNone_eq_false_iff.mpr hshard]
    decide
  rw [exec_filterBits, execFilterBits, nodeEvt_runs hr]
  simp only [if_neg hlost, State.keep_modSrch]

/-- Weights of a loaded model are written again, or the model fails (R209). -/
theorem exec_weights_loaded {model : Nat} (hr : Runs s) (hmodel : model < 256)
    (hstate : s.get (Reg.ENC_MODEL_STATE model) ≠ 0) (lpage : Nat) (ok : Bool) :
    exec (.weights model lpage ok) s = .next (s.keep (if ok then s.rewritePage lpage else s.failModel model)) := by
  have hloaded : ¬ (256 ≤ model ∨ s.get (Reg.ENC_MODEL_STATE model) = 0) :=
    fun hskip => hskip.elim (Nat.not_le.mpr hmodel) hstate
  rw [exec_weights, execWeights, nodeEvt_runs hr, if_neg hloaded]

end Holders

end QueryMessages

/-- Settles O10: each message is its body on the running node, at the branch its conditions choose. A page, weights and
filter bits whose message says only whether they came are the model's reading (assumption 84). -/
theorem queryMessagesRun : Obligations.QueryMessagesRun := by
  refine ⟨fun id opcode src s hr => exec_announce_runs hr opcode src,
    fun id opcode src s hr => exec_release_runs hr opcode src,
    fun id src sh w s hr hwork hfirst hawait => exec_transit_awaited hr hwork hfirst hawait,
    fun id status src a s hr hadm _ hhost => ?_,
    fun id status src s hr => exec_confirm_runs hr status src,
    fun id f u s hr hme hf hu => exec_sheafFlushReadDone_admitter hr hme hf hu,
    fun coll shard slot src ok s hr hok => exec_bulkRecordRead_answered hr hok src,
    fun coll shard slot s hr hnew => exec_bulkRecordReply_failed hr hnew,
    fun coll shard lpage s hr hshard =>
      ⟨exec_indexPage_held hr hshard lpage true, exec_indexPage_held hr hshard lpage false⟩,
    fun coll shard list fslot s hr hshard hnew => exec_filterBits_lost hr hshard hnew,
    fun model lpage s hr hmodel hstate =>
      ⟨exec_weights_loaded hr hmodel hstate lpage true, exec_weights_loaded hr hmodel hstate lpage false⟩⟩
  rw [exec_notice_runs hr, State.noticed_writable hadm status hhost]

end Sys2Proof.Machine
end

/-! SUPPORT. Scores compared as integers (R110, R111). -/

section
namespace Sys2Proof

/-! ### The value of a binary32 pattern -/

theorem fp32_mag_eq (v : Nat) : fp32.mag v =
    if v / 2 ^ 23 % 256 = 0 then v % 2 ^ 23 else (v % 2 ^ 23 + 2 ^ 23) * 2 ^ (v / 2 ^ 23 % 256 - 1) :=
  Nat.mul_one _

theorem fp32_mag_subnormal {v : Nat} (he : v / 2 ^ 23 % 256 = 0) : fp32.mag v = v % 2 ^ 23 := by
  rw [fp32_mag_eq, if_pos he]

theorem fp32_mag_normal {v e : Nat} (he : v / 2 ^ 23 % 256 = e + 1) : fp32.mag v = (v % 2 ^ 23 + 2 ^ 23) * 2 ^ e := by
  rw [fp32_mag_eq, he, if_neg e.succ_ne_zero, Nat.add_sub_cancel]

theorem fp32_read_eq (v : Nat) : fp32.read v =
    if v / 2 ^ 23 % 256 = 255 then none else some (if v.testBit 31 then -(fp32.mag v : Int) else fp32.mag v) := by
  rw [fp32_mag_eq]
  rfl

/-- A finite pattern's value is its magnitude, with the sign that bit 31 gives. -/
theorem fp32_read_some {v : Nat} {n : Int} (hv : v < 2 ^ 32) (h : fp32.read v = some n) :
    n = if v < 2 ^ 31 then (fp32.mag v : Int) else -(fp32.mag v : Int) := by
  have hsign : v.testBit 31 = true ↔ ¬ v < 2 ^ 31 := by
    rw [Nat.testBit_eq_decide_div_mod_eq, decide_eq_true_iff]
    omega
  rw [fp32_read_eq, Option.ite_none_left_eq_some] at h
  obtain ⟨-, h⟩ := h
  rw [← Option.some.inj h, if_congr hsign rfl rfl, ite_not]

/-- A pattern's magnitude lies below the least one of the next exponent. -/
theorem fp32_mag_lt (v : Nat) : fp32.mag v < 2 ^ 23 * 2 ^ (v / 2 ^ 23 % 256) := by
  have hfrac : v % 2 ^ 23 < 2 ^ 23 := Nat.mod_lt _ (by decide)
  cases he : v / 2 ^ 23 % 256 with
  | zero => simpa [fp32_mag_subnormal he] using hfrac
  | succ e =>
    calc fp32.mag v = (v % 2 ^ 23 + 2 ^ 23) * 2 ^ e := fp32_mag_normal he
      _ < 2 ^ 23 * 2 * 2 ^ e := Nat.mul_lt_mul_of_pos_right (by omega) (Nat.two_pow_pos e)
      _ = 2 ^ 23 * 2 ^ (e + 1) := by rw [Nat.mul_assoc, ← Nat.pow_succ']

/-- A normal pattern's magnitude is at least the least one of its exponent. -/
theorem fp32_mag_ge {v e : Nat} (he : v / 2 ^ 23 % 256 = e + 1) : 2 ^ 23 * 2 ^ e ≤ fp32.mag v := by
  rw [fp32_mag_normal he]
  exact Nat.mul_le_mul_right _ (Nat.le_add_left _ _)

/-- Patterns of one exponent have the order of their fractions. -/
theorem fp32_mag_lt_of_frac {v w : Nat} (he : v / 2 ^ 23 % 256 = w / 2 ^ 23 % 256) (hm : v % 2 ^ 23 < w % 2 ^ 23) :
    fp32.mag v < fp32.mag w := by
  cases hw : w / 2 ^ 23 % 256 with
  | zero => rwa [fp32_mag_subnormal (he.trans hw), fp32_mag_subnormal hw]
  | succ e =>
    rw [fp32_mag_normal (he.trans hw), fp32_mag_normal hw]
    exact Nat.mul_lt_mul_of_pos_right (Nat.add_lt_add_right hm _) (Nat.two_pow_pos e)

/-- The magnitudes of patterns have the order of the patterns without their signs. -/
theorem fp32_mag_lt_mag {v w : Nat} (h : v % 2 ^ 31 < w % 2 ^ 31) : fp32.mag v < fp32.mag w := by
  rcases Nat.lt_trichotomy (v / 2 ^ 23 % 256) (w / 2 ^ 23 % 256) with he | he | he
  · obtain ⟨e, hw⟩ : ∃ e, w / 2 ^ 23 % 256 = e + 1 := Nat.exists_eq_add_one_of_ne_zero (by omega)
    calc fp32.mag v < 2 ^ 23 * 2 ^ (v / 2 ^ 23 % 256) := fp32_mag_lt v
      _ ≤ 2 ^ 23 * 2 ^ e := Nat.mul_le_mul_left _ (Nat.pow_le_pow_right (by decide) (by omega))
      _ ≤ fp32.mag w := fp32_mag_ge hw
  · exact fp32_mag_lt_of_frac he (by omega)
  · omega

/-! ### The integer transform -/

theorem key32_inj {a b : Nat} (ha : a < 2 ^ 32) (hb : b < 2 ^ 32) (h : key32 a = key32 b) : a = b := by
  simp only [key32] at h
  split at h <;> split at h <;> omega

/-- A smaller transform is a smaller value: among positive patterns a smaller magnitude, among negative ones a greater, and
a negative pattern, which is not a zero, lies below every positive one. -/
theorem value_lt_of_key32_lt {a b : Nat} {m n : Int} (ha : a < 2 ^ 32) (hb : b < 2 ^ 32) (hza : a ≠ 2 ^ 31)
    (hm : fp32.read a = some m) (hn : fp32.read b = some n) (h : key32 a < key32 b) : m < n := by
  have hm := fp32_read_some ha hm
  have hn := fp32_read_some hb hn
  by_cases hsa : a < 2 ^ 31 <;> by_cases hsb : b < 2 ^ 31 <;>
    simp only [key32, hsa, hsb, if_true, if_false] at h hm hn
  · have hmag : fp32.mag a < fp32.mag b := fp32_mag_lt_mag (by omega)
    omega
  · omega
  · have hmag : fp32.mag 0 < fp32.mag a := fp32_mag_lt_mag (by omega)
    omega
  · have hmag : fp32.mag b < fp32.mag a := fp32_mag_lt_mag (by omega)
    omega

/-- The transform and the value stand in the same order, since each of the transform's three cases gives the value's. -/
theorem key32_order {a b : Nat} {m n : Int} (ha : a < 2 ^ 32) (hb : b < 2 ^ 32) (hza : a ≠ 2 ^ 31) (hzb : b ≠ 2 ^ 31)
    (hm : fp32.read a = some m) (hn : fp32.read b = some n) :
    (key32 a < key32 b ↔ m < n) ∧ (key32 a = key32 b ↔ m = n) := by
  rcases Nat.lt_trichotomy (key32 a) (key32 b) with h | h | h
  · have hlt := value_lt_of_key32_lt ha hb hza hm hn h
    omega
  · have hab := key32_inj ha hb h
    subst hab
    have hmn : m = n := Option.some.inj (hm.symm.trans hn)
    omega
  · have hgt := value_lt_of_key32_lt hb ha hzb hn hm h
    omega

/-- To invert a bit that is 0 adds its weight. -/
theorem xor_two_pow_of_lt {x n : Nat} (h : x < 2 ^ n) : x ^^^ 2 ^ n = x + 2 ^ n := by
  rw [← Nat.div_add_mod (x ^^^ 2 ^ n) (2 ^ n), Nat.xor_div_two_pow, Nat.xor_mod_two_pow, Nat.div_eq_of_lt h,
    Nat.div_self (Nat.two_pow_pos n), Nat.mod_self, Nat.mod_eq_of_lt h, Nat.zero_xor, Nat.xor_zero, Nat.mul_one,
    Nat.add_comm]

theorem getLsbD_31_iff (u : BitVec 32) : u.getLsbD 31 = true ↔ ¬ u.toNat < 2 ^ 31 := by
  rw [u.getLsbD_last, decide_eq_true_iff, Nat.not_lt]

/-- Of a pattern whose bit 31 is 0, the transform inverts bit 31. -/
theorem key32_eq_xor {u : BitVec 32} (h : u.getLsbD 31 = false) : key32 u.toNat = (u ^^^ 0x80000000#32).toNat := by
  have hpos : u.toNat < 2 ^ 31 := by
    rwa [← Bool.not_eq_true, getLsbD_31_iff, not_not] at h
  rw [key32, if_pos hpos, BitVec.toNat_xor]
  exact (xor_two_pow_of_lt hpos).symm

/-- Of a pattern whose bit 31 is 1, the transform inverts every bit. -/
theorem key32_eq_not {u : BitVec 32} (h : u.getLsbD 31 = true) : key32 u.toNat = (~~~ u).toNat := by
  have hneg : ¬ u.toNat < 2 ^ 31 := (getLsbD_31_iff u).mp h
  rw [key32, if_neg hneg, BitVec.toNat_not]

/-! ### Normalised scores -/

theorem normScore_ne_negZero (v : Nat) : normScore v ≠ 2 ^ 31 := by
  unfold normScore
  split
  · decide
  · assumption

theorem fp32_read_normScore (v : Nat) : fp32.read (normScore v) = fp32.read v := by
  unfold normScore
  split
  next h =>
    subst h
    decide
  next => rfl

end Sys2Proof

namespace Sys2Proof.Machine

open Sys2Proof

/-- Settles O50: the transform's order is that of the signed magnitudes, which is the order of the values. -/
theorem scoreKeysOrderScores : Obligations.ScoreKeysOrderScores :=
  ⟨fun _ _ _ _ ha hb hza hzb hm hn => key32_order ha hb hza hzb hm hn,
   fun _ => ⟨key32_eq_xor, key32_eq_not⟩,
   fun v => ⟨normScore_ne_negZero v, fp32_read_normScore v⟩,
   fun _ _ => rfl⟩

end Sys2Proof.Machine
end

/-! SUPPORT. Selections: the rank orders are total, so that a selection depends on its pool as a set (R109, R112 to R114,
R116, R120, R124, R156). -/

section
namespace Sys2Proof.Machine

open Sys2Proof

/-! ### The order of ranks -/

/-- rankLe is the library's lexicographic order of lists. -/
theorem rankLe_iff (x y : List Nat) : rankLe x y = true ↔ x ≤ y := by
  rw [← not_lt]
  induction x generalizing y with
  | nil => simp [rankLe]
  | cons a x ih =>
    cases y with
    | nil => simp [rankLe]
    | cons b y =>
      rw [rankLe, Bool.or_eq_true, Bool.and_eq_true, decide_eq_true_iff, decide_eq_true_iff, ih, List.cons_lt_cons_iff]
      grind

theorem rankLe_total (x y : List Nat) : rankLe x y = true ∨ rankLe y x = true := by
  rw [rankLe_iff, rankLe_iff]
  exact le_total x y

theorem rankLe_trans {x y z : List Nat} (hxy : rankLe x y = true) (hyz : rankLe y z = true) : rankLe x z = true := by
  rw [rankLe_iff] at *
  exact hxy.trans hyz

theorem rankLe_antisymm {x y : List Nat} (hxy : rankLe x y = true) (hyx : rankLe y x = true) : x = y := by
  rw [rankLe_iff] at *
  exact hxy.antisymm hyx

/-! ### Sorting by rank -/

section RankSort

variable {α β : Type} {rank : α → List Nat}

theorem sortBy_rank_sorted (rank : α → List Nat) (l : List α) :
    (sortBy (fun a b => rankLe (rank a) (rank b)) l).Pairwise (fun a b => rankLe (rank a) (rank b) = true) :=
  sortBy_sorted (fun a b => rankLe_total (rank a) (rank b)) (fun _ _ _ => rankLe_trans) l

/-- Where a rank determines a position, and no two entries share a position, the order of arrival has no part in the sort
(R112). -/
theorem sortBy_rank_of_perm {pos : α → β} (hpos : ∀ a b, rank a = rank b → pos a = pos b) {l m : List α}
    (hdistinct : l.Pairwise (fun a b => pos a ≠ pos b)) (h : l.Perm m) :
    sortBy (fun a b => rankLe (rank a) (rank b)) l = sortBy (fun a b => rankLe (rank a) (rank b)) m :=
  have hinj := List.inj_on_of_nodup_map (List.pairwise_map.2 hdistinct)
  sortBy_of_perm (fun a b => rankLe_total (rank a) (rank b)) (fun _ _ _ => rankLe_trans)
    (fun a ha b hb hab hba => hinj ha hb (hpos a b (rankLe_antisymm hab hba))) h

end RankSort

/-! ### Before gleaning: the stook order (R109) -/

/-- The rank of a stook entry within a shard: its distance, then what tells its position (R109). -/
def StookEntry.rank (e : StookEntry) : List Nat := [e.dist, e.list, e.pos]

theorem stookLe_eq_rankLe : stookLe = fun a b => rankLe a.rank b.rank := by
  funext a b
  rw [Bool.eq_iff_iff]
  simp [stookLe, StookEntry.rank, rankLe, Nat.le_iff_lt_or_eq]

theorem StookEntry.position_of_rank {a b : StookEntry} (h : a.rank = b.rank) : (a.list, a.pos) = (b.list, b.pos) := by
  simp only [StookEntry.rank, List.cons.injEq] at h
  obtain ⟨-, hlist, hpos, -⟩ := h
  rw [hlist, hpos]

theorem stookLe_position {a b : StookEntry} (hab : stookLe a b = true) (hba : stookLe b a = true) :
    (a.list, a.pos) = (b.list, b.pos) := by
  rw [stookLe_eq_rankLe] at hab hba
  exact StookEntry.position_of_rank (rankLe_antisymm hab hba)

/-- A shard's pool is the same for two orders of arrival (R112, R114). -/
theorem State.poolOf_of_perm {s : State} {x y : ShardWork} (hpool : x.pool.Perm y.pool) (hshard : x.shard = y.shard)
    (hdistinct : x.pool.Pairwise (fun a b => (a.list, a.pos) ≠ (b.list, b.pos))) (h t : Nat) :
    s.poolOf h t x = s.poolOf h t y := by
  simp only [State.poolOf, stookLe_eq_rankLe, hshard]
  rw [sortBy_rank_of_perm (fun _ _ => StookEntry.position_of_rank) (hdistinct.filter _) (hpool.filter _)]

/-! ### A threshing pass (R113, R156) -/

section Thresh

variable {l : LList} {w t sketch fslot : Nat} {floor : Option (Nat × Nat)}

/-- What a pass makes of one entry of a list and its position. -/
def LList.offer (l : LList) (w sketch fslot : Nat) (e : Entry × Nat) : Option StookEntry :=
  if e.1.offered fslot then some { dist := sketchDist w sketch e.1.sketch, slot := e.1.slot, list := l.idx, pos := e.2 }
  else none

/-- Whether an entry's key lies above the floor that the pass was given. -/
def StookEntry.above (floor : Option (Nat × Nat)) (e : StookEntry) : Bool :=
  match floor with
  | none => true
  | some (d, p) => decide (d < e.dist ∨ (d = e.dist ∧ p < e.pos))

/-- The entries among which a pass selects, in list order. -/
def LList.candidates (l : LList) (w t sketch fslot : Nat) (floor : Option (Nat × Nat)) : List StookEntry :=
  (((l.entries.take (l.len t)).zipIdx).filterMap (l.offer w sketch fslot)).filter (StookEntry.above floor)

theorem LList.thresh_eq (n : Nat) :
    l.thresh w t sketch fslot floor n = (sortBy stookLe (l.candidates w t sketch fslot floor)).take n := rfl

theorem LList.offer_eq_some {x : Entry} {i : Nat} {e : StookEntry} : l.offer w sketch fslot (x, i) = some e ↔
    x.offered fslot = true ∧ e = { dist := sketchDist w sketch x.sketch, slot := x.slot, list := l.idx, pos := i } := by
  rw [LList.offer, Option.ite_none_right_eq_some, Option.some.injEq, eq_comm (b := e)]

theorem StookEntry.above_iff {e : StookEntry} :
    e.above floor = true ↔ ∀ d p, floor = some (d, p) → d < e.dist ∨ (d = e.dist ∧ p < e.pos) := by
  cases floor with
  | none => simp [StookEntry.above]
  | some f => simp [StookEntry.above, Prod.ext_iff]

theorem LList.mem_candidates {e : StookEntry} : e ∈ l.candidates w t sketch fslot floor ↔
    (e.list = l.idx ∧ ∃ x, l.entries[e.pos]? = some x ∧ e.pos < l.len t ∧ x.offered fslot = true ∧
      e.dist = sketchDist w sketch x.sketch ∧ e.slot = x.slot ∧
      (∀ d p, floor = some (d, p) → d < e.dist ∨ (d = e.dist ∧ p < e.pos))) := by
  simp only [LList.candidates, List.mem_filter, List.mem_filterMap, Prod.exists, List.mem_zipIdx_iff_getElem?,
    List.getElem?_take, Option.ite_none_right_eq_some, LList.offer_eq_some, StookEntry.above_iff]
  constructor
  · rintro ⟨⟨x, i, ⟨hlen, hx⟩, hoffered, rfl⟩, habove⟩
    exact ⟨rfl, x, hx, hlen, hoffered, rfl, rfl, habove⟩
  · obtain ⟨dist, slot, list, pos⟩ := e
    rintro ⟨rfl, x, hx, hlen, hoffered, rfl, rfl, habove⟩
    exact ⟨⟨x, pos, ⟨hlen, hx⟩, hoffered, rfl⟩, habove⟩

/-- No two entries of a pass share a position in the list. -/
theorem LList.candidates_nodup : (l.candidates w t sketch fslot floor).Nodup := by
  have hpos : ((l.entries.take (l.len t)).zipIdx).Pairwise (fun a b => a.2 ≠ b.2) := by
    rw [← List.pairwise_map, List.zipIdx_map_snd]
    exact List.nodup_range' 1
  refine List.Nodup.filter _ (List.pairwise_filterMap.2 (hpos.imp fun {a b} hne e he f hf hef => hne ?_))
  rw [(LList.offer_eq_some.1 he).2, (LList.offer_eq_some.1 hf).2] at hef
  exact congrArg StookEntry.pos hef

/-- A pass takes the first n of its candidates in rank order. -/
theorem LList.thresh_selects (n : Nat) :
    ∃ all : List StookEntry, l.thresh w t sketch fslot floor n = all.take n ∧ all.Nodup ∧
      all.Pairwise (fun a b => stookLe a b = true) ∧ ∀ e, e ∈ all ↔ e ∈ l.candidates w t sketch fslot floor := by
  have hperm := sortBy_perm stookLe (l.candidates w t sketch fslot floor)
  have hsorted : (sortBy stookLe (l.candidates w t sketch fslot floor)).Pairwise (fun a b => stookLe a b = true) := by
    rw [stookLe_eq_rankLe]
    exact sortBy_rank_sorted StookEntry.rank _
  exact ⟨_, LList.thresh_eq n, hperm.nodup_iff.2 LList.candidates_nodup, hsorted, fun _ => hperm.mem_iff⟩

end Thresh

/-! ### After gleaning: the order of sheaves (R110, R120) -/

theorem entryRank_position {g1 : Bool} {a b : SheafEntry} (h : entryRank g1 a = entryRank g1 b) :
    (a.primary, a.list, a.pos) = (b.primary, b.list, b.pos) := by
  simp only [entryRank, List.cons.injEq] at h
  simpa using (List.append_inj_right' h.2 rfl)

/-! ### Duplicates of a record (R116, R120) -/

section Dedup

variable {e : SheafEntry} {es : List SheafEntry} {seen : List Nat}

theorem dedupRecords_cons_seen (h : e.record ∈ seen) : (dedupRecords (e :: es) seen).1 = (dedupRecords es seen).1 := by
  simp [dedupRecords, h]

theorem dedupRecords_cons_new (h : e.record ∉ seen) :
    (dedupRecords (e :: es) seen).1 = e :: (dedupRecords es (e.record :: seen)).1 := by
  simp [dedupRecords, h]

theorem dedupRecords_sublist (es : List SheafEntry) (seen : List Nat) : (dedupRecords es seen).1.Sublist es := by
  induction es generalizing seen with
  | nil => exact .slnil
  | cons e es ih =>
    by_cases h : e.record ∈ seen
    · rw [dedupRecords_cons_seen h]
      exact (ih seen).cons e
    · rw [dedupRecords_cons_new h]
      exact (ih _).cons_cons e

/-- The records left are those of the list that were not seen before it. -/
theorem mem_records_dedupRecords {r : Nat} :
    r ∈ (dedupRecords es seen).1.map (·.record) ↔ r ∈ es.map (·.record) ∧ r ∉ seen := by
  induction es generalizing seen with
  | nil => simp [dedupRecords]
  | cons e es ih =>
    by_cases h : e.record ∈ seen
    · rw [dedupRecords_cons_seen h, ih, List.map_cons, List.mem_cons]
      grind
    · rw [dedupRecords_cons_new h, List.map_cons, List.map_cons, List.mem_cons, List.mem_cons, ih, List.mem_cons]
      grind

/-- No two entries left are of one record. -/
theorem dedupRecords_distinct (es : List SheafEntry) (seen : List Nat) :
    ((dedupRecords es seen).1.map (·.record)).Nodup := by
  induction es generalizing seen with
  | nil => exact .nil
  | cons e es ih =>
    by_cases h : e.record ∈ seen
    · rw [dedupRecords_cons_seen h]
      exact ih seen
    · rw [dedupRecords_cons_new h, List.map_cons, List.nodup_cons]
      exact ⟨fun hmem => (mem_records_dedupRecords.1 hmem).2 List.mem_cons_self, ih _⟩

/-- One entry is left for each record of the list. -/
theorem dedupRecords_length (es : List SheafEntry) :
    (dedupRecords es []).1.length = (es.map (·.record)).dedup.length := by
  have hperm : ((dedupRecords es []).1.map (·.record)).Perm (es.map (·.record)).dedup := by
    rw [List.perm_ext_iff_of_nodup (dedupRecords_distinct es []) (List.nodup_dedup _)]
    simp [mem_records_dedupRecords]
  rw [← hperm.length_eq, List.length_map]

end Dedup

/-! ### The merge of sheaves (R120, R121, R124) -/

section Merge

variable {s : State} {q : Query} {xs ys : List Sheaf}

/-- The entries of a merge's inputs in rank order. -/
def rankedInputs (q : Query) (ins : List Sheaf) : List SheafEntry :=
  sortBy (fun a b => rankLe (entryRank q.g1 a) (entryRank q.g1 b)) ((ins.map (·.entries)).flatten)

theorem rankedInputs_perm (q : Query) (ins : List Sheaf) :
    (rankedInputs q ins).Perm ((ins.map (·.entries)).flatten) :=
  sortBy_perm _ _

theorem rankedInputs_of_perm (h : ((xs.map (·.entries)).flatten).Perm ((ys.map (·.entries)).flatten))
    (hdistinct : ((xs.map (·.entries)).flatten).Pairwise
      (fun a b => (a.primary, a.list, a.pos) ≠ (b.primary, b.list, b.pos))) :
    rankedInputs q xs = rankedInputs q ys :=
  sortBy_rank_of_perm (fun _ _ => entryRank_position) hdistinct h

theorem State.mergeSheaves_entries (s : State) (q : Query) (ins : List Sheaf) :
    (s.mergeSheaves q ins).1.entries = (dedupRecords (rankedInputs q ins) []).1.take q.k := rfl

theorem State.mergeSheaves_grainAcc (s : State) (q : Query) (ins : List Sheaf) : (s.mergeSheaves q ins).1.grainAcc =
    (((dedupRecords (rankedInputs q ins) []).1.take q.k).map (fun e => s.weight q e.score)).sum := rfl

theorem State.mergeSheaves_removed (s : State) (q : Query) (ins : List Sheaf) :
    (s.mergeSheaves q ins).2 = (dedupRecords (rankedInputs q ins) []).2 := rfl

/-- A merge's entries come from its inputs in rank order. -/
theorem State.mergeSheaves_entries_sublist (s : State) (q : Query) (ins : List Sheaf) :
    (s.mergeSheaves q ins).1.entries.Sublist (rankedInputs q ins) :=
  (List.take_sublist _ _).trans (dedupRecords_sublist _ _)

theorem State.mergeSheaves_sorted (s : State) (q : Query) (ins : List Sheaf) : (s.mergeSheaves q ins).1.entries.Pairwise
    (fun a b => rankLe (entryRank q.g1 a) (entryRank q.g1 b) = true) :=
  (sortBy_rank_sorted (entryRank q.g1) _).sublist (s.mergeSheaves_entries_sublist q ins)

theorem State.mergeSheaves_distinct (s : State) (q : Query) (ins : List Sheaf) :
    (s.mergeSheaves q ins).1.entries.Pairwise (fun a b => a.record ≠ b.record) :=
  (List.pairwise_map.1 (dedupRecords_distinct (rankedInputs q ins) [])).sublist (List.take_sublist _ _)

theorem State.mergeSheaves_length (s : State) (q : Query) (ins : List Sheaf) : (s.mergeSheaves q ins).1.entries.length =
    min q.k ((((ins.map (·.entries)).flatten).map (·.record)).dedup.length) := by
  rw [State.mergeSheaves_entries, List.length_take, dedupRecords_length,
    (((rankedInputs_perm q ins).map (·.record)).dedup).length_eq]

/-- Each of the merge's other sums is over its inputs as a set, so it too ignores their order. -/
theorem State.mergeSheaves_sums_of_perm (h : xs.Perm ys) (hrank : rankedInputs q xs = rankedInputs q ys) :
    (s.mergeSheaves q xs).1.ties = (s.mergeSheaves q ys).1.ties ∧
    (s.mergeSheaves q xs).1.invalid = (s.mergeSheaves q ys).1.invalid ∧
    (s.mergeSheaves q xs).1.chaffCount = (s.mergeSheaves q ys).1.chaffCount ∧
    (s.mergeSheaves q xs).1.chaffAcc = (s.mergeSheaves q ys).1.chaffAcc := by
  have hties (p : Sheaf → Bool) : ((xs.filter p).map (·.ties)).sum = ((ys.filter p).map (·.ties)).sum :=
    ((h.filter p).map _).sum_eq
  have hsum (f : Sheaf → Nat) : (xs.map f).sum = (ys.map f).sum := (h.map f).sum_eq
  unfold rankedInputs at hrank
  simp only [State.mergeSheaves, hrank, hties, hsum, and_self]

end Merge

/-- Settles O51: each order is the lexicographic order of ranks that determine the canonical position, so a sort by it, and
what is taken from the sort, depends on the entries alone. -/
theorem selectionsIgnoreArrivalOrder : Obligations.SelectionsIgnoreArrivalOrder := by
  refine ⟨fun a b => ⟨?_, stookLe_position⟩,
    fun g1 a b => ⟨rankLe_total _ _, fun hab hba => entryRank_position (rankLe_antisymm hab hba)⟩,
    fun l w t sketch fslot n floor => ?_,
    fun h t x y s hpool hshard hdistinct => State.poolOf_of_perm hpool hshard hdistinct h t,
    fun q xs ys s hperm hdistinct => ?_,
    fun q xs ys s hperm hdistinct => State.mergeSheaves_sums_of_perm hperm
      (rankedInputs_of_perm (hperm.map _).flatten hdistinct)⟩
  · rw [stookLe_eq_rankLe]
    exact rankLe_total _ _
  · simpa only [LList.mem_candidates] using LList.thresh_selects n
  · have hrank : rankedInputs q xs = rankedInputs q ys := rankedInputs_of_perm hperm hdistinct
    refine ⟨?_, ?_, ?_, s.mergeSheaves_sorted q xs, s.mergeSheaves_distinct q xs, s.mergeSheaves_length q xs⟩
    · rw [State.mergeSheaves_entries, hrank, State.mergeSheaves_entries]
    · rw [State.mergeSheaves_grainAcc, hrank, State.mergeSheaves_grainAcc]
    · rw [State.mergeSheaves_removed, hrank, State.mergeSheaves_removed]

end Sys2Proof.Machine
end

/-! SUPPORT. The granule cache of a home: fills, write-backs, flushes, seals, zeroing and the loss log (R146, R200, R300,
R302, R305, R313, R316, R320). -/

section
namespace Sys2Proof.Machine

open Sys2Proof

/-! ### Fills and write-backs (R300, R313) -/

section GranuleFrames

variable {s u : State} {granule : Nat}

theorem exec_granuleFillDone_freeFrame (h : Runs s) {f : Nat × Nat × Nat}
    (hf : s.home.filling.find? (fun f => decide (f.1 = granule)) = some f)
    (hfree : s.cacheFrames.length < s.home.frameCap) (lost : List Nat) :
    exec (.granuleFillDone granule lost) s = .next (s.keep (s.fillGranule granule f.2.1 f.2.2 lost).settled) := by
  rw [exec_granuleFillDone, execGranuleFillDone, nodeEvt_runs h, hf]
  simp only [if_pos hfree]

/-- With no frame free the victim's copies are recalled; the fill takes its frame once none is out. -/
theorem exec_granuleFillDone_victim (h : Runs s) {f : Nat × Nat × Nat} {v : Nat}
    (hf : s.home.filling.find? (fun f => decide (f.1 = granule)) = some f)
    (hfull : s.home.frameCap ≤ s.cacheFrames.length) (hv : s.frameVictim = some v) (hu : u = s.recallGranule v true)
    (hidle : u.granuleIdle v = true) (lost : List Nat) :
    exec (.granuleFillDone granule lost) s =
      .next (s.keep ((u.evictFrame v).fillGranule granule f.2.1 f.2.2 lost).settled) := by
  rw [exec_granuleFillDone, execGranuleFillDone, nodeEvt_runs h, hf]
  simp only [if_neg (Nat.not_lt.mpr hfull), hv, ← hu, if_pos hidle]

theorem exec_writebackTimer_due (h : Runs s) {f : Frame} (hf : tfind s.home.frames granule = some f)
    (hdirty : f.dirtyAt ≠ 0) (hdue : f.dirtyAt + s.get Reg.HOME_CFG_WB_SECONDS * second ≤ s.now + 1) :
    exec (.writebackTimer granule) s = .next (s.keep (s.writeBack granule)) := by
  rw [exec_writebackTimer, execWritebackTimer, nodeEvt_runs h, hf]
  simp only [if_pos (And.intro hdirty hdue)]

end GranuleFrames

/-! ### Verified programs, zeroed spans and the loss log (R302, R305, R316) -/

section HomeUpkeep

variable {s u : State}

theorem exec_superblockVerify_runs (h : Runs s) {stream bad : Nat} {r : State × List FlashUnit}
    (hr : r = s.verifySuper stream bad) :
    exec (.superblockVerify stream bad) s = .next (s.keep (r.1.modHome fun h => { h with
      flushes := h.flushes.map (fun f => { f with
        pend := f.pend.filter (fun g => !((r.2.map sharedGranules).flatten).contains g) }) }).runFlushes) := by
  rw [exec_superblockVerify, execSuperblockVerify, nodeEvt_runs h, hr]

theorem exec_spanZeroingDone_shown (h : Runs s) {range : Nat} (hz : s.home.zeroing.contains range = true)
    (hu : u = s.modHome fun h => { h with zeroing := h.zeroing.filter (fun i => decide (i ≠ range)) }) :
    exec (.spanZeroingDone range) s =
      .next ((u.setB (Reg.HOME_RANGE_ZEROING range) false).setB Reg.HOME_STATUS_ZEROING (!u.home.zeroing.isEmpty)) := by
  rw [exec_spanZeroingDone, execSpanZeroingDone, nodeEvt_runs h, if_pos hz, hu]
  rfl

theorem exec_lostLog_runs (h : Runs s) (entries : List LostEntry) (src : Nat) :
    exec (.lostLog entries src) s = .next (s.keep (entries.foldl State.keepEntry s)) := by
  rw [exec_lostLog, execLostLog, nodeEvt_runs h]

end HomeUpkeep

/-! ### Sealed ranges (R320) -/

/-- Once a publication's range is sealed and flushed, a lost line ends it with FAILED, a PREV_RELEASE above the open step
ends it with REFUSED_QUOTA, and otherwise its compare-and-swap goes to the descriptor's home (R320 steps 2 and 3). -/
theorem exec_publishSealDone_flushed {s : State} (h : Runs s) {id : OpId} {prevRelease d prev : Nat} {p : Publish}
    {a : Admitted} (hp : s.home.pubs.find? (fun p => decide (p.id = id) && !p.sent && !p.lostRace) = some p)
    (ha : s.adm? id = some a) (hflushed : s.flushed id = true) (hd : d = s.get (Reg.HOME_REGION_DESC_ADDR p.region) / 64)
    (hprev : prev =
      if s.homeOf d = s.me ∧ s.cached (d / 64) = true then lineWord (s.lineMem d) 40 else prevRelease) :
    exec (.publishSealDone id prevRelease) s = .next (s.keep (
      if s.flag (Reg.HOME_RANGE_INCOMPLETE p.stage) = true then (s.endPublish p 10 0 0).settled
      else if s.openStep < prev then (s.endPublish p 3 0 0).settled
      else ((s.modHome fun h => { h with
        pubs := h.pubs.map (fun x => if x = p then { x with sent := true } else x) }).coh (s.homeOf d)
          (.cas id p.region p.expect (s.get (Reg.HOME_RANGE_BASE p.stage)) (a.record / 65536 % 65536))).settled)) := by
  have hawaits : ¬ (!s.flushed id) = true := by simp [hflushed]
  rw [exec_publishSealDone, execPublishSealDone, nodeEvt_runs h, hp, ha]
  simp only [if_neg hawaits, ← hd, ← hprev]
  rfl

/-- Settles O31: each event is its body on the running node, at the branch its conditions choose. That the flash holds a
granule as soon as its write-back begins, inside writeBack, is the model's choice (assumption 25). -/
theorem granuleCacheRuns : Obligations.GranuleCacheRuns := by
  refine ⟨fun granule lost f s hr hf hfree => exec_granuleFillDone_freeFrame hr hf hfree lost,
    fun granule v lost f u s hr hf hfull hv hu hidle => exec_granuleFillDone_victim hr hf hfull hv hu hidle lost,
    fun granule f s hr hf hdirty hdue => exec_writebackTimer_due hr hf hdirty hdue,
    fun stream bad r s hr hverify => exec_superblockVerify_runs hr hverify,
    fun id prevRelease d prev p a s hr hp ha hflushed hd hprev => ?_,
    fun range u s hr hz hu => exec_spanZeroingDone_shown hr hz hu,
    fun entries src s hr => exec_lostLog_runs hr entries src⟩
  rw [exec_publishSealDone_flushed hr hp ha hflushed hd hprev]
  refine ⟨fun hlost => ?_, fun hwhole hretained => ?_, fun hwhole hreleased => ?_⟩
  · rw [if_pos hlost]
  · rw [if_neg (ne_true_of_eq_false hwhole), if_pos hretained]
  · rw [if_neg (ne_true_of_eq_false hwhole), if_neg (Nat.not_lt.mpr hreleased)]

end Sys2Proof.Machine
end

/-! SUPPORT. Embedding look-ups and loads: bags, gathers, partial sums, copied rows, reports, directory entries and moved
rows (R153, R279, R281, R287, R290 to R292, R313). -/

section
namespace Sys2Proof.Machine

open Sys2Proof

@[simp] theorem State.keep_modEmb (s : State) (f : EmbSt → EmbSt) : s.keep (s.modEmb f) = s.modEmb f := rfl

/-! ### Admission (R279, R281, R313) -/

section LookupAdmission

variable {s u : State} {p n : Nat} {h : Head} {dlv : Delivery} {t : Taken} {mem : List (Nat × List Byte)}

/-- Bags that keep the layout and may be read admit the look-up, unless a line of them is lost; it starts where the step
before its own is committed (R279, R313). -/
theorem exec_embLookup_readable {r : List Bag × Nat × Nat} {a : Admitted} {v : State} (hr : Runs s)
    (hs : Served s 0x20 p n h dlv) (hu : u = (s.takeHead p n h).1) (ht : t = (s.takeHead p n h).2)
    (hbags : readBags (fun a n => u.shmRead mem a n)
      (u.get (Reg.EMB_TABLE_ROWS_M1 ((u.tableIdx (body h.data 0 2)).getD 0)) + 1) (body h.data 2 2) (body h.data 8 8) =
        some r)
    (hread : u.canRead t.part (some (u.iringOwner t.part t.ring)) (body h.data 8 8) (r.2.1 - body h.data 8 8) = true)
    (ha : a = { t.admitted dlv (body h.data 0 2) 0 true with items := body h.data 2 2 })
    (hv : v = ((u.admitOp a).tallyP .CXP_RSVD_WRITES t.part r.2.2).modEmb (fun e => { e with lookups := e.lookups ++ [{
      id := t.id, table := body h.data 0 2, dst := body h.data 16 8, save := false, first := 0, count := 0, bags := r.1,
      sums := [], await := [], fwd := 0, bad := 0 }] })) (lost : Bool) :
    exec (.embLookup mem lost) s = .next (s.keep (if lost then u.completeTaken t 10
      else if t.id.step ≤ v.get Reg.STEP_COMMITTED + 1 then v.startLookup a else v)) := by
  have hdata : t.data = h.data := by rw [ht, takeHead_data]
  have hmayRead : ¬ (!true) = true := by decide
  rw [exec_embLookup, execEmbLookup, nodeEvt_serve_served hr hs hu ht]
  simp only [hdata, hbags, hread, if_neg hmayRead, ← ha, ← hv]

/-- Bags that break the layout complete the look-up with BAD_DESCRIPTOR (R281). -/
theorem exec_embLookup_malformed (hr : Runs s) (hs : Served s 0x20 p n h dlv) (hu : u = (s.takeHead p n h).1)
    (ht : t = (s.takeHead p n h).2)
    (hbags : readBags (fun a n => u.shmRead mem a n)
      (u.get (Reg.EMB_TABLE_ROWS_M1 ((u.tableIdx (body h.data 0 2)).getD 0)) + 1) (body h.data 2 2) (body h.data 8 8) =
        none)
    (lost : Bool) :
    exec (.embLookup mem lost) s = .next (s.keep (u.completeTaken t 5)) := by
  have hdata : t.data = h.data := by rw [ht, takeHead_data]
  rw [exec_embLookup, execEmbLookup, nodeEvt_serve_served hr hs hu ht]
  simp only [hdata, hbags]

end LookupAdmission

/-! ### Gathers and partial sums (R153, R279) -/

section Gathers

variable {s : State} {id : OpId}

theorem exec_entries_runs (hr : Runs s) (table src : Nat) (es : List (Nat × Nat × Int)) (fwd : Bool) :
    exec (.entries id table es fwd src) s = .next (s.keep (s.takeEntries id table es fwd src)) := by
  rw [exec_entries, execEntries, nodeEvt_runs hr]

/-- A sound gather that is not the last of its share adds its weighted row and is counted (R153, R279). -/
theorem exec_nbuGather_sound {bag row : Nat} {e : EntryReq} {q : Partial} {term : List Int} {u : State} (hr : Runs s)
    (he : s.emb.gathers.find? (fun e => decide (e.id = id ∧ e.bag = bag ∧ e.row = row)) = some e)
    (hterm : term = (List.range (s.tableDim e.table)).map
      (fun j => e.weight * (rowElem (s.rowAt (rowKey e.table row) id.step) j)))
    (hu : u = (s.modEmb fun x => { x with gathers := x.gathers.erase e }).tallyP .EMB_TERMS (s.tablePart e.table))
    (hq : u.emb.partials.find? (fun q => decide (q.id = id ∧ q.src = e.src)) = some q) (hleft : 2 ≤ q.left) :
    exec (.nbuGather id bag row none) s = .next (s.keep (u.modEmb fun x => { x with
      partials := lmod (fun y => decide (y.id = id ∧ y.src = e.src)) (fun _ => { q with
        sums := tput q.sums bag (addSums (tget [] q.sums bag) term), left := q.left - 1, bad := worse q.bad 0 })
        x.partials })) := by
  have hmore : ¬ q.left - 1 = 0 := by omega
  rw [exec_nbuGather]
  -- By unification: to rewrite by the equation of execNbuGather is slow.
  refine (nodeEvt_runs hr _).trans ?_
  simp only [he, ← hterm, ← hu, hq, if_neg hmore]

/-- Partial sums that leave another node awaited are added to the look-up (R279, R292). -/
theorem State.gotPartials_awaiting {l : Lookup} {src : Nat} {onto : List Nat}
    (hl : s.emb.lookups.find? (fun l => decide (l.id = id)) = some l) (hawait : l.await.erase src ++ onto ≠ [])
    (sums : List (Nat × List Int)) (fwd bad : Nat) :
    s.gotPartials id sums fwd onto bad src = s.modEmb fun e => { e with
      lookups := lmod (fun x => decide (x.id = id)) (fun _ => { l with
        sums := sums.foldl (fun t x => tput t x.1 (addSums (tget [] t x.1) x.2)) l.sums,
        await := l.await.erase src ++ onto, fwd := l.fwd + fwd, bad := worse l.bad bad }) e.lookups } := by
  have hmore : ¬ (l.await.erase src ++ onto).isEmpty = true := mt List.isEmpty_iff.1 hawait
  simp only [State.gotPartials, hl, if_neg hmore]

theorem exec_partials_runs (hr : Runs s) (sums : List (Nat × List Int)) (fwd : Nat) (onto : List Nat) (bad src : Nat) :
    exec (.partials id sums fwd onto bad src) s =
      .next (s.keep (s.gotPartials id sums fwd onto bad src).releaseDue) := by
  rw [exec_partials, execPartials, nodeEvt_runs hr]

end Gathers

/-! ### Loads of tables (R290) -/

section TableLoads

variable {s : State} {f : LoadInfo}

/-- A load that the node knows is changed where it stands (R290). -/
theorem State.withLoad_known (hknown : s.emb.loads.any (fun l => decide (l.info = f)) = true)
    (g : TableLoad → TableLoad) :
    s.withLoad f g = s.modEmb fun e => { e with loads := lmod (fun l => decide (l.info = f)) g e.loads } :=
  if_pos hknown

theorem exec_nbuCopy_inRange (hr : Runs s) {row : Nat} (hfirst : f.first ≤ row) (hend : row < f.first + f.count)
    (e : List Int) :
    exec (.nbuCopy f row e) s = .next (s.keep
      (s.withLoad f (fun l => if l.done then l else { l with rows := tput l.rows row e }))) := by
  have hinside : ¬ (row < f.first ∨ f.first + f.count ≤ row) := by omega
  rw [exec_nbuCopy, execNbuCopy, nodeEvt_runs hr, if_neg hinside]

theorem exec_tableLoadFinished_runs (hr : Runs s) :
    exec (.tableLoadFinished f) s = .next (s.keep (s.withLoad f (fun l => { l with done := true }))) := by
  rw [exec_tableLoadFinished, execTableLoadFinished, nodeEvt_runs hr]

end TableLoads

/-! ### Migration of rows (R287, R291, R292) -/

section Migration

variable {s : State}

theorem exec_loadReport_runs (hr : Runs s) (step table load src : Nat) :
    exec (.loadReport step table load src) s =
      .next (s.modEmb fun e => { e with reports := e.reports ++ [(step, table, src, load)] }) := by
  rw [exec_loadReport, execLoadReport, nodeEvt_runs hr, State.keep_modEmb]

theorem exec_directory_runs (hr : Runs s) (entry : Override) (src : Nat) :
    exec (.directory entry src) s = .next (s.keep
      ((s.modEmb fun e => { e with dirStaged := e.dirStaged ++ [(entry.step - 1, entry)] }).sendAckTo
        { step := entry.step - 1, seq := 0, admitter := src } 0)) := by
  rw [exec_directory, execDirectory, nodeEvt_runs hr]

theorem exec_rowMove_runs (hr : Runs s) (table row step src : Nat) (data : Row) :
    exec (.rowMove table row step data src) s = .next (s.keep (s.modEmb fun e => { e with
      rows := tset zeroRow e.rows (rowKey table row) data,
      expected := e.expected.filter (fun x => decide (x ≠ (rowKey table row, step))) }).dispatchEntries) := by
  rw [exec_rowMove, execRowMove, nodeEvt_runs hr]

end Migration

/-- Settles O12: each event is its body on the running node, at the branch its conditions choose. A DIRECTORY entry
acknowledged with sequence number 0 and a load that begins where a placement first names it are the model's readings
(assumptions 32 and 33). -/
theorem embeddingLookupsRun : Obligations.EmbeddingLookupsRun := by
  refine ⟨fun p n h dlv t mem r a u v s hr hs hu ht hbags hread ha hv =>
      ⟨exec_embLookup_readable hr hs hu ht hbags hread ha hv false,
       exec_embLookup_readable hr hs hu ht hbags hread ha hv true⟩,
    fun p n h dlv t mem lost u s hr hs hu ht hbags => exec_embLookup_malformed hr hs hu ht hbags lost,
    fun id table src es s hr => exec_entries_runs hr table src es true,
    fun id bag row e q term u s hr he hterm hu hq hleft => exec_nbuGather_sound hr he hterm hu hq hleft,
    fun id sums fwd bad src onto l s hr hl hawait => ?_,
    fun f row e s hr hfirst hend hknown => ?_,
    fun f s hr hknown => ?_,
    fun step table load src s hr => exec_loadReport_runs hr step table load src,
    fun entry src s hr => exec_directory_runs hr entry src,
    fun table row step src data s hr => exec_rowMove_runs hr table row step src data⟩
  · rw [exec_partials_runs hr, State.gotPartials_awaiting hl hawait]
  · rw [exec_nbuCopy_inRange hr hfirst hend, State.withLoad_known hknown, State.keep_modEmb]
    rfl
  · rw [exec_tableLoadFinished_runs hr, State.withLoad_known hknown, State.keep_modEmb]
    rfl

end Sys2Proof.Machine
end

/-! SUPPORT. Events of the stacks: refresh, the scan governor, the timer's crosscheck, the hot band, scrubbing, repairs,
failed channels and their rebuilds (R159, R162, R169, R171, R173, R178, R179, R181, R182, R185). -/

section
namespace Sys2Proof.Machine

open Sys2Proof

@[simp] theorem State.keep_modStk (s : State) (f : StackSt → StackSt) : s.keep (s.modStk f) = s.modStk f := rfl

/-! ### Refresh, activations and timers (R159, R162, R173) -/

section StackTimers

variable {s : State} {stack : Nat}

/-- A due refresh of a powered node's bank is granted, frozen or not; an NBU that yields is counted (R159, R402). -/
theorem exec_refreshDue_granted {bank time : Nat} (hrails : s.pwr.rails = true) (hbank : bank < 8192)
    (hdue : tget 0 s.stk.refreshAt bank + s.refreshPeriod (bank / 1024) ≤ time) (busy : Bool) :
    exec (.refreshDue bank time busy) s = .next (s.keep
      ((s.modStk fun k => { k with refreshAt := tset 0 k.refreshAt bank time }).tallyN .NBU_REFRESH_YIELDS
        (b2n busy))) := by
  rw [exec_refreshDue, execRefreshDue, anyEvt_next, if_pos ⟨hrails, hbank, hdue⟩]

theorem exec_scanGovernorTick_runs {demand : Nat} {u : State} (hr : Runs s) (hstack : stack < 8)
    (hu : u = (s.tallyN .NBU_GOV_HOLDS (demand - s.scanAllow stack)).setB (Reg.NBU_STACK_GOV_HOLD stack)
      (decide (s.scanAllow stack < demand))) :
    exec (.scanGovernorTick stack demand) s = .next (s.keep
      (u.setB Reg.NBU_STATUS_GOV_HOLD (allStacks.any (fun k => u.flag (Reg.NBU_STACK_GOV_HOLD k))))) := by
  rw [exec_scanGovernorTick, execScanGovernorTick, nodeEvt_runs hr, if_neg (Nat.not_le.mpr hstack)]
  simp only [Nat.sub_pos_iff_lt, ← hu]

/-- A stack timer off by more than 3 % of the four periods that each tick holds is a fault of its controller (R173). -/
theorem exec_stackTimerCrosscheck_deviates {periods ticks : Nat} (hr : Runs s)
    (hoff : 12 * ticks < 100 * (periods - 4 * ticks + (4 * ticks - periods))) :
    exec (.stackTimerCrosscheck stack periods ticks) s = .next (s.keep (s.react 12 .other stack 5 0 periods)) := by
  have hbeyond : 3 * (4 * ticks) < 100 * (periods - 4 * ticks + (4 * ticks - periods)) := by omega
  rw [exec_stackTimerCrosscheck, execStackTimerCrosscheck, nodeEvt_runs hr]
  simp only [if_pos hbeyond]

/-- A hot stack that has been cool for 10 ms leaves the hot band (R173). -/
theorem exec_hotBandExit_cooled (hstack : stack < 8) (hhot : s.flag (Reg.STACK_TEMP_HOT stack) = true)
    (hcool : tget 0 s.stk.coolFrom stack ≠ 0) (hlong : tget 0 s.stk.coolFrom stack + 250000 ≤ s.now + 1) :
    exec (.hotBandExit stack) s = .next (s.keep (s.showHot stack false)) := by
  have hexits : stack < 8 ∧ s.flag (Reg.STACK_TEMP_HOT stack) = true ∧ tget 0 s.stk.coolFrom stack ≠ 0 ∧
      tget 0 s.stk.coolFrom stack + 250000 ≤ s.now + 1 := ⟨hstack, hhot, hcool, hlong⟩
  rw [exec_hotBandExit, execHotBandExit, anyEvt_next]
  simp only [if_pos hexits]

end StackTimers

/-! ### Scrubbing and repairs (R169, R171, R178, R185) -/

section Scrubbing

variable {s : State} {a : ChunkAddr} {burst : List Byte}

theorem exec_scrubDue_uncorrectable (hr : Runs s)
    (hdecode : rsDecode burst (a.row * 512 + a.bank * 32 + a.col) (s.erasures a.chan) = none) (cls : Nat)
    (redo : Option Bool) :
    exec (.scrubDue a burst cls redo) s = .next (s.keep (s.recoverChunk a cls redo)) := by
  rw [exec_scrubDue, execScrubDue, nodeEvt_runs hr]
  simp only [hdecode]

theorem exec_scrubDue_decoded {x : List Byte × List Nat} (hr : Runs s)
    (hdecode : rsDecode burst (a.row * 512 + a.bank * 32 + a.col) (s.erasures a.chan) = some x) (cls : Nat)
    (redo : Option Bool) :
    exec (.scrubDue a burst cls redo) s = .next (s.keep
      ((s.tallyN .STK_CORRECTED (b2n (!x.2.isEmpty))).tallyN .STK_ERASURE_DECODES
        (b2n (!(s.erasures a.chan).isEmpty)))) := by
  rw [exec_scrubDue, execScrubDue, nodeEvt_runs hr]
  simp only [hdecode]

theorem exec_viaRemap_runs (hr : Runs s) (chan via : Nat) :
    exec (.viaRemap chan via) s = .next (s.keep (s.remapVia chan via)) := by
  rw [exec_viaRemap, execViaRemap, nodeEvt_runs hr]

theorem exec_rowRepair_runs (hr : Runs s) (chan bank row : Nat) :
    exec (.rowRepair chan bank row) s = .next (s.keep (s.repairRow chan bank row)) := by
  rw [exec_rowRepair, execRowRepair, nodeEvt_runs hr]

end Scrubbing

/-! ### Channels that fail and are rebuilt (R179, R181, R182) -/

section Channels

variable {s : State} {chan : Nat}

/-- A channel in service whose cause holds fails (R179). -/
theorem exec_channelFail_inService {cause : ChanCause} (hr : Runs s) (hchan : chan < 512)
    (hstate : s.get (Reg.STACK_CH_STATE chan) = 0) (hcause : s.chanFails chan cause = true) :
    exec (.channelFail chan cause) s = .next (s.keep (s.failChannel chan)) := by
  rw [exec_channelFail, execChannelFail, nodeEvt_runs hr, if_pos ⟨hchan, hstate, hcause⟩]

theorem exec_channelRebuildDone_runs (hr : Runs s) (chan : Nat) :
    exec (.channelRebuildDone chan) s = .next (s.modStk fun k => { k with
      rebuilds := lmod (fun r => decide (r.ch = chan)) (fun r => { r with left := (0, 0, 0), done := true })
        k.rebuilds }) := by
  rw [exec_channelRebuildDone, execChannelRebuildDone, nodeEvt_runs hr, State.keep_modStk]

theorem exec_chunks_runs (hr : Runs s) (chan priv coded reb : Nat) :
    exec (.chunks chan priv coded reb) s = .next (s.modStk fun k => { k with
      rebuilds := lmod (fun r => decide (r.ch = chan))
        (fun r => { r with left := (r.left.1 - priv, r.left.2.1 - coded, r.left.2.2 - reb) }) k.rebuilds }) := by
  rw [exec_chunks, execChunks, nodeEvt_runs hr, State.keep_modStk]

end Channels

/-- Settles O23: each event is its body, on any powered node or on the running one, at the branch its conditions choose.
A chunk recovered at the SCRUB_DUE that reports it is the model's reading (assumption 95). -/
theorem stackEventsRun : Obligations.StackEventsRun := by
  refine ⟨fun bank time busy s hrails hbank hdue => exec_refreshDue_granted hrails hbank hdue busy,
    fun stack demand u s hr hstack hu => exec_scanGovernorTick_runs hr hstack hu,
    fun stack periods ticks s hr hoff => exec_stackTimerCrosscheck_deviates hr hoff,
    fun stack s hstack hhot hcool hlong => exec_hotBandExit_cooled hstack hhot hcool hlong,
    fun a burst cls redo s hr =>
      ⟨fun hdecode => exec_scrubDue_uncorrectable hr hdecode cls redo,
       fun x hdecode => exec_scrubDue_decoded hr hdecode cls redo⟩,
    fun chan via s hr _ _ => exec_viaRemap_runs hr chan via,
    fun chan bank row s hr _ _ => exec_rowRepair_runs hr chan bank row,
    fun chan cause s hr hchan hstate hcause => exec_channelFail_inService hr hchan hstate hcause,
    fun chan s hr => exec_channelRebuildDone_runs hr chan,
    fun chan priv coded reb s hr => exec_chunks_runs hr chan priv coded reb⟩

end Sys2Proof.Machine
end

/-! SUPPORT. A reading of a stack's dies and the thermal bands that it enters (R173, R187, R442). -/

section
namespace Sys2Proof.Machine

open Sys2Proof

/-- Settles O24: a reading on an awake node goes past both guards of the event, and each premise that names a state is the
body's next stage: the registers show (`a`), the hot band is entered (`b`), the cooling time starts or ends (`c`), a rise
above 105 °C is reported (`d`). Halving the scan rows only above 105 °C, and THERM_EVT where SCAN_HALVED rises, are the
model's reading (assumption 60). -/
theorem stackThermalBands : Obligations.StackThermalBands := by
  intro stack from_ mx dies a b c d s hawake hstack hdies hmx ha hb hfrom hc hd
  have hreads : ¬(8 ≤ stack ∨ dies = []) := not_or.mpr ⟨Nat.not_le.mpr hstack, hdies⟩
  have hup : ¬(!s.awake) = true := by simp [hawake]
  rw [exec_stackThermalReading, execStackThermalReading, resetEvt_next, if_neg hreads, if_neg hup]
  simp only [← hmx, ← ha, ← hb, ← hfrom, ← hc, ← hd]

end Sys2Proof.Machine
end

/-! SUPPORT. Events of the supply: the limiter, the pins of the supply, the die's temperature and the I3C target (R216, R439,
R442 to R445, R454). -/

section
namespace Sys2Proof.Machine

open Sys2Proof

@[simp] theorem State.keep_modPwr (s : State) (f : PwrSt → PwrSt) : s.keep (s.modPwr f) = s.modPwr f := rfl

/-- An event that can reset the node leaves what its body answers, with the queue as it was. -/
theorem resetEvt_of_body {s t : State} {f : State → State} (h : f s = t) :
    resetEvt s f = .next { t with pending := s.pending } := by
  rw [resetEvt_next, h]

/-- A body that leaves the queue as it was gives the whole state. -/
theorem resetEvt_of_queue_kept {s t : State} {f : State → State} (h : f s = t) (hqueue : t.pending = s.pending) :
    resetEvt s f = .next t := by
  rw [resetEvt_of_body h, ← hqueue]

/-! ### The limiter and the pins of the supply (R216, R439, R443 to R445) -/

section SupplyPins

variable {s : State}

/-- A limiter sample 100 µs after the last one is taken (R439). -/
theorem exec_powerLimiterSample_due (hr : Runs s) (hdue : s.pwr.sampleTick + 2500 ≤ s.now) (avgW vin : Nat) :
    exec (.powerLimiterSample avgW vin) s = .next (s.keep
      ((((s.modPwr fun p => { p with sampleTick := s.now }).set Reg.NODE_PWR_STATUS_INPUT_W avgW).set
        Reg.NODE_PWR_STATUS_VIN_100MV vin).limiter avgW)) := by
  rw [exec_powerLimiterSample, execPowerLimiterSample, nodeEvt_runs hr, if_neg (Nat.not_lt.mpr hdue)]

theorem exec_pwrFailNFall_awake (h : s.awake = true) :
    exec .pwrFailNFall s = .next (s.keep (s.modPwr fun p => { p with pwrFailN := false }).powerFail) := by
  rw [exec_pwrFailNFall, execPwrFailNFall, anyEvt_next, if_pos h]

theorem exec_pwrFailNFall_asleep (h : s.awake = false) :
    exec .pwrFailNFall s = .next (s.modPwr fun p => { p with pwrFailN := false }) := by
  rw [exec_pwrFailNFall, execPwrFailNFall, anyEvt_next, if_neg (by simp [h]), State.keep_modPwr]

theorem exec_pwrOkFall_awake (h : s.awake = true) :
    exec .pwrOkFall s = .next (s.keep (s.modPwr fun p => { p with pwrOk := false }).powerFail) := by
  rw [exec_pwrOkFall, execPwrOkFall, anyEvt_next, if_pos h]

theorem exec_pwrOkFall_asleep (h : s.awake = false) :
    exec .pwrOkFall s = .next (s.modPwr fun p => { p with pwrOk := false }) := by
  rw [exec_pwrOkFall, execPwrOkFall, anyEvt_next, if_neg (by simp [h]), State.keep_modPwr]

/-- An undervoltage starts a power failure that PWR_FAIL_N has not started already (R445). -/
theorem exec_undervoltage_first (h : s.awake = true) (hpin : s.pwr.pwrFailN = true) :
    exec .undervoltage s = .next (s.keep (s.setB Reg.NODE_PWR_STATUS_UNDERVOLT true).powerFail) := by
  rw [exec_undervoltage, execUndervoltage, anyEvt_next, if_pos (by simp [h, hpin])]

theorem exec_pwrOkRise_next (s : State) : exec .pwrOkRise s = .next (s.modPwr fun p => { p with pwrOk := true }) := by
  rw [exec_pwrOkRise, execPwrOkRise, anyEvt_next, State.keep_modPwr]

theorem exec_pwrFailNRise_next (s : State) :
    exec .pwrFailNRise s = .next (s.modPwr fun p => { p with pwrFailN := true }) := by
  rw [exec_pwrFailNRise, execPwrFailNRise, anyEvt_next]
  rfl

end SupplyPins

/-! ### The die's temperature and the I3C target (R442, R454) -/

section DieAndI3c

variable {s : State}

theorem exec_dieThermalReading_awake (h : s.awake = true) (temp : Nat) :
    exec (.dieThermalReading temp) s =
      .next { (s.set Reg.NODE_PWR_STATUS_DIE_C temp).thermal with pending := s.pending } := by
  rw [exec_dieThermalReading, execDieThermalReading]
  exact resetEvt_of_body (if_pos h)

/-- A reading below the trip threshold can be what a held release waits for (R442). -/
theorem exec_dieThermalReading_asleep (h : s.awake = false) (temp : Nat) :
    exec (.dieThermalReading temp) s =
      .next { (s.set Reg.NODE_PWR_STATUS_DIE_C temp).tryRelease with pending := s.pending } := by
  have hdown : ¬s.awake = true := by simp [h]
  rw [exec_dieThermalReading, execDieThermalReading]
  exact resetEvt_of_body (if_neg hdown)

theorem exec_i3cEntdaa_rails (h : s.pwr.rails = true) (addr : Nat) :
    exec (.i3cEntdaa addr) s = .next (s.modPwr fun p => { p with i3cAddr := some (addr % 128) }) := by
  rw [exec_i3cEntdaa, execI3cEntdaa, anyEvt_next, if_pos h, State.keep_modPwr]

/-- A target with an address answers a read on any powered node (R454). -/
theorem exec_i3cRead_addressed (h : s.pwr.rails = true) (haddr : s.pwr.i3cAddr ≠ none) :
    exec .i3cRead s = .next (s.emit (.i3c s.i3cStream)) := by
  have hanswers : (s.pwr.rails && s.pwr.i3cAddr.isSome) = true := by simp [h, Option.isSome_iff_ne_none, haddr]
  rw [exec_i3cRead, execI3cRead, anyEvt_next, if_pos hanswers, State.keep_emit]

end DieAndI3c

/-- Settles O35: each event is its body, on the running node or on any node, at the branch its conditions choose. A fall of
PWR_OK that starts the power failure without setting UNDERVOLT is the model's reading (assumption 96). -/
theorem powerEventsRun : Obligations.PowerEventsRun := by
  refine ⟨fun avgW vin s hr hdue => exec_powerLimiterSample_due hr hdue avgW vin,
    fun s hawake => ⟨exec_pwrFailNFall_awake hawake, exec_pwrOkFall_awake hawake,
      fun hpin => exec_undervoltage_first hawake hpin, fun temp => exec_dieThermalReading_awake hawake temp⟩,
    fun s hasleep => ⟨exec_pwrFailNFall_asleep hasleep, exec_pwrOkFall_asleep hasleep,
      fun temp => exec_dieThermalReading_asleep hasleep temp⟩,
    fun s => ⟨exec_pwrOkRise_next s, exec_pwrFailNRise_next s⟩,
    fun addr s hrails => ⟨exec_i3cEntdaa_rails hrails addr, fun haddr => exec_i3cRead_addressed hrails haddr⟩⟩

end Sys2Proof.Machine
end

/-! SUPPORT. Events that reset the node or let it out of reset: RESET_N, the rails and the end of a flush (R216, R405, R442,
R443, R445, R446). -/

section
namespace Sys2Proof.Machine

open Sys2Proof

/-! ### RESET_N (R405, R442, R443, R446) -/

section ResetPin

variable {s u : State}

/-- With no flush running, RESET_N's fall resets an awake node at once, frozen or not (R405). -/
theorem exec_resetNFall_resets (h : s.awake = true)
    (hu : u = { s with pwr := { s.pwr with resetN := false, releaseHeld := none } })
    (hflush : s.flag Reg.GRAN_STATUS_FLUSHING = false) :
    exec .resetNFall s = .next { u.doReset with pending := s.pending } := by
  have hnow : ¬(s.awake && s.flag Reg.GRAN_STATUS_FLUSHING) = true := by simp [hflush]
  subst hu
  rw [exec_resetNFall, execResetNFall]
  exact resetEvt_of_body ((if_neg hnow).trans (if_pos h))

/-- While the flush runs, RESET_N's fall is latched (R446). -/
theorem exec_resetNFall_latches (h : s.awake = true)
    (hu : u = { s with pwr := { s.pwr with resetN := false, releaseHeld := none } })
    (hflush : s.flag Reg.GRAN_STATUS_FLUSHING = true) :
    exec .resetNFall s = .next { u with pwr := { u.pwr with resetLatched := true } } := by
  have hlatches : (s.awake && s.flag Reg.GRAN_STATUS_FLUSHING) = true := by simp [h, hflush]
  subst hu
  rw [exec_resetNFall, execResetNFall]
  exact resetEvt_of_queue_kept (if_pos hlatches) rfl

theorem exec_resetNFall_asleep (h : s.awake = false) :
    exec .resetNFall s = .next { s with pwr := { s.pwr with resetN := false, releaseHeld := none } } := by
  have hdown : ¬s.awake = true := by simp [h]
  have hnoflush : ¬(s.awake && s.flag Reg.GRAN_STATUS_FLUSHING) = true := by simp [h]
  rw [exec_resetNFall, execResetNFall]
  exact resetEvt_of_queue_kept ((if_neg hnoflush).trans (if_neg hdown)) rfl

/-- RESET_N's rise holds the release with its straps, and lets it go where it can (R443). -/
theorem exec_resetNRise_low {g1 sel : Bool} (h : s.pwr.resetN = false)
    (hu : u = ({ s with pwr := { s.pwr with resetN := true, releaseHeld := some (g1, sel) } } : State).tryRelease) :
    exec (.resetNRise g1 sel) s = .next { u with pending := s.pending } := by
  rw [exec_resetNRise, execResetNRise, resetEvt_next, if_neg (by simp [h]), hu]

end ResetPin

/-! ### The rails and the end of the flush (R216, R443, R445, R446) -/

section RailsAndFlush

variable {s : State}

theorem exec_railsOff_awake {u : State} (h : s.awake = true) (hu : u = s.doReset) :
    exec .railsOff s = .next { u with
      pwr := { u.pwr with rails := false, i3cAddr := none, releaseHeld := none, resetN := false },
      pending := s.pending } := by
  rw [exec_railsOff, execRailsOff, resetEvt_next]
  simp only [if_pos h, hu]

theorem exec_railsOff_asleep (h : s.awake = false) :
    exec .railsOff s = .next { s with
      pwr := { s.pwr with rails := false, i3cAddr := none, releaseHeld := none, resetN := false } } := by
  have hdown : ¬s.awake = true := by simp [h]
  rw [exec_railsOff, execRailsOff, resetEvt_next]
  simp only [if_neg hdown]

theorem exec_railsGood_next (s : State) :
    exec .railsGood s =
      .next { ({ s with pwr := { s.pwr with rails := true } } : State).tryRelease with pending := s.pending } := by
  rw [exec_railsGood, execRailsGood, resetEvt_next]

theorem State.endFlush_pwr (s : State) : s.endFlush.pwr = s.pwr := by
  rw [State.endFlush, State.setB, State.set_pwr, State.modGran_pwr, State.modSrch_pwr, State.set_pwr,
    State.setUnprog, State.set_pwr, State.modGran_pwr]

/-- The end of a flush on a running node programs what was left, and a latched reset follows it (R216, R446). -/
theorem exec_flushDone_flushing (hr : Runs s) (hflush : s.flag Reg.GRAN_STATUS_FLUSHING = true) :
    exec .flushDone s = .next { (if s.pwr.resetLatched then s.endFlush.doReset.tryRelease else s.endFlush) with
      pending := s.pending } := by
  obtain ⟨hawake, hfrozen⟩ := hr
  have hends : (s.awake && !s.frozen && s.flag Reg.GRAN_STATUS_FLUSHING) = true := by simp [hawake, hfrozen, hflush]
  rw [exec_flushDone, execFlushDone, resetEvt_next]
  simp only [if_pos hends, State.endFlush_pwr]

end RailsAndFlush

/-- Settles O36: each event is its body at the branch that the node's power, the flush and the latch choose. What a reset
keeps (`doReset`) is the model's reading (assumption 62). -/
theorem resetEventsRun : Obligations.ResetEventsRun := by
  refine ⟨fun u s hawake hu =>
      ⟨fun hflush => exec_resetNFall_resets hawake hu hflush, fun hflush => exec_resetNFall_latches hawake hu hflush⟩,
    fun s hasleep => ⟨exec_resetNFall_asleep hasleep, exec_railsOff_asleep hasleep⟩,
    fun g1 sel u s hlow hu => exec_resetNRise_low hlow hu,
    fun u s hawake hu => exec_railsOff_awake hawake hu,
    fun s => exec_railsGood_next s,
    fun s hr hflush => ⟨fun hlatch => ?_, fun hlatch => ?_⟩⟩
  · rw [exec_flushDone_flushing hr hflush, if_neg (by simp [hlatch])]
  · rw [exec_flushDone_flushing hr hflush, if_pos hlatch]

end Sys2Proof.Machine
end

/-! SUPPORT. Slots of a stream operation, and the records, windows, chains and first passes of the encoder engine (R222, R223,
R225, R230, R232, R233, R247, R249, R251, R260, R270, R271, R280). -/

section
namespace Sys2Proof.Machine

open Sys2Proof

/-! ### Stream slots (R238, R247, R249) -/

/-- A command whose meaning is the slot command of a kind and operation runs its slots as its body says. -/
theorem slotRuns_of_exec {cmd : Nat → Instr} {kind op : Nat} {body : State → SlotCtx → SlotRes}
    (h : ∀ (c : Nat) (s : State), exec (cmd c) s = s.slotCmd c kind op (body s)) : SlotRuns cmd kind op body := by
  intro c r b i s hs hready
  rw [h, slotCmd_ready hs hready]

/-- Settles O19: the meaning of each of the eight commands is the slot command of its operation in a stream slot. -/
theorem streamScratchSlotsRun : Obligations.StreamScratchSlotsRun :=
  ⟨slotRuns_of_exec exec_vld, slotRuns_of_exec exec_vst, slotRuns_of_exec exec_sld, slotRuns_of_exec exec_sst,
    slotRuns_of_exec exec_incpy, slotRuns_of_exec exec_outcpy, slotRuns_of_exec exec_emb, slotRuns_of_exec exec_scrz⟩

/-! ### Dispatch and windows (R225, R230) -/

section DispatchAndWindows

variable {s : State}

/-- The least record that waits, when it did not arrive along a chain, is taken from the backlog (R225). -/
theorem exec_encRecordDispatch_backlog {r : EncRec} (hr : Runs s)
    (hleast : leastRec ((s.enc.backlog.filter s.recReady) ++ s.enc.arrived.map (·.r)) = some r)
    (hown : s.enc.arrived.find? (fun x => x.r.is r.id r.pos) = none) (mem : List (Nat × List Byte))
    (remote : List (Nat × List Int)) (lost : Bool) :
    exec (.encRecordDispatch mem remote lost) s = .next (s.keep (s.takeRec r mem remote lost)) := by
  rw [exec_encRecordDispatch, execEncRecordDispatch, nodeEvt_runs hr]
  simp only [hleast, hown]

/-- A layer of the model that arrives is kept in its window (R230). -/
theorem exec_loftFillDone_inModel {model layer : Nat} {keep : List Nat → List Nat} (hr : Runs s)
    (hlayer : layer < s.get (Reg.ENC_MODEL_LAYERS model))
    (hkeep : keep = fun l => (if s.modelKib model ≤ s.get (Reg.ENC_MODEL_LOFT_KIB model) then l else l.filter (fun x =>
      decide (x = (if layer = 0 then s.get (Reg.ENC_MODEL_LAYERS model) - 1 else layer - 1)))).filter
        (fun x => decide (x ≠ layer)) ++ [layer]) (half : Nat) :
    exec (.loftFillDone model half layer) s = .next (s.keep ((List.range 8).foldl State.showCluster
      (s.modEnc fun e => { e with
        loft := lmod (fun w => decide (w.model = model ∧ w.half = half)) (fun w => { w with layers := keep w.layers })
          e.loft }))) := by
  rw [exec_loftFillDone, execLoftFillDone, nodeEvt_runs hr, if_neg (Nat.not_le.mpr hlayer), hkeep]
  simp only [decide_eq_true_eq]

end DispatchAndWindows

/-! ### Chains (R232, R233, R251, R256) -/

section Chains

variable {s : State}

/-- A record of a model that serves replaces what is here of it and joins the records arrived (R232, R233). -/
theorem exec_actRecord_served {r : ChainRec} {x : EncRun} {u : State} (hr : Runs s) (hu : u = s.dropRun r.id r.pos)
    (hx : u.chainRun r r.id.admitter = some x) (src : Nat) :
    exec (.actRecord r src) s = .next (s.keep (u.modEnc fun e => { e with
      arrived := e.arrived ++ [{ x with ended := true, chainPos := 0 }] })) := by
  rw [exec_actRecord, execActRecord, nodeEvt_runs hr]
  simp only [← hu, hx]

/-- Activations for a record that runs on a cluster join its inbox (R251). -/
theorem exec_activation_running {r : ChainRec} {c : Nat} (hr : Runs s)
    (hc : (s.enc.runs.find? (fun e => e.2.r.is r.id r.pos)).map (·.1) = some c) (data : List Byte) (last : Bool)
    (src : Nat) :
    exec (.activation r data last src) s = .next (s.keep ((s.modEnc fun e => { e with runs := tmod e.runs c (fun x => { x with
      inbox := x.inbox ++ data, sat := r.sat, quant := r.quant, nanIn := x.nanIn || r.nan, gradsIn := r.grads,
      ended := x.ended || last }) }).checkRun c)) := by
  rw [exec_activation, execActivation, nodeEvt_runs hr]
  simp only [hc]

theorem State.gotOutput_elsewhere {id : OpId} (h : id.admitter ≠ s.me) (pos status : Nat) (out : List Byte)
    (sat quant : Nat) (grads : List (List Byte)) : s.gotOutput id pos status out sat quant grads = s.dropRun id pos :=
  if_neg h

theorem State.gotOutput_admitter {id : OpId} {pos : Nat} {x : EncRun} (h : id.admitter = s.me)
    (hx : s.enc.sent.find? (fun x => x.r.is id pos) = some x) (status : Nat) (out : List Byte) (sat quant : Nat)
    (grads : List (List Byte)) :
    s.gotOutput id pos status out sat quant grads = (s.dropRun id pos).endRecord x.r status out sat quant grads := by
  rw [State.gotOutput, if_pos h, hx]

theorem exec_actOutput_runs (hr : Runs s) (id : OpId) (pos status : Nat) (out : List Byte) (sat quant : Nat) (nan : Bool)
    (grads : List (List Byte)) (src : Nat) :
    exec (.actOutput id pos status out sat quant nan grads src) s =
      .next (s.keep (s.gotOutput id pos status out sat quant grads)) := by
  rw [exec_actOutput, execActOutput, nodeEvt_runs hr]

end Chains

/-! ### Transfers and first passes (R249, R270, R271) -/

section TransfersAndPasses

variable {s : State}

theorem exec_streamTransferDone_running {core : Nat} {r : EncRun} (hr : Runs s)
    (hrun : tfind s.enc.runs (core / 8) = some r) (n : Nat) :
    exec (.streamTransferDone core n) s = .next (s.keep
      (((s.modCore core (fun k => { k with xfers := k.xfers.eraseIdx n })).checkBar (core / 8)).checkRun (core / 8))) := by
  have hheld : ¬ (tfind s.enc.runs (core / 8)).isNone = true := by simp [hrun]
  rw [exec_streamTransferDone, execStreamTransferDone, nodeEvt_runs hr, if_neg hheld]

/-- A first pass over the model's source may end: the model is pending or ready, and neither its own pass is over nor that of
its base awaited (R271). -/
structure PassOpen (s : State) (model : Nat) : Prop where
  entry : model < 256
  serves : s.get (Reg.ENC_MODEL_STATE model) = 1 ∨ s.get (Reg.ENC_MODEL_STATE model) = 2
  notDone : (s.modelMem model).passDone = false
  notFailed : (s.modelMem model).failed = false
  baseReady : s.baseWaits model = false

/-- The digest of a model over its program and then its built segments (assumption 83). -/
def builtDigest (prog : List Nat) (built : List (List WSeg)) : Nat :=
  (Config.sm3 ((prog.map (natLe 128)).flatten ++ (built.flatten.map (·.bytes)).flatten)).toNat

/-- What the end of a first pass checks of its source: readable, of a size that fits, of shapes that agree, of the digest
named (R271). -/
def State.passGood (s : State) (model : Nat) (src : PassSrc) : Bool :=
  src.readable && src.fits && s.shapesAgree model src.layers &&
    decide (builtDigest src.prog (s.buildModel model src.layers) = s.get (Reg.ENC_MODEL_DIGEST model))

/-- The end of an open first pass: its check decides between the built model and the spoiled one (R270, R271). -/
theorem exec_firstPassDone_open {model : Nat} (hr : Runs s) (ho : PassOpen s model) (src : PassSrc) :
    exec (.firstPassDone model src) s = .next (s.keep (
      if s.passGood model src then
        (s.modModel model (fun m => { m with
          prog := src.prog, layers := s.buildModel model src.layers, passDone := true })).tallyP .QNT_BUILDS
            (s.modelPart model)
      else (s.spoiled model).tallyP .QNT_BUILD_FAILS (s.modelPart model))) := by
  obtain ⟨hentry, hserves, hnotDone, hnotFailed, hbase⟩ := ho
  have hopen : ¬ (256 ≤ model ∨ (s.get (Reg.ENC_MODEL_STATE model) ≠ 1 ∧ s.get (Reg.ENC_MODEL_STATE model) ≠ 2 ∧
      s.get (Reg.ENC_MODEL_STATE model) ≠ 4) ∨ (s.modelMem model).passDone = true ∨ (s.modelMem model).failed = true ∨
      s.baseWaits model = true) := by
    simp only [hnotDone, hnotFailed, hbase, Bool.false_eq_true, or_false]
    omega
  rw [exec_firstPassDone, execFirstPassDone, nodeEvt_runs hr, if_neg hopen]
  rfl

theorem exec_firstPassDone_good {model : Nat} {src : PassSrc} (hr : Runs s) (ho : PassOpen s model)
    (hgood : s.passGood model src = true) :
    exec (.firstPassDone model src) s = .next (s.keep ((s.modModel model (fun m => { m with
      prog := src.prog, layers := s.buildModel model src.layers, passDone := true })).tallyP .QNT_BUILDS
        (s.modelPart model))) := by
  rw [exec_firstPassDone_open hr ho, if_pos hgood]

theorem exec_firstPassDone_bad {model : Nat} {src : PassSrc} (hr : Runs s) (ho : PassOpen s model)
    (hbad : s.passGood model src = false) :
    exec (.firstPassDone model src) s =
      .next (s.keep ((s.spoiled model).tallyP .QNT_BUILD_FAILS (s.modelPart model))) := by
  rw [exec_firstPassDone_open hr ho, if_neg (ne_true_of_eq_false hbad)]

theorem State.passGood_unreadable {model : Nat} {src : PassSrc} (h : src.readable = false) :
    s.passGood model src = false := by
  simp [State.passGood, h]

/-- Of a readable source that fits and agrees in shape, the digest alone decides (R271). -/
theorem State.passGood_sound {model : Nat} {src : PassSrc} (hread : src.readable = true) (hfits : src.fits = true)
    (hshapes : s.shapesAgree model src.layers = true) :
    s.passGood model src =
      decide (builtDigest src.prog (s.buildModel model src.layers) = s.get (Reg.ENC_MODEL_DIGEST model)) := by
  simp [State.passGood, hread, hfits, hshapes]

end TransfersAndPasses

/-- Settles O14: each event is its body on the running node, at the branch its conditions choose. That a streaming window
keeps the layer before, and that the digest runs over the program followed by the built segments, are the model's readings
(assumptions 80 and 83). -/
theorem encoderRecordsRun : Obligations.EncoderRecordsRun := by
  refine ⟨fun mem remote lost r s hr hleast hown => exec_encRecordDispatch_backlog hr hleast hown mem remote lost,
    fun model half layer keep s hr hlayer hkeep => exec_loftFillDone_inModel hr hlayer hkeep half,
    fun r src x u s hr hu hx => exec_actRecord_served hr hu hx src,
    fun r data last src c s hr hc => exec_activation_running hr hc data last src,
    fun id pos status sat quant src out nan grads s hr => ⟨fun hfar => ?_, fun x hhere hx => ?_⟩,
    fun core n r s hr hrun => exec_streamTransferDone_running hr hrun n,
    fun model src s hr hentry hserves hnotDone hnotFailed hbase hunread =>
      exec_firstPassDone_bad hr ⟨hentry, hserves, hnotDone, hnotFailed, hbase⟩ (State.passGood_unreadable hunread),
    fun model digest src built s hr hentry hserves hnotDone hnotFailed hbase hread hfits hshapes hbuilt hdigest => ?_⟩
  · rw [exec_actOutput_runs hr, State.gotOutput_elsewhere hfar]
  · rw [exec_actOutput_runs hr, State.gotOutput_admitter hhere hx]
  · have ho : PassOpen s model := ⟨hentry, hserves, hnotDone, hnotFailed, hbase⟩
    have hgood : s.passGood model src = decide (digest = s.get (Reg.ENC_MODEL_DIGEST model)) := by
      rw [State.passGood_sound hread hfits hshapes, hdigest, hbuilt, builtDigest]
    refine ⟨fun hsame => ?_, fun hother => ?_⟩
    · rw [hbuilt, exec_firstPassDone_good hr ho (by simpa [hgood] using hsame)]
    · rw [exec_firstPassDone_bad hr ho (by simpa [hgood] using hother)]

end Sys2Proof.Machine
end

/-! SUPPORT. Slots of scalar, vector, matrix and control operations, and of a stream's handles and channels (R229, R238, R240
to R246, R248, R250 to R256, R263, R282). -/

section
namespace Sys2Proof.Machine

open Sys2Proof

/-! ### Slots of scalar, vector, matrix and stream operations (R238, R240 to R251, R254, R255) -/

/-- Settles O15: the meaning of each of the fifteen commands is the slot command of its operation in a scalar slot, with the
write of RD as its result. -/
theorem scalarIntegerSlotsRun : Obligations.ScalarIntegerSlotsRun :=
  ⟨slotRuns_of_exec exec_li, slotRuns_of_exec exec_add, slotRuns_of_exec exec_addi, slotRuns_of_exec exec_sub,
    slotRuns_of_exec exec_mul, slotRuns_of_exec exec_and, slotRuns_of_exec exec_or, slotRuns_of_exec exec_xor,
    slotRuns_of_exec exec_shl, slotRuns_of_exec exec_shr, slotRuns_of_exec exec_sra, slotRuns_of_exec exec_slt,
    slotRuns_of_exec exec_sltu, slotRuns_of_exec exec_min, slotRuns_of_exec exec_max⟩

/-- Settles O16: the meaning of each of the eight commands is the slot command of its operation in a scalar slot. What the
FP32 operations make of infinities and of the sign of a zero is the model's reading (assumption 36). -/
theorem scalarSpecialSlotsRun : Obligations.ScalarSpecialSlotsRun :=
  ⟨slotRuns_of_exec exec_mfs, slotRuns_of_exec exec_fadd, slotRuns_of_exec exec_fmul, slotRuns_of_exec exec_fdiv,
    slotRuns_of_exec exec_itof, slotRuns_of_exec exec_ftoi, slotRuns_of_exec exec_qpar, slotRuns_of_exec exec_qstat⟩

/-- Settles O17: the meaning of each of the thirteen commands is the slot command of its operation in a vector slot. The
lanes that VSEL tests and VCVT wraps, the infinities and zero signs, and the values of VEXP and VRSQRT are the model's
readings (assumptions 81, 36 and 92). -/
theorem vectorLaneSlotsRun : Obligations.VectorLaneSlotsRun :=
  ⟨slotRuns_of_exec exec_vadd, slotRuns_of_exec exec_vsub, slotRuns_of_exec exec_vmul, slotRuns_of_exec exec_vfma,
    slotRuns_of_exec exec_vmax, slotRuns_of_exec exec_vmin, slotRuns_of_exec exec_vexp, slotRuns_of_exec exec_vrcp,
    slotRuns_of_exec exec_vrsqrt, slotRuns_of_exec exec_vsplat, slotRuns_of_exec exec_vcmp, slotRuns_of_exec exec_vsel,
    slotRuns_of_exec exec_vcvt⟩

/-- A slot through which a tile leaves, as a command: the tile's residue is checked first (R229). -/
def State.tileCmd (s : State) (c kind op : Nat) (residueOk : Bool) (body : SlotCtx → SlotRes) :
    Host.Outcome State Fault Refusal :=
  nodeEvt s (fun s => if s.tileLeaves c kind op && !residueOk then s.residueFail c else s.runSlot c kind op body)

theorem exec_vtrd_tileCmd (c : Nat) (residueOk : Bool) (s : State) :
    exec (.vtrd c residueOk) s = s.tileCmd c 1 0x11 residueOk (fun k =>
      k.vd (tileRow (k.n.tile (k.vimm / 256 % 4)) (k.vimm % 64))) :=
  exec_vtrd c residueOk s

theorem exec_tst_tileCmd (c : Nat) (residueOk : Bool) (s : State) :
    exec (.tst c residueOk) s = s.tileCmd c 2 3 residueOk (fun k =>
      scratchSlot 2 k [] ((List.range (mRows k.x)).map (fun i =>
        .scratch (rowAddr k.n k.x i) (natLe 512 (tileRow (k.n.tile (bits k.x 12 2)) i))))) :=
  exec_tst c residueOk s

/-- With a tile that passes its residue check the slot runs as any other does. -/
theorem tileCmd_passed {s : State} {c kind op b i : Nat} {r : EncRun} (hs : Runs s) (h : SlotReady s c kind op r b i)
    (body : SlotCtx → SlotRes) :
    s.tileCmd c kind op true body = .next (s.keep (s.slotTaken c b i (body (s.slotView c r b i)))) := by
  have hpasses : ¬ (s.tileLeaves c kind op && !true) = true := by simp
  rw [State.tileCmd, nodeEvt_runs hs, if_neg hpasses, runSlot_ready h]

/-- Settles O18: the meaning of each of the nine commands is the slot command of its operation in a vector or matrix slot;
VTRD and TST check the residue of their tile first. How a BF16 reduction rounds, the OVERFLOW of an int8 partial sum and the
infinities are the model's readings (assumptions 81 and 36). -/
theorem vectorReductionSlotsRun : Obligations.VectorReductionSlotsRun :=
  ⟨slotRuns_of_exec exec_vrsum, slotRuns_of_exec exec_vrmax, slotRuns_of_exec exec_vrmin, slotRuns_of_exec exec_vtwr,
    slotRuns_of_exec exec_qmm, slotRuns_of_exec exec_qcvt, slotRuns_of_exec exec_qdq, slotRuns_of_exec exec_mma,
    slotRuns_of_exec exec_tclr,
    fun c _ _ _ s hs h => (exec_vtrd_tileCmd c true s).trans (tileCmd_passed hs h _),
    fun c _ _ _ s hs h => (exec_tst_tileCmd c true s).trans (tileCmd_passed hs h _)⟩

/-- Settles O20: the meaning of each of the six commands is the slot command of its operation in a stream slot; XCH looks for
its receiver in its own core's cluster, which is the slot's. That XCH ranks only the cores in use and that GRAD outside a
model of KIND 3 is ILLEGAL are the model's readings (assumption 81). -/
theorem streamChannelSlotsRun : Obligations.StreamChannelSlotsRun :=
  ⟨slotRuns_of_exec exec_wopen, slotRuns_of_exec exec_wclose,
    fun c _ _ _ s hs h => (exec_xch c s).trans (slotCmd_ready hs h _), slotRuns_of_exec exec_acto,
    slotRuns_of_exec exec_acti, slotRuns_of_exec exec_grad⟩

/-! ### Control slots and NOP (R238, R252) -/

section Nop

variable {s : State} {c b : Nat} {r : EncRun}

/-- NOP takes a valid slot of any kind without a write (R238). -/
theorem exec_nop_slot {i : Nat} (hs : Runs s) (h : SlotReady s c (slotKind i) 0 r b i) :
    exec (.nop c) s = .next (s.keep (s.slotTaken c b i ([], []))) := by
  rw [exec_nop, execNop, nodeEvt_runs hs]
  simp only [h.run, h.bundle, h.next, runSlot_ready h]

/-- NOP ends a well-formed bundle that has no valid slot left (R238). -/
theorem exec_nop_ends (hs : Runs s) (hrun : tfind s.enc.runs (c / 8) = some r)
    (hgoes : ((s.core c).halted || (s.core c).atBar || s.coreIso c) = false)
    (hbundle : (s.modelMem r.r.model).prog[(s.core c).pc]? = some b) (hformed : bundleOk b = true)
    (hnext : nextSlot b (s.core c).slot = none) : exec (.nop c) s = .next (s.keep (s.endBundle c (s.core c))) := by
  rw [exec_nop, execNop, nodeEvt_runs hs]
  simp only [hrun, hbundle, hnext, hgoes, hformed, Bool.not_true, Bool.false_eq_true, if_false]

end Nop

/-- Settles O21: the meaning of each of the seven commands is the slot command of its operation in a control slot, and NOP
takes a slot of any kind or ends a bundle. -/
theorem controlSlotsRun : Obligations.ControlSlotsRun :=
  ⟨slotRuns_of_exec exec_br, slotRuns_of_exec exec_jmp, slotRuns_of_exec exec_loop, slotRuns_of_exec exec_halt,
    slotRuns_of_exec exec_bar, slotRuns_of_exec exec_rxwin, slotRuns_of_exec exec_trap,
    fun _ _ _ _ _ hs h => exec_nop_slot hs h,
    fun _ _ _ _ hs hrun hgoes hbundle hformed hnext => exec_nop_ends hs hrun hgoes hbundle hformed hnext⟩

end Sys2Proof.Machine
end

/-! SUPPORT. Bundles that are not well formed: the faults that make them so, and what a core that stands at one does (R237,
R256). -/

section
namespace Sys2Proof

/-! ### Bits of a number -/

theorem bit_false_of_bits_zero {v lo w j : Nat} (h : bits v lo w = 0) (hlo : lo ≤ j) (hhi : j < lo + w) : bit v j = false := by
  have hoff : (bits v lo w).testBit (j - lo) = v.testBit j := by
    simp [bits, Nat.testBit_mod_two_pow, Nat.testBit_div_two_pow, Nat.sub_add_cancel hlo, show j - lo < w by omega]
  rw [bit, ← hoff, h, Nat.zero_testBit]

/-- Numbers without a common bit add without a carry. -/
theorem add_eq_lor_of_disjoint {m n : Nat} (h : ∀ i, m.testBit i = true → n.testBit i = false) : m + n = m ||| n := by
  have hlt : m + n < 2 ^ (m + n) := Nat.lt_two_pow_self
  have hm : m < 2 ^ (m + n) := by omega
  have hn : n < 2 ^ (m + n) := by omega
  have hand : BitVec.ofNat (m + n) m &&& BitVec.ofNat (m + n) n = 0#(m + n) := by
    refine BitVec.eq_of_toNat_eq (Nat.eq_of_testBit_eq fun i => ?_)
    rw [BitVec.toNat_and, BitVec.toNat_ofNat, BitVec.toNat_ofNat, Nat.mod_eq_of_lt hm, Nat.mod_eq_of_lt hn]
    cases hi : m.testBit i with
    | false => simp [hi]
    | true => simp [h i hi]
  have hsum := BitVec.toNat_add_of_and_eq_zero hand
  rw [BitVec.add_eq_or_of_and_eq_zero _ _ hand, BitVec.toNat_or, BitVec.toNat_ofNat, BitVec.toNat_ofNat,
    Nat.mod_eq_of_lt hm, Nat.mod_eq_of_lt hn] at hsum
  exact hsum.symm

end Sys2Proof

namespace Sys2Proof.Machine

open Sys2Proof

/-! ### The fields of an operation (R237, R243 to R252) -/

/-- The bits of a slot that a field covers. -/
def fieldBits (f : Nat × Nat) : Nat := (2 ^ f.2 - 1) * 2 ^ f.1

/-- The sum of the bits that fields cover, as `cleanSlot` takes it. -/
def fieldMask (fs : List (Nat × Nat)) : Nat := (fs.map fieldBits).sum

/-- No two fields share a bit. -/
abbrev FieldsApart (fs : List (Nat × Nat)) : Prop := fs.Pairwise (fun f g => f.1 + f.2 ≤ g.1 ∨ g.1 + g.2 ≤ f.1)

/-- The opcode byte with the fields of an operation. -/
abbrev withOpcode (fs : List (Nat × Nat)) : List (Nat × Nat) := (0, 8) :: fs

theorem testBit_fieldBits {f : Nat × Nat} {j : Nat} : (fieldBits f).testBit j = true ↔ f.1 ≤ j ∧ j < f.1 + f.2 := by
  rw [fieldBits, Nat.testBit_mul_two_pow, Nat.testBit_two_pow_sub_one, Bool.and_eq_true, decide_eq_true_eq,
    decide_eq_true_eq]
  omega

/-- A bit of the mask of fields that stand apart lies in one of them: their sum has no carry. -/
theorem mem_field_of_testBit_mask {fs : List (Nat × Nat)} {j : Nat} (hapart : FieldsApart fs)
    (hj : (fieldMask fs).testBit j = true) : ∃ f ∈ fs, f.1 ≤ j ∧ j < f.1 + f.2 := by
  induction fs generalizing j with
  | nil => simp [fieldMask] at hj
  | cons f fs ih =>
    obtain ⟨hhead, htail⟩ := List.pairwise_cons.1 hapart
    have hdisjoint : ∀ i, (fieldBits f).testBit i = true → (fieldMask fs).testBit i = false := by
      intro i hi
      by_contra hboth
      obtain ⟨g, hg, hgi⟩ := ih htail (Bool.eq_true_of_not_eq_false hboth)
      have hfi := testBit_fieldBits.1 hi
      have := hhead g hg
      omega
    have hmask : fieldMask (f :: fs) = fieldBits f ||| fieldMask fs := add_eq_lor_of_disjoint hdisjoint
    rw [hmask, Nat.testBit_or, Bool.or_eq_true] at hj
    rcases hj with hj | hj
    · exact ⟨f, List.mem_cons_self, testBit_fieldBits.1 hj⟩
    · obtain ⟨g, hg, hgj⟩ := ih htail hj
      exact ⟨g, List.mem_cons_of_mem f hg, hgj⟩

theorem cleanSlot_iff {x : Nat} {fs : List (Nat × Nat)} :
    cleanSlot x fs = true ↔ x &&& fieldMask (withOpcode fs) = x := by
  have hmask : fieldMask (withOpcode fs) = (fs.map fieldBits).sum + 255 := Nat.add_comm 255 _
  rw [hmask]
  exact decide_eq_true_iff

/-- A clean slot holds no bit outside the opcode byte and its operation's fields. -/
theorem cleanSlot_stray {x j : Nat} {fs : List (Nat × Nat)} (hapart : FieldsApart (withOpcode fs)) (hop : 8 ≤ j)
    (hbit : bit x j = true) (hstray : ∀ f ∈ fs, j < f.1 ∨ f.1 + f.2 ≤ j) : cleanSlot x fs = false := by
  by_contra hclean
  have hx := cleanSlot_iff.1 (Bool.eq_true_of_not_eq_false hclean)
  have hmask : (fieldMask (withOpcode fs)).testBit j = true := by
    rw [bit, ← hx, Nat.testBit_and, Bool.and_eq_true] at hbit
    exact hbit.2
  obtain ⟨f, hf, hlo, hhi⟩ := mem_field_of_testBit_mask hapart hmask
  rcases List.mem_cons.1 hf with rfl | hf
  · omega
  · have := hstray f hf
    omega

/-- The fields that an operation defines, if any, share no bit with each other or with the opcode byte. -/
abbrev OpApart (o : Option (List (Nat × Nat))) : Prop := ∀ fs ∈ o, FieldsApart (withOpcode fs)

theorem opApart_ite {p : Prop} [Decidable p] {x y : Option (List (Nat × Nat))} (hx : OpApart x) (hy : OpApart y) :
    OpApart (if p then x else y) := by
  split
  · exact hx
  · exact hy

/-- Every operation's fields stand apart (R243, R244, R245, R247, R252). -/
theorem opFields_apart (kind op : Nat) : OpApart (opFields kind op) := by
  unfold opFields scalarFields vectorFields matrixFields streamFields controlFields
  split <;> repeat' apply opApart_ite
  all_goals decide

/-! ### Bundles that are not well formed (R237) -/

section IllFormed

variable {b k : Nat}

theorem slotOk_empty_slot (hvalid : slotValid b k = false) (hbits : slotBits b k ≠ 0) : slotOk b k = false := by
  simp [slotOk, hvalid, hbits]

theorem slotOk_reserved_op (hvalid : slotValid b k = true) (hop : opFields (slotKind k) (opOf (slotBits b k)) = none) :
    slotOk b k = false := by
  simp [slotOk, hvalid, hop]

theorem slotOk_stray_bit {fs : List (Nat × Nat)} {j : Nat} (hvalid : slotValid b k = true)
    (hop : opFields (slotKind k) (opOf (slotBits b k)) = some fs) (hj : 8 ≤ j) (hbit : bit (slotBits b k) j = true)
    (hstray : ∀ f ∈ fs, j < f.1 ∨ f.1 + f.2 ≤ j) : slotOk b k = false := by
  simp [slotOk, hvalid, hop, cleanSlot_stray (opFields_apart _ _ fs hop) hj hbit hstray]

theorem bundleOk_bad_slot (hk : k < 7) (hslot : slotOk b k = false) : bundleOk b = false := by
  have hall : (List.range 7).all (slotOk b) = false := List.all_eq_false.2 ⟨k, List.mem_range.2 hk, by simp [hslot]⟩
  rw [bundleOk, hall, Bool.and_false]

theorem bundleOk_bad_format (hformat : bits b 16 4 ≠ 1) : bundleOk b = false := by
  simp [bundleOk, hformat]

theorem bundleOk_reserved_bit {j : Nat} (hj : 7 ≤ j ∧ j ≤ 15 ∨ 20 ≤ j ∧ j ≤ 63) (hbit : bit b j = true) :
    bundleOk b = false := by
  have hreserved : ¬ (bits b 16 4 = 1 ∧ bits b 7 9 = 0 ∧ bits b 20 44 = 0) := by
    rintro ⟨-, hlow, hhigh⟩
    rcases hj with ⟨hlo, hhi⟩ | ⟨hlo, hhi⟩
    · simp [bit_false_of_bits_zero hlow hlo (by omega)] at hbit
    · simp [bit_false_of_bits_zero hhigh hlo (by omega)] at hbit
  simp [bundleOk, hreserved]

end IllFormed

/-! ### What a slot command does with such a bundle (R237, R256) -/

section AtBundle

variable {s : State} {c b : Nat} {r : EncRun}

/-- Core c of the cluster that runs record r goes on and stands at bundle b, which is not well formed. -/
structure AtIllFormed (s : State) (c : Nat) (r : EncRun) (b : Nat) : Prop where
  run : tfind s.enc.runs (c / 8) = some r
  goes : ((s.core c).halted || (s.core c).atBar || s.coreIso c) = false
  bundle : (s.modelMem r.r.model).prog[(s.core c).pc]? = some b
  illFormed : bundleOk b = false

theorem runSlot_illFormed (h : AtIllFormed s c r b) (kind op : Nat) (body : SlotCtx → SlotRes) :
    s.runSlot c kind op body = s.raise (c / 8) [c] 1 := by
  simp only [State.runSlot, h.run, h.goes, h.bundle, h.illFormed, Bool.false_eq_true, if_false, Bool.not_false, if_true]

theorem slotCmd_illFormed (hs : Runs s) (h : AtIllFormed s c r b) (kind op : Nat) (body : SlotCtx → SlotRes) :
    s.slotCmd c kind op body = .next (s.keep (s.raise (c / 8) [c] 1)) := by
  rw [State.slotCmd, nodeEvt_runs hs, runSlot_illFormed h]

/-- No tile leaves through such a bundle. -/
theorem tileLeaves_illFormed (h : AtIllFormed s c r b) (kind op : Nat) : s.tileLeaves c kind op = false := by
  simp only [State.tileLeaves, h.run, h.bundle, h.illFormed, Bool.false_and]
  split <;> rfl

theorem tileCmd_illFormed (hs : Runs s) (h : AtIllFormed s c r b) (kind op : Nat) (residueOk : Bool)
    (body : SlotCtx → SlotRes) : s.tileCmd c kind op residueOk body = .next (s.keep (s.raise (c / 8) [c] 1)) := by
  have hstays : ¬ (s.tileLeaves c kind op && !residueOk) = true := by simp [tileLeaves_illFormed h]
  rw [State.tileCmd, nodeEvt_runs hs, if_neg hstays, runSlot_illFormed h]

theorem exec_nop_illFormed (hs : Runs s) (h : AtIllFormed s c r b) :
    exec (.nop c) s = .next (s.keep (s.raise (c / 8) [c] 1)) := by
  rw [exec_nop, execNop, nodeEvt_runs hs]
  simp only [h.run, h.bundle]
  cases hnext : nextSlot b (s.core c).slot with
  | some i => simp only [runSlot_illFormed h]
  | none => simp only [h.goes, h.illFormed, Bool.false_eq_true, if_false, Bool.not_false, if_true]

/-- The command of any slot raises ILLEGAL there: NOP and the two that a tile leaves through after their own checks, every
other one as a slot command. -/
theorem exec_slot_illFormed {i : Instr} (hs : Runs s) (hi : slotCore i = some c) (h : AtIllFormed s c r b) :
    exec i s = .next (s.keep (s.raise (c / 8) [c] 1)) := by
  cases i with
  | nop core =>
    cases hi
    exact exec_nop_illFormed hs h
  | vtrd core residueOk =>
    cases hi
    exact (exec_vtrd_tileCmd ..).trans (tileCmd_illFormed hs h ..)
  | tst core residueOk =>
    cases hi
    exact (exec_tst_tileCmd ..).trans (tileCmd_illFormed hs h ..)
  | _ => cases hi <;> exact slotCmd_illFormed hs h _ _ _

end AtBundle

/-- Settles O52: each of the five faults makes the bundle ill-formed, and the command of any slot finds it so before it looks
at the slot. -/
theorem illFormedBundlesAreIllegal : Obligations.IllFormedBundlesAreIllegal := by
  intro i c b r s hs hi hrun hgoes hbundle hfault
  have hformed : bundleOk b = false := by
    rcases hfault with hformat | ⟨j, hj, hbit⟩ | ⟨k, hk, hvalid, hbits⟩ | ⟨k, hk, hvalid, hop⟩ |
      ⟨k, fs, j, hk, hvalid, hop, hj, hbit, hstray⟩
    · exact bundleOk_bad_format hformat
    · exact bundleOk_reserved_bit hj hbit
    · exact bundleOk_bad_slot hk (slotOk_empty_slot hvalid hbits)
    · exact bundleOk_bad_slot hk (slotOk_reserved_op hvalid hop)
    · exact bundleOk_bad_slot hk (slotOk_stray_bit hvalid hop hj hbit hstray)
  exact exec_slot_illFormed hs hi ⟨hrun, hgoes, hbundle, hformed⟩

end Sys2Proof.Machine
end

/-! SUPPORT. Register fields and bytes of scratch: reading after writing (R239, R249, R461, R467). -/

section
namespace Sys2Proof.Machine

open Sys2Proof

/-! ### Bytes of scratch (R239, R249) -/

section Scratch

variable {mem : Tab Nat} {a x : Nat} {d : List Byte}

/-- A store of bytes is a store of the first and then of the others from the next address. -/
theorem storeBytes_cons (mem : Tab Nat) (a : Nat) (v : Byte) (d : List Byte) :
    storeBytes mem a (v :: d) = storeBytes (tset 0 mem a v.toNat) (a + 1) d := by
  simp only [storeBytes, List.zipIdx_cons', List.foldl_cons, List.foldl_map, Prod.map, id, Nat.add_zero, Nat.add_assoc,
    Nat.add_comm 1]

theorem tget_storeBytes_outside (h : x < a ∨ a + d.length ≤ x) : tget 0 (storeBytes mem a d) x = tget 0 mem x := by
  induction d generalizing mem a with
  | nil => rfl
  | cons v d ih =>
    rw [List.length_cons] at h
    rw [storeBytes_cons, ih (by omega), tget_tset_ne _ _ _ _ (by omega)]

theorem tabWf_storeBytes (h : tabWf 0 mem = true) : tabWf 0 (storeBytes mem a d) = true := by
  induction d generalizing mem a with
  | nil => exact h
  | cons v d ih =>
    rw [storeBytes_cons]
    exact ih (tabWf_tset 0 a v.toNat h)

theorem tabRising_of_tabWf {α : Type} [DecidableEq α] {e : α} {t : Tab α} (h : tabWf e t = true) :
    tabRising t = true := by
  rw [tabWf, Bool.and_eq_true] at h
  exact h.1

theorem tget_storeBytes_inside (h : tabWf 0 mem = true) {i : Nat} (hi : i < d.length) :
    tget 0 (storeBytes mem a d) (a + i) = d[i].toNat := by
  induction d generalizing mem a i with
  | nil => simp at hi
  | cons v d ih =>
    rw [storeBytes_cons]
    cases i with
    | zero =>
      calc tget 0 (storeBytes (tset 0 mem a v.toNat) (a + 1) d) a
        _ = tget 0 (tset 0 mem a v.toNat) a := tget_storeBytes_outside (.inl (Nat.lt_succ_self a))
        _ = v.toNat := tget_tset_self 0 a v.toNat (tabRising_of_tabWf h)
    | succ i =>
      have haddr : a + (i + 1) = a + 1 + i := by omega
      rw [haddr]
      exact ih (tabWf_tset 0 a v.toNat h) (Nat.lt_of_succ_lt_succ hi)

/-- Scratch reads back the bytes stored. -/
theorem NCore.load_storeBytes {n : NCore} (h : tabWf 0 n.mem = true) :
    ({ n with mem := storeBytes n.mem a d } : NCore).load a d.length = d := by
  refine List.ext_getElem (by simp [NCore.load]) fun i hi hd => ?_
  simp [NCore.load, tget_storeBytes_inside h hd]

end Scratch

/-- Settles O58: a register file and a scratch are canonical tables, and a store of bytes is one write after another. -/
theorem registersAndScratchReadBack : Obligations.RegistersAndScratchReadBack :=
  ⟨fun s f v hregs => ⟨s.get_set_self f v hregs, fun _ hplace => s.get_set_ne v hplace, s.regs_rising f v hregs, rfl⟩,
    fun _ _ _ hmem => ⟨NCore.load_storeBytes hmem, fun _ hout => tget_storeBytes_outside hout, tabWf_storeBytes hmem⟩⟩

end Sys2Proof.Machine
end

/-! SUPPORT. What a freeze holds, and the only events that reach it: those of power and reset (R402, R404, R405, R442 to R446). -/

section
namespace Sys2Proof.Machine

open Sys2Proof

/-! ### The power of the node and the requests it holds -/

/-- What no engine touches: whether the node is awake, and the requests it holds. -/
def State.powerHeld (s : State) : Bool × List Instr := (s.awake, s.held)

@[simp] theorem State.powerHeld_set (s : State) (f : Fld) (v : Nat) : (s.set f v).powerHeld = s.powerHeld := rfl
@[simp] theorem State.powerHeld_setB (s : State) (f : Fld) (b : Bool) : (s.setB f b).powerHeld = s.powerHeld := rfl
@[simp] theorem State.powerHeld_emit (s : State) (o : Output) : (s.emit o).powerHeld = s.powerHeld := rfl
@[simp] theorem State.powerHeld_modStk (s : State) (f : StackSt → StackSt) : (s.modStk f).powerHeld = s.powerHeld := rfl
@[simp] theorem State.powerHeld_modGran (s : State) (f : GranSt → GranSt) : (s.modGran f).powerHeld = s.powerHeld := rfl
@[simp] theorem State.powerHeld_modSrch (s : State) (f : SearchSt → SearchSt) : (s.modSrch f).powerHeld = s.powerHeld := rfl

/-- What each step of a fold leaves alone, the fold leaves alone. -/
theorem State.powerHeld_foldl {α : Type} {f : State → α → State} (h : ∀ t x, (f t x).powerHeld = t.powerHeld) (l : List α)
    (s : State) : (l.foldl f s).powerHeld = s.powerHeld := by
  induction l generalizing s with
  | nil => rfl
  | cons x l ih => exact (ih (f s x)).trans (h s x)

@[simp] theorem State.powerHeld_raiseVec (s : State) (v : Nat) : (s.raiseVec v).powerHeld = s.powerHeld := by
  unfold State.raiseVec
  split_ifs <;> rfl

@[simp] theorem State.powerHeld_event (s : State) (p k : Nat) : (s.event p k).powerHeld = s.powerHeld := by
  simp only [State.event, State.raiseEvt]
  split_ifs <;> simp only [State.powerHeld_raiseVec, State.powerHeld_setB]

@[simp] theorem State.powerHeld_faultEvent (s : State) : s.faultEvent.powerHeld = s.powerHeld :=
  State.powerHeld_foldl (fun t p => t.powerHeld_event p 9) partitions s

@[simp] theorem State.powerHeld_showHot (s : State) (k : Nat) (hot : Bool) : (s.showHot k hot).powerHeld = s.powerHeld := rfl

@[simp] theorem State.powerHeld_beginFlush (s : State) : s.beginFlush.powerHeld = s.powerHeld := by
  simp only [State.beginFlush]
  split_ifs <;> rfl

/-- A thermal reading can begin a flush, which is no reset (R442). -/
@[simp] theorem State.powerHeld_thermal (s : State) : s.thermal.powerHeld = s.powerHeld := by
  simp only [State.thermal, State.thermalTrip, State.thermPin]
  split_ifs <;> simp only [State.powerHeld_setB, State.powerHeld_beginFlush]

@[simp] theorem State.powerHeld_endFlush (s : State) : s.endFlush.powerHeld = s.powerHeld := rfl

/-! ### The events of power and reset -/

/-- What an event of power or reset makes of them: it drops every request held, or it keeps them, and then it can only
wake the node. -/
def ResetOrKept (s t : State) : Prop := t.held = [] ∨ t.held = s.held ∧ (t.awake = s.awake ∨ t.awake = true)

section PowerAndReset

variable {s t : State}

theorem ResetOrKept.of_powerHeld (h : t.powerHeld = s.powerHeld) : ResetOrKept s t := by
  obtain ⟨hawake, hheld⟩ := Prod.mk.injEq .. ▸ h
  exact .inr ⟨hheld, .inl hawake⟩

theorem ResetOrKept.congr {u : State} (h : ResetOrKept s u) (hu : t.powerHeld = u.powerHeld) : ResetOrKept s t := by
  obtain ⟨hawake, hheld⟩ := Prod.mk.injEq .. ▸ hu
  rw [ResetOrKept, hawake, hheld]
  exact h

/-- A reset starts from the reset state, which holds nothing (R446). -/
theorem State.powerHeld_doReset (s : State) : s.doReset.powerHeld = (false, []) :=
  calc s.doReset.powerHeld = _ := State.powerHeld_foldl (fun t f => t.powerHeld_set f (s.get f)) _ _
    _ = (false, []) := rfl

theorem ResetOrKept.of_drop {b : Bool} (h : t.powerHeld = (b, [])) : ResetOrKept s t := .inl (congrArg Prod.snd h)

/-- A release out of reset can wake the node and touches no request (R443). -/
theorem ResetOrKept.tryRelease (h : ResetOrKept s t) : ResetOrKept s t.tryRelease := by
  unfold State.tryRelease
  split
  · split_ifs
    · exact h.imp_right fun ⟨hheld, _⟩ => ⟨hheld, .inr rfl⟩
    · exact h
  · exact h

theorem ResetOrKept.of_resetEvt {f : State → State} (hf : ResetOrKept s (f s)) (h : resetEvt s f = .next t) :
    ResetOrKept s t := by
  cases h
  exact hf

theorem resetNFall_resetOrKept (h : execResetNFall s = .next t) : ResetOrKept s t := by
  refine .of_resetEvt ?_ h
  dsimp only
  split_ifs
  · exact .of_powerHeld rfl
  · exact .of_drop (State.powerHeld_doReset _)
  · exact .of_powerHeld rfl

theorem resetNRise_resetOrKept {g1 sel : Bool} (h : execResetNRise g1 sel s = .next t) : ResetOrKept s t := by
  refine .of_resetEvt ?_ h
  dsimp only
  split_ifs
  · exact .of_powerHeld rfl
  · exact .tryRelease (.of_powerHeld rfl)

theorem flushDone_resetOrKept (h : execFlushDone s = .next t) : ResetOrKept s t := by
  refine .of_resetEvt ?_ h
  dsimp only
  split_ifs
  · exact .tryRelease (.of_drop (State.powerHeld_doReset _))
  · exact .of_powerHeld s.powerHeld_endFlush
  · exact .of_powerHeld rfl

theorem railsOff_resetOrKept (h : execRailsOff s = .next t) : ResetOrKept s t := by
  have hreset : ResetOrKept s (if s.awake then s.doReset else s) := by
    split_ifs
    · exact .of_drop s.powerHeld_doReset
    · exact .of_powerHeld rfl
  refine .of_resetEvt ?_ h
  exact hreset.congr rfl

theorem railsGood_resetOrKept (h : execRailsGood s = .next t) : ResetOrKept s t := by
  refine .of_resetEvt ?_ h
  exact .tryRelease (.of_powerHeld rfl)

theorem dieThermalReading_resetOrKept {temp : Nat} (h : execDieThermalReading temp s = .next t) : ResetOrKept s t := by
  refine .of_resetEvt ?_ h
  dsimp only
  split_ifs
  · exact .of_powerHeld (State.powerHeld_thermal _)
  · exact .tryRelease (.of_powerHeld rfl)

theorem stackThermalReading_resetOrKept {stack : Nat} {dies : List Nat}
    (h : execStackThermalReading stack dies s = .next t) : ResetOrKept s t := by
  refine .of_resetEvt ?_ h
  by_cases hbad : 8 ≤ stack ∨ dies = []
  · exact .of_powerHeld (congrArg State.powerHeld (if_pos hbad))
  by_cases hawake : s.awake = true
  · refine .of_powerHeld ?_
    simp only [if_neg hbad, hawake, Bool.not_true, Bool.false_eq_true, if_false, State.powerHeld_thermal,
      State.powerHeld_setB, apply_ite State.powerHeld, State.powerHeld_faultEvent, State.powerHeld_modStk,
      State.powerHeld_showHot, State.powerHeld_set, ite_self]
  · simp only [if_neg hbad, hawake, Bool.not_false, if_true]
    exact .tryRelease (.of_powerHeld rfl)

end PowerAndReset


/-! ### What each kind of command makes of a node (R402, R403) -/

section Kinds

variable {s t : State} {c : Instr}

theorem exec_host (hc : actsWhen c = .host) (s : State) : ∃ f, exec c s = hostCmd s c f := by
  rcases exec_shape c s with ⟨_, h⟩ | ⟨h, _⟩ | ⟨h, _⟩ | ⟨h, _⟩
  · exact h
  all_goals rw [hc] at h; nomatch h

theorem exec_engine (hc : actsWhen c = .engine) (s : State) : ∃ f, exec c s = nodeEvt s f := by
  rcases exec_shape c s with ⟨h, _⟩ | ⟨_, h⟩ | ⟨h, _⟩ | ⟨h, _⟩
  · rw [hc] at h; nomatch h
  · exact h
  all_goals rw [hc] at h; nomatch h

theorem exec_host_frozen (hc : actsWhen c = .host) (hawake : s.awake = true) (hfrozen : s.frozen = true) :
    exec c s = .next { s with held := s.held ++ [c] } := by
  obtain ⟨f, hf⟩ := exec_host hc s
  rw [hf, hostCmd_frozen hawake hfrozen]

theorem exec_engine_frozen (hc : actsWhen c = .engine) (hfrozen : s.frozen = true) : exec c s = .next s := by
  obtain ⟨f, hf⟩ := exec_engine hc s
  rw [hf, nodeEvt_frozen hfrozen]

theorem exec_asleep (hc : actsWhen c = .host ∨ actsWhen c = .engine) (hasleep : s.awake = false) :
    exec c s = .next s := by
  rcases hc with hc | hc
  · obtain ⟨f, hf⟩ := exec_host hc s
    rw [hf, hostCmd_asleep hasleep]
  · obtain ⟨f, hf⟩ := exec_engine hc s
    rw [hf, nodeEvt_asleep hasleep]

/-- Everything a host's request can do, with the reason why it is held. -/
theorem exec_host_cases (hc : actsWhen c = .host) (h : exec c s = .next t) :
    (t.awake = s.awake ∧ t.held = s.held) ∨
    (s.awake = true ∧ (s.frozen = true ∨ s.held ≠ []) ∧ t = { s with held := s.held ++ [c] }) := by
  obtain ⟨f, hf⟩ := exec_host hc s
  rw [hf] at h
  by_cases htakes : Takes s
  · rw [hostCmd_takes htakes] at h
    cases h
    exact .inl ⟨rfl, rfl⟩
  · rcases hostCmd_cases h with rfl | ⟨hawake, rfl⟩ | ⟨hr, -⟩
    · exact .inl ⟨rfl, rfl⟩
    · refine .inr ⟨hawake, ?_, rfl⟩
      by_contra! hfree
      exact htakes ⟨⟨hawake, Bool.eq_false_of_not_eq_true hfree.1⟩, hfree.2⟩
    · exact absurd hr htakes

/-- A command that is neither a request nor an event of power or reset changes neither the node's power nor what it holds. -/
theorem exec_powerHeld (hhost : actsWhen c ≠ .host) (hpower : actsWhen c ≠ .power) (h : exec c s = .next t) :
    t.powerHeld = s.powerHeld := by
  rcases exec_shape c s with ⟨hc, _⟩ | ⟨-, f, hf⟩ | ⟨-, f, hf⟩ | ⟨hc, _⟩
  · exact absurd hc hhost
  · rw [hf] at h
    rcases nodeEvt_cases h with rfl | ⟨-, rfl⟩ <;> rfl
  · rw [hf, anyEvt_next] at h
    cases h
    rfl
  · exact absurd hc hpower

theorem exec_power_resetOrKept (hc : actsWhen c = .power) (h : exec c s = .next t) : ResetOrKept s t := by
  cases c with
  | stackThermalReading => exact stackThermalReading_resetOrKept h
  | resetNFall => exact resetNFall_resetOrKept h
  | resetNRise => exact resetNRise_resetOrKept h
  | flushDone => exact flushDone_resetOrKept h
  | railsOff => exact railsOff_resetOrKept h
  | dieThermalReading => exact dieThermalReading_resetOrKept h
  | railsGood => exact railsGood_resetOrKept h
  | _ => cases hc

/-- Every command answers a next state and leaves the queue alone. -/
theorem exec_next (c : Instr) (s : State) : ∃ t, exec c s = .next t ∧ t.pending = s.pending := by
  rcases exec_shape c s with ⟨-, f, hf⟩ | ⟨-, f, hf⟩ | ⟨-, f, hf⟩ | ⟨-, f, hf⟩ <;> rw [hf]
  · unfold hostCmd
    split_ifs <;> exact ⟨_, rfl, rfl⟩
  · unfold nodeEvt
    split_ifs <;> exact ⟨_, rfl, rfl⟩
  · exact ⟨_, rfl, rfl⟩
  · exact ⟨_, rfl, rfl⟩

theorem serveHeld_next (s : State) : ∃ t, serveHeld s = .next t := by
  cases hfrozen : s.frozen with
  | true => exact ⟨s, serveHeld_frozen hfrozen⟩
  | false =>
    cases hheld : s.held with
    | nil => exact ⟨s, serveHeld_none hheld⟩
    | cons c rest =>
      obtain ⟨t, ht, -⟩ := exec_next c { s with held := [] }
      exact ⟨_, serveHeld_some hfrozen hheld ht⟩

end Kinds

/-- Settles O43: a request and an engine's event are their guards, and a guard lets neither through. That an event whose
conditions fail leaves the state as it is, is the model's choice (assumption 1). -/
theorem frozenOrResetNode : Obligations.FrozenOrResetNode :=
  ⟨fun _ _ hawake hfrozen => ⟨fun hc => exec_host_frozen hc hawake hfrozen, fun hc => exec_engine_frozen hc hfrozen⟩,
    fun _ _ hasleep hc => exec_asleep hc hasleep⟩

/-- Settles O42: every guard answers a next state with the queue it was given, and a step runs a command or serves a held
request. -/
theorem everyCommandCompletes : Obligations.EveryCommandCompletes := by
  refine ⟨exec_next, fun s => ?_⟩
  cases hq : s.pending with
  | nil => exact step_empty hq ▸ serveHeld_next s
  | cons c rest =>
    obtain ⟨t, ht, -⟩ := exec_next c { s with pending := rest }
    exact ⟨t, (step_front hq).trans ht⟩

/-- Settles O44: by the kind of the command. That a request waits behind those still held is the model's choice
(assumption 34). -/
theorem onlyPowerEventsChangeReset : Obligations.OnlyPowerEventsChangeReset := by
  intro c s t h
  by_cases hpower : actsWhen c = .power
  · refine ⟨fun hne => absurd hpower hne, ?_⟩
    rcases exec_power_resetOrKept hpower h with hdropped | ⟨hkept, -⟩
    · exact .inr (.inl ⟨hpower, hdropped⟩)
    · exact .inl hkept
  by_cases hhost : actsWhen c = .host
  · rcases exec_host_cases hhost h with ⟨hawake, hheld⟩ | ⟨hawake, hwaits, rfl⟩
    · exact ⟨fun _ => hawake, .inl hheld⟩
    · exact ⟨fun _ => rfl, .inr (.inr ⟨hhost, hawake, hwaits, rfl⟩)⟩
  · obtain ⟨hawake, hheld⟩ := Prod.mk.injEq .. ▸ exec_powerHeld hhost hpower h
    exact ⟨fun _ => hawake, .inl hheld⟩

/-! ### The invariant of held requests -/

/-- Every command keeps the invariant of held requests. -/
theorem exec_keeps_heldInv {c : Instr} {s t : State} (hinv : HeldInv s) (h : exec c s = .next t) : HeldInv t := by
  obtain ⟨hrequests, hasleep⟩ := hinv
  obtain ⟨hawake, hheld⟩ := onlyPowerEventsChangeReset c s t h
  by_cases hpower : actsWhen c = .power
  · rcases exec_power_resetOrKept hpower h with hdropped | ⟨hkept, hwakes⟩
    · exact ⟨by simp [hdropped], fun _ => hdropped⟩
    · refine ⟨hkept ▸ hrequests, fun hdown => hkept.trans (hasleep ?_)⟩
      rcases hwakes with hsame | hup
      · exact hsame ▸ hdown
      · simp [hup] at hdown
  · rcases hheld with hkept | ⟨hreset, -⟩ | ⟨hhost, hup, -, hjoined⟩
    · exact ⟨hkept ▸ hrequests, fun hdown => hkept.trans (hasleep (hawake hpower ▸ hdown))⟩
    · exact absurd hreset hpower
    · refine ⟨fun x hx => ?_, fun hdown => ?_⟩
      · rw [hjoined, List.mem_append, List.mem_singleton] at hx
        rcases hx with hx | rfl
        · exact hrequests x hx
        · exact hhost
      · rw [hawake hpower, hup] at hdown
        nomatch hdown

/-- An awake node that is not frozen and holds nothing serves a request at once: it holds nothing afterwards. -/
theorem exec_host_served {c : Instr} {s t : State} (hc : actsWhen c = .host) (hfrozen : s.frozen = false)
    (hheld : s.held = []) (h : exec c s = .next t) : t.awake = s.awake ∧ t.held = [] := by
  rcases exec_host_cases hc h with ⟨hawake, hkept⟩ | ⟨-, hfroze | hheld', -⟩
  · exact ⟨hawake, hkept.trans hheld⟩
  · rw [hfrozen] at hfroze
    nomatch hfroze
  · exact absurd hheld hheld'

/-- Serving the oldest held request keeps the invariant: the rest wait on, and the node stays awake. -/
theorem serveHeld_keeps_heldInv {s t : State} (hinv : HeldInv s) (h : serveHeld s = .next t) : HeldInv t := by
  obtain ⟨hrequests, hasleep⟩ := hinv
  cases hfrozen : s.frozen with
  | true =>
    rw [serveHeld_frozen hfrozen] at h
    cases h
    exact ⟨hrequests, hasleep⟩
  | false =>
    cases hheld : s.held with
    | nil =>
      rw [serveHeld_none hheld] at h
      cases h
      exact ⟨hrequests, hasleep⟩
    | cons c rest =>
      have hhost : ∀ x ∈ c :: rest, actsWhen x = .host := hheld ▸ hrequests
      have hup : s.awake ≠ false := fun hdown => by simp [hasleep hdown] at hheld
      obtain ⟨u, hu, -⟩ := exec_next c { s with held := [] }
      obtain ⟨hawake, hserved⟩ := exec_host_served (s := { s with held := [] }) (hhost c List.mem_cons_self) hfrozen rfl hu
      rw [serveHeld_some hfrozen hheld hu, hserved, List.append_nil] at h
      cases h
      exact ⟨fun x hx => hhost x (List.mem_cons_of_mem c hx), fun hdown => absurd (hawake.symm.trans hdown) hup⟩

/-- Settles O45: a step runs a command or serves a held request, and both keep the invariant. -/
theorem heldRequestsInvariant : Obligations.HeldRequestsInvariant := by
  intro s t hinv h
  cases hq : s.pending with
  | nil => exact serveHeld_keeps_heldInv hinv (step_empty hq ▸ h)
  | cons c rest => exact exec_keeps_heldInv (s := { s with pending := rest }) hinv (step_front hq ▸ h)

/-! ### Arrival order -/

/-- A frozen node takes a queue of requests one by one, each behind those held before. -/
theorem steps_frozen_holds {cs : List Instr} {s : State} (hawake : s.awake = true) (hfrozen : s.frozen = true)
    (hq : s.pending = cs) (hcs : ∀ c ∈ cs, actsWhen c = .host) :
    steps cs.length s = .next { s with pending := [], held := s.held ++ cs } := by
  induction cs generalizing s with
  | nil => rw [List.length_nil, steps, List.append_nil, ← hq]
  | cons c cs ih =>
    have hstep : step s = .next { s with pending := cs, held := s.held ++ [c] } :=
      (step_front hq).trans (exec_host_frozen (hcs c List.mem_cons_self) hawake hfrozen)
    have hrest := ih (s := { s with pending := cs, held := s.held ++ [c] }) hawake hfrozen rfl
      fun x hx => hcs x (List.mem_cons_of_mem c hx)
    simp only [List.length_cons, steps, hstep, hrest, List.append_assoc, List.singleton_append]

/-- Settles O46: a freeze holds a queue of requests by induction on the queue, and a resumed node serves the oldest of them as
one that holds nothing. Serving held requests at steps with an empty queue is the model's choice (assumption 34). -/
theorem freezeKeepsArrivalOrder : Obligations.FreezeKeepsArrivalOrder := by
  refine ⟨fun cs s hawake hfrozen hq hcs => steps_frozen_holds hawake hfrozen hq hcs,
    fun c rest s t hawake hfrozen hq hheld hc ht => ?_⟩
  obtain ⟨-, hserved⟩ := exec_host_served (s := { s with held := [] }) hc hfrozen rfl ht
  refine ⟨hserved, ?_⟩
  rw [step_empty hq, serveHeld_some hfrozen hheld ht, hserved, List.append_nil]

/-- Settles O40: a step takes the front of the queue, and without one a frozen node and one that holds nothing idle. -/
theorem stepRunsFrontCommand : Obligations.StepRunsFrontCommand := by
  refine ⟨fun c rest s hq => step_front hq, fun s hq hidle => ?_⟩
  rw [step_empty hq]
  rcases hidle with hfrozen | hheld
  · exact serveHeld_frozen hfrozen
  · exact serveHeld_none hheld

/-- Settles O41: the reset state lists no register, so every field reads its default, and every queue is empty. -/
theorem resetState : Obligations.ResetState :=
  ⟨fun _ => rfl, ⟨rfl, rfl, rfl⟩, rfl, rfl, rfl, by simp [State.reset], fun _ => rfl⟩

end Sys2Proof.Machine
end

/-! SUPPORT. Events, vectors and tallies of a partition (R334, R381, R399, R400, R402). -/

section
namespace Sys2Proof.Machine

open Sys2Proof

/-! ### Events and vectors (R334, R381) -/

section Events

variable {s : State} {p k v : Nat}

theorem State.event_again (h : s.flag (Reg.PART_EVT_STATUS p k) = true) : s.event p k = s := if_pos (.inr h)

/-- A new event sets its bit, and raises the partition's vector where its events are enabled. -/
theorem State.event_new (hp : p ≠ 0) (h : s.flag (Reg.PART_EVT_STATUS p k) = false) :
    s.event p k = if s.flag (Reg.PART_EVT_CFG_ENABLE p) then (s.setB (Reg.PART_EVT_STATUS p k) true).raiseEvt p
      else s.setB (Reg.PART_EVT_STATUS p k) true :=
  if_neg (by simp [hp, h])

theorem State.raiseVec_unused (h : s.get (Reg.CXP_VEC_PARTITION v) = 0) : s.raiseVec v = s := if_pos h

theorem State.raiseVec_frozen (h : s.get (Reg.CXP_VEC_PARTITION v) ≠ 0) (hfrozen : s.frozen = true) :
    s.raiseVec v = { s with host := { s.host with msixHeld := s.host.msixHeld ++ [v] } } :=
  (if_neg h).trans (if_pos hfrozen)

theorem State.raiseVec_running (h : s.get (Reg.CXP_VEC_PARTITION v) ≠ 0) (hruns : s.frozen = false) :
    s.raiseVec v = if s.flag (Reg.CXP_MSIX_MASK v) then s.set Reg.CXP_PBA (s.get Reg.CXP_PBA ||| 2 ^ v)
      else s.emit (.msix v (s.get (Reg.CXP_VEC_PID v)) (4 * s.get (Reg.CXP_MSIX_ADDR v)) (s.get (Reg.CXP_MSIX_DATA v))) :=
  (if_neg h).trans (if_neg (by simp [hruns]))

end Events

/-- Settles O56: an event's and a vector's branches, one by one. -/
theorem eventsRaiseOnce : Obligations.EventsRaiseOnce := by
  refine ⟨fun p k s h => State.event_again h, fun p k v u s hp h hu hv => ?_, fun v s h => State.raiseVec_unused h,
    fun v s h => ⟨fun hfrozen => State.raiseVec_frozen h hfrozen, fun hruns hmask => ?_, fun hruns hmask => ?_⟩⟩
  · rw [State.event_new hp h, ← hu, ite_and, hv]
    rfl
  · rw [State.raiseVec_running h hruns, if_pos hmask]
  · rw [State.raiseVec_running h hruns, if_neg (by simp [hmask])]

/-! ### Tallies (R399, R400) -/

section Tallies

variable {s : State} {p i n : Nat}

theorem State.stick_count_below (h : s.get (Reg.TALLY_PART_COUNT p i) + n < 2 ^ 48 - 1) :
    s.stick (Reg.TALLY_PART_COUNT p i) n =
      s.set (Reg.TALLY_PART_COUNT p i) (s.get (Reg.TALLY_PART_COUNT p i) + n) :=
  congrArg (s.set _) (Nat.min_eq_left (Nat.le_of_lt h))

theorem State.stick_count_full (h : 2 ^ 48 - 1 ≤ s.get (Reg.TALLY_PART_COUNT p i) + n) :
    s.stick (Reg.TALLY_PART_COUNT p i) n = s.set (Reg.TALLY_PART_COUNT p i) (2 ^ 48 - 1) :=
  congrArg (s.set _) (Nat.min_eq_right h)

/-- A count that is not 0 reads back, in any registers. -/
theorem State.get_set_count {c : Nat} (hpos : 0 < c) (hc : c < 2 ^ 48) :
    (s.set (Reg.TALLY_PART_COUNT p i) c).get (Reg.TALLY_PART_COUNT p i) = c := by
  have hmod : c % 2 ^ (Reg.TALLY_PART_COUNT p i).w = c := Nat.mod_eq_of_lt hc
  have hlisted : c % 2 ^ (Reg.TALLY_PART_COUNT p i).w ≠ (Reg.TALLY_PART_COUNT p i).dflt := by
    rw [hmod]
    exact Nat.ne_of_gt hpos
  rw [s.get_set_listed _ hlisted, hmod]

theorem State.count_below (hn : 0 < n) (h : s.get (Reg.TALLY_PART_COUNT p i) + n < 2 ^ 48 - 1) :
    s.count p i n = s.set (Reg.TALLY_PART_COUNT p i) (s.get (Reg.TALLY_PART_COUNT p i) + n) := by
  have hread : (s.set (Reg.TALLY_PART_COUNT p i) (s.get (Reg.TALLY_PART_COUNT p i) + n)).get (Reg.TALLY_PART_COUNT p i) ≠
      2 ^ 48 - 1 := by
    rw [State.get_set_count (Nat.add_pos_right _ hn) (by omega)]
    exact Nat.ne_of_lt h
  simp only [State.count, State.stick_count_below h]
  exact if_neg fun hfull => hread hfull.1

/-- A tally that reaches all-ones sticks there, and sets OVF and raises its event once. -/
theorem State.count_full (h : 2 ^ 48 - 1 ≤ s.get (Reg.TALLY_PART_COUNT p i) + n) :
    s.count p i n = if s.flag (Reg.TALLY_PART_OVF p i) then s.set (Reg.TALLY_PART_COUNT p i) (2 ^ 48 - 1)
      else ((s.set (Reg.TALLY_PART_COUNT p i) (2 ^ 48 - 1)).setB (Reg.TALLY_PART_OVF p i) true).tallyEvent p := by
  have hread : (s.set (Reg.TALLY_PART_COUNT p i) (2 ^ 48 - 1)).get (Reg.TALLY_PART_COUNT p i) = 2 ^ 48 - 1 :=
    State.get_set_count (by decide) (by decide)
  simp only [State.count, State.stick_count_full h, hread, true_and, ite_not]

theorem exec_tallyClearWrite_bound {h : HostReq} (ht : Takes s) (hb : Bound s h p) (hi : i < 512) (value : Nat) :
    exec (.tallyClearWrite h p i value) s = .next (s.keep (s.clearTally p i value)) := by
  rw [exec_tallyClearWrite, execTallyClearWrite, hostCmd_takes ht, ownPage_bound hb, if_neg (Nat.not_le.mpr hi)]

theorem State.clearTally_eq (value : Nat) : s.clearTally p i value =
    (((if bits value 48 15 ≠ 0 then s.tallyP .CXP_RSVD_WRITES p else s).set (Reg.TALLY_PART_COUNT p i) 0).set
      (Reg.TALLY_PART_OVF p i) 0) := by
  simp only [State.clearTally, State.when, decide_eq_true_eq]

end Tallies

/-- Settles O55: a count below all-ones, one that reaches it, and the write that clears it. -/
theorem talliesStickAtAllOnes : Obligations.TalliesStickAtAllOnes := by
  refine ⟨fun p i n s hn => ⟨State.count_below hn, fun hfull hovf => ?_, fun hfull hovf u hu => ?_⟩,
    fun h p i value u s ht hb hi hu => ?_⟩
  · rw [State.count_full hfull, if_pos hovf]
  · rw [State.count_full hfull, if_neg (by simp [hovf]), ← hu]
    rfl
  · rw [exec_tallyClearWrite_bound ht hb hi, State.clearTally_eq, hu]

end Sys2Proof.Machine
end

/-! SUPPORT. One sample of the power limiter (R439, R442). -/

section
namespace Sys2Proof.Machine

open Sys2Proof

/-- A request to save power (R442): the die at 105 °C, or a stack with its scan rows halved. -/
def State.saveRequest (s : State) : Bool :=
  decide (105 ≤ s.get Reg.NODE_PWR_STATUS_DIE_C) || allStacks.any (fun k => s.flag (Reg.STACK_TEMP_SCAN_HALVED k))

/-- The voltage after a sample, in mV (R439). -/
def nextVcore (avg cap die top v pct : Nat) (req : Bool) : Nat :=
  if cap < avg ∨ req = true then max 650 (v - 5)
  else if 100 * avg < 97 * cap ∧ die < 103 ∧ pct = 100 then min top (v + 5) else min top v

/-- The scan rate after a sample, in percent (R439); `floor` says that a lower one would leave too few rows. -/
def nextScanPct (avg cap die v pct : Nat) (req floor : Bool) : Nat :=
  if cap < avg ∧ v ≤ 650 then (if floor then pct else pct - 5)
  else if avg ≤ cap ∧ req = false ∧ 100 * avg < 97 * cap ∧ die < 103 then min 100 (pct + 5) else pct

theorem State.limiter_vcore (s : State) (avg : Nat) : (s.limiter avg).pwr.vcore =
    nextVcore avg (s.get Reg.NODE_PWR_CFG_CAP_W) (s.get Reg.NODE_PWR_STATUS_DIE_C) (10 * s.get Reg.NODE_PWR_CFG_VMAX_10MV)
      s.pwr.vcore s.pwr.scanPct s.saveRequest := by
  simp [State.limiter, nextVcore, State.saveRequest, State.modPwr]

theorem State.limiter_scanPct (s : State) (avg : Nat) : (s.limiter avg).pwr.scanPct =
    nextScanPct avg (s.get Reg.NODE_PWR_CFG_CAP_W) (s.get Reg.NODE_PWR_STATUS_DIE_C) s.pwr.vcore s.pwr.scanPct
      s.saveRequest (s.scanFloor s.pwr.scanPct) := by
  simp [State.limiter, nextScanPct, State.saveRequest, State.modPwr, and_assoc]

/-- A sample moves the voltage and the scan rate and shows them; nothing else changes. -/
theorem State.limiter_shows {s t : State} {avg cap top : Nat} (ht : t = s.limiter avg)
    (hcap : cap = s.get Reg.NODE_PWR_CFG_CAP_W) (htop : top = 10 * s.get Reg.NODE_PWR_CFG_VMAX_10MV)
    (hfloor : 650 ≤ s.pwr.vcore) :
    t = ((((s.modPwr fun p => { p with vcore := t.pwr.vcore, scanPct := t.pwr.scanPct }).setB Reg.NODE_PWR_STATUS_CAP_UNMET
      (decide (cap < avg ∧ s.pwr.vcore = 650) && s.scanFloor s.pwr.scanPct)).setB Reg.NODE_PWR_STATUS_LIMITING
      (decide (t.pwr.vcore < top ∨ t.pwr.scanPct < 100))).set Reg.NODE_PWR_STATUS_VCORE_10MV (t.pwr.vcore / 10)).set
      Reg.NODE_PWR_STATUS_SCAN_PCT t.pwr.scanPct := by
  have hlow : s.pwr.vcore = 650 ↔ s.pwr.vcore ≤ 650 := by omega
  subst ht hcap htop
  simp only [hlow, Bool.decide_and]
  rfl

section Bounds

variable {avg cap die top v pct : Nat} {req floor : Bool}

theorem nextVcore_bounds (hlow : 650 ≤ v) (hhigh : v ≤ top) :
    650 ≤ nextVcore avg cap die top v pct req ∧ nextVcore avg cap die top v pct req ≤ top := by
  unfold nextVcore
  split_ifs <;> omega

theorem nextVcore_lowers (h : cap < avg ∨ req = true) : nextVcore avg cap die top v pct req = max 650 (v - 5) := if_pos h

/-- With room below the cap the voltage rises once the scan rate is full. -/
theorem nextVcore_room (hcap : avg ≤ cap) (hreq : req = false) (hroom : 100 * avg < 97 * cap) (hdie : die < 103) :
    nextVcore avg cap die top v pct req = if pct = 100 then min top (v + 5) else min top v := by
  have hquiet : ¬ (cap < avg ∨ req = true) := by simp [hcap, hreq]
  simp only [nextVcore, if_neg hquiet, hroom, hdie, true_and]

theorem nextScanPct_room (hcap : avg ≤ cap) (hreq : req = false) (hroom : 100 * avg < 97 * cap) (hdie : die < 103) :
    nextScanPct avg cap die v pct req floor = min 100 (pct + 5) :=
  (if_neg fun h => absurd hcap (Nat.not_le.mpr h.1)).trans (if_pos ⟨hcap, hreq, hroom, hdie⟩)

/-- The scan rate falls only above the cap at the voltage's floor, and not below its own. -/
theorem nextScanPct_falls (hlow : 650 ≤ v) (hpct : pct ≤ 100) (h : nextScanPct avg cap die v pct req floor < pct) :
    cap < avg ∧ v = 650 ∧ nextScanPct avg cap die v pct req floor = pct - 5 ∧ floor = false := by
  unfold nextScanPct at h ⊢
  by_cases hunmet : cap < avg ∧ v ≤ 650
  · simp only [if_pos hunmet] at h ⊢
    cases floor with
    | true => exact absurd h (Nat.lt_irrefl pct)
    | false => exact ⟨hunmet.1, Nat.le_antisymm hunmet.2 hlow, rfl, rfl⟩
  · rw [if_neg hunmet] at h
    split_ifs at h <;> omega

theorem nextScanPct_le : nextScanPct avg cap die v pct req floor ≤ pct + 5 := by
  unfold nextScanPct
  split_ifs <;> omega

theorem next_at_both_floors (habove : cap < avg) :
    nextVcore avg cap die top 650 pct req = 650 ∧ nextScanPct avg cap die 650 pct req true = pct :=
  ⟨nextVcore_lowers (.inl habove), if_pos ⟨habove, Nat.le_refl 650⟩⟩

end Bounds

/-- Settles O60: what a sample makes of the voltage and the scan rate, case by case, and what it shows of them. -/
theorem limiterKeepsItsBounds : Obligations.LimiterKeepsItsBounds := by
  intro avg cap die top req s t ht hcap hdie htop hreq hlow hhigh hpct
  have hsaves : req = s.saveRequest := by rw [hreq, hdie, State.saveRequest]
  have hvcore : t.pwr.vcore = nextVcore avg cap die top s.pwr.vcore s.pwr.scanPct req := by
    rw [ht, hcap, hdie, htop, hsaves, s.limiter_vcore]
  have hscan : t.pwr.scanPct = nextScanPct avg cap die s.pwr.vcore s.pwr.scanPct req (s.scanFloor s.pwr.scanPct) := by
    rw [ht, hcap, hdie, hsaves, s.limiter_scanPct]
  refine ⟨?_, fun hsave => ?_, fun hbelow hquiet hroom hcool hpart => ?_, fun hbelow hquiet hroom hcool hfull => ?_,
    fun hfalls => ?_, ?_, fun habove hv hfloor => ?_, State.limiter_shows ht hcap htop hlow⟩
  · rw [hvcore]
    exact nextVcore_bounds hlow hhigh
  · rw [hvcore, nextVcore_lowers hsave]
  · rw [hvcore, hscan, nextVcore_room hbelow hquiet hroom hcool, nextScanPct_room hbelow hquiet hroom hcool,
      if_neg (Nat.ne_of_lt hpart), Nat.min_eq_right hhigh]
    exact ⟨rfl, rfl⟩
  · rw [hvcore, hscan, nextVcore_room hbelow hquiet hroom hcool, nextScanPct_room hbelow hquiet hroom hcool, if_pos hfull,
      hfull]
    exact ⟨rfl, rfl⟩
  · rw [hscan] at hfalls ⊢
    exact nextScanPct_falls hlow hpct hfalls
  · rw [hscan]
    exact nextScanPct_le
  · rw [hvcore, hscan, hv, hfloor]
    exact next_at_both_floors habove

end Sys2Proof.Machine
end

/-! SUPPORT. Gradient records: the conversion of their elements (R282, R283). -/

section
namespace Sys2Proof

open Sys2Proof.Machine

/-! ### Rounding to the nearest integer, ties to even -/

section Rounding

variable {a q r d : Nat}

/-- The quotient is nearest when less than half is left over, or half of an even one. -/
theorem nearestEven_quotient (ha : a = q * d + r) (h : 2 * r < d ∨ 2 * r = d ∧ q % 2 = 0) : NearestEven q a d := by
  have herr : ((q : Int) * d - a).natAbs = r := by
    rw [ha]
    push_cast
    omega
  rw [NearestEven, herr, Int.natAbs_natCast]
  omega

/-- The next integer is nearest when more than half is left over, or half of an odd quotient. -/
theorem nearestEven_next (ha : a = q * d + r) (hr : r < d) (h : d < 2 * r ∨ 2 * r = d ∧ q % 2 = 1) :
    NearestEven (q + 1 : Nat) a d := by
  have herr : (((q + 1 : Nat) : Int) * d - a).natAbs = d - r := by
    have hnext : ((q + 1 : Nat) : Int) * d = q * d + d := by push_cast; ring
    rw [hnext, ha]
    push_cast
    omega
  rw [NearestEven, herr, Int.natAbs_natCast]
  omega

theorem nearestEven_neg {x n m : Int} (h : NearestEven x n m) : NearestEven (-x) (-n) m := by
  have herr : (-x * m - -n).natAbs = (x * m - n).natAbs := by
    rw [← Int.natAbs_neg (x * m - n)]
    congr 1
    ring
  rw [NearestEven, herr]
  exact ⟨h.1, fun htie => by have heven := h.2 htie; omega⟩

end Rounding

theorem nearestEven_rneShift (a k : Nat) : NearestEven (rneShift a k) a (2 ^ k : Nat) := by
  have ha : a = a / 2 ^ k * 2 ^ k + a % 2 ^ k := by rw [Nat.mul_comm, Nat.div_add_mod]
  have hr : a % 2 ^ k < 2 ^ k := Nat.mod_lt _ (Nat.two_pow_pos k)
  simp only [rneShift]
  split_ifs with hk hdown hup heven
  · subst hk
    exact nearestEven_quotient (r := 0) (by simp) (.inl (by decide))
  · exact nearestEven_quotient ha (.inl hdown)
  · exact nearestEven_next ha hr (.inl hup)
  · exact nearestEven_quotient ha (.inr ⟨by omega, heven⟩)
  · exact nearestEven_next ha hr (.inr ⟨by omega, by omega⟩)

theorem nearestEven_rneInt (n : Int) (k : Nat) : NearestEven (rneInt n k) n (2 ^ k : Nat) := by
  unfold rneInt
  split_ifs with hn
  · have hnat := nearestEven_rneShift n.toNat k
    rwa [Int.toNat_of_nonneg hn] at hnat
  · have hnat := nearestEven_neg (nearestEven_rneShift (-n).toNat k)
    rwa [Int.toNat_of_nonneg (by omega), Int.neg_neg] at hnat

/-! ### An element of a gradient record (R283) -/

/-- The clamp to a signed 64-bit integer moves exactly what lies outside. -/
theorem clamp64_ne_iff (g : Int) : max (-2 ^ 63) (min (2 ^ 63 - 1) g) ≠ g ↔ g < -2 ^ 63 ∨ 2 ^ 63 - 1 < g := by omega

theorem isNan32_of_read {v : Nat} {n : Int} (h : fp32.read v = some n) : isNan32 v = false := by
  rw [fp32_read_eq, Option.ite_none_left_eq_some] at h
  exact decide_eq_false fun hnan => h.1 hnan.1

end Sys2Proof

namespace Sys2Proof.Machine

open Sys2Proof

section Elements

variable {gfrac v : Nat}

theorem gradFix_nan (h : isNan32 v = true) : gradFix gfrac v = none := if_pos h

theorem gradFix_infinite (hnan : isNan32 v = false) (h : fp32.read v = none) :
    gradFix gfrac v = some (if v < 2 ^ 31 then (2 ^ 63 - 1, true) else (-2 ^ 63, true)) := by
  simp only [gradFix, hnan, h, Bool.false_eq_true, if_false]

theorem gradFix_finite {n : Int} (h : fp32.read v = some n) :
    gradFix gfrac v = some (max (-2 ^ 63) (min (2 ^ 63 - 1) (rneInt (n * 2 ^ gfrac) 149)),
      decide (max (-2 ^ 63) (min (2 ^ 63 - 1) (rneInt (n * 2 ^ gfrac) 149)) ≠ rneInt (n * 2 ^ gfrac) 149)) := by
  simp only [gradFix, isNan32_of_read h, h, Bool.false_eq_true, if_false, clamp64_ne_iff]
  rfl

end Elements

/-! ### A record (R283, R286) -/

section Records

variable {α β : Type} {f : α → Option β}

theorem mapM_eq_none_of_mem {x : α} {l : List α} (hx : x ∈ l) (h : f x = none) : l.mapM f = none := by
  induction l with
  | nil => nomatch hx
  | cons y l ih =>
    rw [List.mapM_cons]
    rcases List.mem_cons.mp hx with rfl | hx
    · rw [h]
      rfl
    · rw [ih hx]
      cases f y <;> rfl

theorem mapM_eq_some_of_map {l : List α} {ys : List β} (h : l.map f = ys.map some) : l.mapM f = some ys := by
  induction l generalizing ys with
  | nil => cases ys with
    | nil => rfl
    | cons y ys => nomatch h
  | cons x l ih => cases ys with
    | nil => nomatch h
    | cons y ys =>
      obtain ⟨hx, hl⟩ := List.cons.inj h
      rw [List.mapM_cons, hx, ih hl]
      rfl

variable {s u : State} {t i p : Nat} {vs : List Nat}

/-- A record with a NaN is dropped whole. -/
theorem State.convertGrad_nan (hi : s.tableIdx t = some i) (hp : p = s.get (Reg.EMB_TABLE_PARTITION i))
    (h : ∃ v ∈ vs, gradFix (s.get (Reg.EMB_TABLE_GFRAC i)) v = none) :
    s.convertGrad t vs = (s.tallyP .EMB_GRAD_NAN p, none, 0) := by
  obtain ⟨v, hv, hnan⟩ := h
  have hnone := mapM_eq_none_of_mem hv hnan
  simp only [State.convertGrad, hi, Option.getD_some, hnone, hp]

/-- A record without one is converted, and a table without an optimiser discards it. -/
theorem State.convertGrad_whole (hi : s.tableIdx t = some i) (hp : p = s.get (Reg.EMB_TABLE_PARTITION i))
    {g : List (Int × Bool)} (h : vs.map (gradFix (s.get (Reg.EMB_TABLE_GFRAC i))) = g.map some) {sat : Nat}
    (hsat : sat = g.countP (fun x => x.2))
    (hu : u = if 0 < sat then (s.tallyP .EMB_GRAD_SAT p sat).setB Reg.EMB_STATUS_GRAD_SAT_EVT true
      else s.tallyP .EMB_GRAD_SAT p sat) :
    s.convertGrad t vs = if u.get (Reg.EMB_TABLE_OPT i) = 0 then (u.tallyP .EMB_GRAD_DISCARDED p, none, sat)
      else (u, some (g.map (fun x => x.1)), sat) := by
  have hsome := mapM_eq_some_of_map h
  simp only [State.convertGrad, hi, Option.getD_some, hsome, State.when, decide_eq_true_eq, ← hp, ← hsat, ← hu]

end Records

/-- Settles O53: an element is rounded and clamped once, and a record is converted element by element. -/
theorem gradientsConvertOnce : Obligations.GradientsConvertOnce := by
  refine ⟨fun gfrac v n _ _ hread => ⟨_, nearestEven_rneInt _ 149, gradFix_finite hread⟩,
    fun gfrac v _ hread => ⟨gradFix_nan, fun hnan hpos => ?_, fun hnan hneg => ?_⟩,
    fun t i p gfrac vs s hi hp hfrac => ⟨fun hnan => ?_, fun g sat u hg hsat hu => ?_⟩⟩
  · rw [gradFix_infinite hnan hread, if_pos hpos]
  · rw [gradFix_infinite hnan hread, if_neg (Nat.not_lt.mpr hneg)]
  · exact State.convertGrad_nan hi hp (hfrac ▸ hnan)
  · exact State.convertGrad_whole hi hp (hfrac ▸ hg) hsat hu

end Sys2Proof.Machine
end

/-! SUPPORT. Gradient updates of embedding tables: admission, staging and forwarding, and the digests of updated rows (R283 to
R287, R292). -/

section
namespace Sys2Proof.Machine

open Sys2Proof

/-! ### Admission of one record (R285) -/

section UpdateAdmission

variable {s u : State} {p n tab : Nat} {h : Head} {dlv : Delivery} {t : Taken} {mem : List (Nat × List Byte)} {x : Nat × Nat × List Nat}

/-- One record of the descriptor's table is admitted, converted and staged (R283 to R285). -/
theorem exec_embUpdate_one {raw : List Byte} {a : Admitted} {c : State × Option (List Int) × Nat} {v : List Int}
    (hr : Runs s) (hs : Served s 0x21 p n h dlv) (hu : u = (s.takeHead p n h).1) (ht : t = (s.takeHead p n h).2)
    (htab : tab = body h.data 0 2) (hcount : body h.data 4 4 = 1)
    (hraw : raw = u.shmRead mem (body h.data 8 8) (16 + 4 * u.tableDim tab)) (hx : u.readGrad raw = some x)
    (hsame : x.1 = tab) (ha : a = { t.admitted dlv tab 0 false with items := 1, started := true })
    (hc : c = ((u.admitOp a).tallyP .CXP_RSVD_WRITES t.part (b2n (decide (leNat raw 8 8 ≠ 0)))).convertGrad tab x.2.2)
    (hv : c.2.1 = some v) :
    exec (.embUpdate mem false) s = .next (s.keep
      ((c.1.modEmb fun e => { e with updates := e.updates ++ [{ id := t.id, table := tab, rows := [x.2.1], sat := c.2.2, fwd := 0 }] }).stageAll
        [{ id := t.id, pos := 0, table := tab, row := x.2.1, part := t.part, due := t.id.step, g := v }])) := by
  have hdata : t.data = h.data := by rw [ht, takeHead_data]
  have hrsvd : [0].countP (fun k => decide (leNat (u.shmRead mem (body h.data 8 8 + k * (16 + 4 * u.tableDim tab))
      (16 + 4 * u.tableDim tab)) 8 8 ≠ 0)) = b2n (decide (leNat raw 8 8 ≠ 0)) := by
    rw [List.countP_singleton, Nat.zero_mul, Nat.add_zero, ← hraw]
    rfl
  rw [exec_embUpdate, execEmbUpdate, nodeEvt_serve_served hr hs hu ht]
  simp only [hdata, ← htab, hcount, List.range_one, List.map_cons, List.map_nil, Nat.zero_mul, Nat.add_zero, ← hraw, hx,
    List.any_cons, List.any_nil, hsame, ne_eq, not_true, decide_false, Bool.or_false, Bool.false_eq_true, if_false, ← ha,
    hrsvd, List.filterMap_cons, id, List.filterMap_nil, List.zipIdx_singleton, List.foldl_cons, List.foldl_nil, ← hc, hv,
    List.nil_append, Nat.zero_add]

/-- A record of another table completes the update with BAD_DESCRIPTOR (R285). -/
theorem exec_embUpdate_otherTable (hr : Runs s) (hs : Served s 0x21 p n h dlv) (hu : u = (s.takeHead p n h).1)
    (ht : t = (s.takeHead p n h).2) (hcount : body h.data 4 4 = 1)
    (hx : u.readGrad (u.shmRead mem (body h.data 8 8) (16 + 4 * u.tableDim (body h.data 0 2))) = some x)
    (hother : x.1 ≠ body h.data 0 2) (lost : Bool) :
    exec (.embUpdate mem lost) s = .next (s.keep (u.completeTaken t 5)) := by
  have hdata : t.data = h.data := by rw [ht, takeHead_data]
  rw [exec_embUpdate, execEmbUpdate, nodeEvt_serve_served hr hs hu ht]
  simp only [hdata, hcount, List.range_one, List.map_cons, List.map_nil, Nat.zero_mul, Nat.add_zero, hx,
    List.any_cons, hother, ne_eq, not_false_eq_true, decide_true, Bool.true_or, if_true]

end UpdateAdmission

/-! ### Staging and forwarding (R284, R292) -/

section GradStaging

variable {s : State} {r : GradRec} {src : Nat}

theorem exec_gradStage_forwarded (hr : Runs s) (hdue : s.get Reg.STEP_COMMITTED < r.due) (hsrc : src ≠ r.id.admitter) :
    exec (.gradStage r src) s = .next (s.keep (s.stageGrad r src)) := by
  rw [exec_gradStage, execGradStage, nodeEvt_runs hr, if_neg (Nat.not_le.mpr hdue), if_pos hsrc]

theorem exec_gradStage_holder (hr : Runs s) (hdue : s.get Reg.STEP_COMMITTED < r.due) (hsrc : src = r.id.admitter)
    (hnext : s.gradNext r = []) (hholds : s.holdsRow r = true) :
    exec (.gradStage r src) s = .next (s.keep (s.stageGrad r src)) := by
  rw [exec_gradStage, execGradStage, nodeEvt_runs hr, if_neg (Nat.not_le.mpr hdue), if_neg (not_not_intro hsrc), hnext]
  simp only [hholds, if_true]

theorem exec_gradStage_oldOwner (hr : Runs s) (hdue : s.get Reg.STEP_COMMITTED < r.due) (hsrc : src = r.id.admitter)
    {n : Nat} {ns : List Nat} (hnext : s.gradNext r = n :: ns) :
    exec (.gradStage r src) s = .next (s.keep (s.forwardGrad r (n :: ns))) := by
  rw [exec_gradStage, execGradStage, nodeEvt_runs hr, if_neg (Nat.not_le.mpr hdue), if_neg (not_not_intro hsrc), hnext]

end GradStaging

/-! ### Digests of updated rows (R286, R287) -/

section RowDigests

variable {s u : State} {table row step src : Nat} {d : Digest}

theorem State.tableIdx_modEmb (f : EmbSt → EmbSt) : (s.modEmb f).tableIdx table = s.tableIdx table := by
  unfold State.tableIdx
  exact congrArg (firstIdx 1024) rfl

theorem State.tablePart_modEmb (f : EmbSt → EmbSt) : (s.modEmb f).tablePart table = s.tablePart table := by
  unfold State.tablePart
  rw [State.tableIdx_modEmb]
  cases s.tableIdx table <;> rfl

theorem State.me_modEmb (f : EmbSt → EmbSt) : (s.modEmb f).me = s.me := rfl

/-- An update with no digest come early sends its own to the copies it is compared with, and awaits theirs. -/
theorem exec_nbuApply_made {k i : Nat} {peers : List Nat} (hr : Runs s) (hk : k = rowKey table row)
    (happlied : s.emb.applies.find? (fun a => decide (a = (k, step))) = some (k, step)) (hi : i = (s.tableIdx table).getD 0)
    (hd : d = rowDigest (s.get (Reg.EMB_TABLE_DIM i)) (s.rowAt k (step + 1))) (hpeers : peers = s.digestPeers i row step)
    (hearly : s.emb.early = []) :
    exec (.nbuApply table row step) s = .next (s.keep (((s.modEmb fun e => { e with
      applies := e.applies.erase (k, step), early := [], digests := e.digests ++ peers.map (fun n => (k, step, n, d)) }).sendEach
        (s.tablePart table) 4 0 56 (.rowDigest table row step d s.me) peers).dispatchEntries)) := by
  have hemb : (s.modEmb fun e => { e with
      applies := e.applies.erase (k, step)
      early := e.early.filter (fun x => decide (¬ (x.1 = k ∧ x.2.1 = step)))
      digests := e.digests ++ peers.map (fun n => (k, step, n, d)) }) =
      s.modEmb fun e => { e with
        applies := e.applies.erase (k, step), early := [], digests := e.digests ++ peers.map (fun n => (k, step, n, d)) } := by
    simp only [State.modEmb, hearly, List.filter_nil]
  rw [exec_nbuApply]
  refine (nodeEvt_runs hr _).trans ?_
  simp only [← hk, happlied, ← hi, ← hd, ← hpeers, hearly, List.filter_nil, List.any_nil, Bool.not_false, List.filter_true,
    Bool.false_eq_true, if_false, hemb, State.tablePart_modEmb, State.me_modEmb]

theorem exec_rowDigest_early (hr : Runs s)
    (hnone : s.emb.digests.find? (fun x => decide (x.1 = rowKey table row ∧ x.2.1 = step ∧ x.2.2.1 = src)) = none) :
    exec (.rowDigest table row step d src) s =
      .next { s with emb := { s.emb with early := s.emb.early ++ [(rowKey table row, step, src, d)] } } := by
  rw [exec_rowDigest, execRowDigest, nodeEvt_runs hr]
  simp only [hnone]
  rfl

theorem exec_rowDigest_awaited {x : Nat × Nat × Nat × Digest} (hr : Runs s)
    (hx : s.emb.digests.find? (fun x => decide (x.1 = rowKey table row ∧ x.2.1 = step ∧ x.2.2.1 = src)) = some x)
    (hu : u = s.modEmb (fun e => { e with digests := e.digests.erase x })) :
    exec (.rowDigest table row step d src) s =
      .next (s.keep (if x.2.2.2 = d then u else u.digestMismatch table row).dispatchEntries) := by
  rw [exec_rowDigest, execRowDigest, nodeEvt_runs hr]
  simp only [hx, ← hu]

end RowDigests

/-- Settles O13: each command is its body on the running node, at the branch its conditions choose. Which node forwards a
GRAD_STAGE, and when it acknowledges it, is the model's reading (assumption 104). -/
theorem gradientsRun : Obligations.GradientsRun := by
  refine ⟨fun p n tab h dlv t mem raw x a c v u s hr hs hu ht htab hcount hraw hx hsame ha hc hv =>
      exec_embUpdate_one hr hs hu ht htab hcount hraw hx hsame ha hc hv,
    fun p n h dlv t mem lost x u s hr hs hu ht hcount hx hother => exec_embUpdate_otherTable hr hs hu ht hcount hx hother lost,
    fun r src s hr hdue => ⟨exec_gradStage_forwarded hr hdue, exec_gradStage_holder hr hdue,
      fun n ns hsrc hnext => exec_gradStage_oldOwner hr hdue hsrc hnext⟩,
    fun table row step k i d peers s hr hk happlied hi hd hpeers hearly =>
      exec_nbuApply_made hr hk happlied hi hd hpeers hearly,
    fun table row step src d s hr hnone => exec_rowDigest_early hr hnone,
    fun table row step src d x u s hr hx hu => ⟨fun hagrees => ?_, fun hdiffers => ?_⟩⟩
  · rw [exec_rowDigest_awaited hr hx hu, if_pos hagrees]
  · rw [exec_rowDigest_awaited hr hx hu, if_neg hdiffers]

end Sys2Proof.Machine
end

/-! SUPPORT. The SPDM responder: the answer to each request in its turn (R340, R426). -/

section
namespace Sys2Proof.Machine

open Sys2Proof

section Responder

variable {s u : State} {h : HostReq} {c : Instr}

/-- A request to the host's own function answers what its body makes of the node, where that leaves the queue, the requests
held and the power alone. -/
theorem hostCmd_configures (ht : Takes s) (hc : Configures s h) {f : State → State} (hf : s.keep (f s) = u) :
    hostCmd s c (fun s => s.configReq h f) = .next u := by
  rw [hostCmd_takes ht, configReq_ok hc, hf]

/-- An SPDM request in its turn answers so. -/
theorem hostCmd_spdm (ht : Takes s) (hc : Configures s h) {ready : Spdm → Bool} (hr : ready (s.ctx h.pid).spdm = true)
    {f : State → Spdm → State} (hf : s.keep (f s (s.ctx h.pid).spdm) = u) :
    hostCmd s c (fun s => s.spdmReq h ready f) = .next u := by
  rw [hostCmd_takes ht, spdmReq_ok hc hr, hf]

/-! ### The exchange begins (R340) -/

theorem exec_getVersion_configures (ht : Takes s) (hc : Configures s h) :
    exec (.getVersion h) s = .next ((s.setSpdm h { HostCtx.fresh.spdm with stage := 1 }).spdmSay h 0x04 [0x12#8]) :=
  (exec_getVersion h s).trans (hostCmd_configures ht hc rfl)

theorem exec_spdmUnsupported_configures (ht : Takes s) (hc : Configures s h) :
    exec (.spdmUnsupported h) s = .next (s.spdmErr h 7) :=
  (exec_spdmUnsupported h s).trans (hostCmd_configures ht hc rfl)

section Exchange

variable {x : Spdm} (ht : Takes s) (hc : Configures s h) (hx : x = (s.ctx h.pid).spdm)
include ht hc hx

theorem exec_getCapabilities_first (hstage : x.stage = 1) :
    exec (.getCapabilities h) s = .next
      ((s.setSpdm h { x with stage := 2 }).spdmSay h 0x61 [BitVec.ofNat 8 (s.get Reg.CXP_CFG_MUTUAL_AUTH)]) := by
  subst hx
  exact (exec_getCapabilities h s).trans (hostCmd_spdm ht hc (decide_eq_true hstage) rfl)

theorem exec_negotiateAlgorithms_second (hstage : x.stage = 2) (offered : Bool) :
    exec (.negotiateAlgorithms h offered) s =
      .next (if offered then (s.setSpdm h { x with stage := 3 }).spdmSay h 0x63 [] else s.spdmErr h 1) := by
  subst hx
  refine (exec_negotiateAlgorithms h offered s).trans (hostCmd_spdm ht hc (decide_eq_true hstage) ?_)
  cases offered <;> rfl

/-! ### Once the algorithms are negotiated (R340, R426) -/

theorem exec_getDigests_ready (hready : x.ready = true) :
    exec (.getDigests h) s = .next (s.spdmSay h 0x01 (digestBytes (Config.sm3 s.cfg.chainDer))) := by
  subst hx
  exact (exec_getDigests h s).trans (hostCmd_spdm ht hc hready rfl)

theorem exec_getCertificate_ready (hready : x.ready = true) (offset length : Nat) :
    exec (.getCertificate h offset length) s = .next (s.spdmSay h 0x02 ((s.cfg.chainDer.drop offset).take length)) := by
  subst hx
  exact (exec_getCertificate h offset length s).trans (hostCmd_spdm ht hc hready rfl)

theorem exec_challenge_ready (hready : x.ready = true) (nonce : List Byte) :
    exec (.challenge h nonce) s = .next (s.spdmSay h 0x03
      (digestBytes (Config.sm3 s.cfg.chainDer) ++ Config.sm2Sign (nonce ++ digestBytes (Config.sm3 s.cfg.chainDer)))) := by
  subst hx
  exact (exec_challenge h nonce s).trans (hostCmd_spdm ht hc hready rfl)

theorem exec_getMeasurements_block (hready : x.ready = true) {index : Nat} (hlow : 1 ≤ index) (hhigh : index ≤ 8)
    (nonce : List Byte) :
    exec (.getMeasurements h index true nonce) s = .next (s.spdmSay h 0x60
      (s.measurement index ++ Config.sm2Sign (nonce ++ s.measurement index))) := by
  subst hx
  have hsome : index ≠ 0 := by omega
  have hone : index ≠ 0xFF := by omega
  have hknown : ¬ (8 < index ∧ index ≠ 0xFF) := by omega
  refine (exec_getMeasurements h index true nonce s).trans (hostCmd_spdm ht hc hready ?_)
  simp only [if_neg hsome, if_neg hone, if_neg hknown, if_true]
  rfl

theorem exec_getMeasurements_number (hready : x.ready = true) (nonce : List Byte) :
    exec (.getMeasurements h 0 false nonce) s = .next (s.spdmSay h 0x60 (natLe 1 8 ++ [])) := by
  subst hx
  exact (exec_getMeasurements h 0 false nonce s).trans (hostCmd_spdm ht hc hready rfl)

/-! ### The session (R340) -/

theorem exec_keyExchange_ready (hready : x.ready = true) (data : List Byte) :
    exec (.keyExchange h data true) s = .next
      ((s.setSpdm h { x with keyed := true, session := false }).spdmSay h 0x64 (Config.sm2Sign data)) := by
  subst hx
  refine (exec_keyExchange h data true s).trans (hostCmd_spdm ht hc hready ?_)
  simp only [Bool.not_true, Bool.and_false, Bool.false_eq_true, if_false]
  rfl

theorem exec_finish_keyed (hkeyed : x.keyed = true) (ok : Bool) :
    exec (.finish h ok) s = .next
      (if ok then (s.setSpdm h { x with keyed := false, session := true, keyGen := 0 }).spdmSay h 0x65 []
        else (s.setSpdm h { x with keyed := false }).spdmErr h 6) := by
  subst hx
  refine (exec_finish h ok s).trans (hostCmd_spdm ht hc hkeyed ?_)
  cases ok <;> rfl

theorem exec_spdmHeartbeat_session (hsession : x.session = true) :
    exec (.spdmHeartbeat h) s = .next (s.spdmSay h 0x68 []) := by
  subst hx
  exact (exec_spdmHeartbeat h s).trans (hostCmd_spdm ht hc hsession rfl)

theorem exec_keyUpdate_session (hsession : x.session = true) :
    exec (.keyUpdate h) s = .next ((s.setSpdm h { x with keyGen := x.keyGen + 1 }).spdmSay h 0x69 []) := by
  subst hx
  exact (exec_keyUpdate h s).trans (hostCmd_spdm ht hc hsession rfl)

/-- The end of a session drops the key of its stream (R339). -/
theorem exec_endSession_session (hsession : x.session = true) :
    exec (.endSession h) s = .next (((s.setSpdm h { x with session := false }).setCtx h.pid
      { (s.setSpdm h { x with session := false }).ctx h.pid with ideKeyed := false }).spdmSay h 0x6C []) := by
  subst hx
  exact (exec_endSession h s).trans (hostCmd_spdm ht hc hsession rfl)

end Exchange

end Responder

/-- Settles O28: each request is its body at the stage it needs. The codes of requests, responses and errors are those of
SPDM 1.2 by the model's reading (assumption 29), and the mailbox needs no stream (assumption 107). -/
theorem spdmRequestsRun : Obligations.SpdmRequestsRun := by
  refine ⟨fun h s ht hc => ⟨exec_getVersion_configures ht hc, exec_spdmUnsupported_configures ht hc⟩,
    fun h x s ht hc hx => ⟨exec_getCapabilities_first ht hc hx, fun hstage =>
        ⟨exec_negotiateAlgorithms_second ht hc hx hstage true, exec_negotiateAlgorithms_second ht hc hx hstage false⟩,
      exec_getDigests_ready ht hc hx, fun offset length hready => exec_getCertificate_ready ht hc hx hready offset length,
      fun nonce hready => exec_challenge_ready ht hc hx hready nonce,
      fun index nonce hready hlow hhigh => exec_getMeasurements_block ht hc hx hready hlow hhigh nonce,
      fun nonce hready => exec_getMeasurements_number ht hc hx hready nonce,
      fun data hready => exec_keyExchange_ready ht hc hx hready data,
      fun hkeyed => ⟨exec_finish_keyed ht hc hx hkeyed true, exec_finish_keyed ht hc hx hkeyed false⟩,
      fun hsession => ⟨exec_spdmHeartbeat_session ht hc hx hsession, exec_keyUpdate_session ht hc hx hsession,
        exec_endSession_session ht hc hx hsession⟩⟩⟩

end Sys2Proof.Machine
end

/-! SUPPORT. CXL ports and lost hosts (R314, R329, R339, R450). -/

section
namespace Sys2Proof.Machine

open Sys2Proof

/-! ### Links and switch ports (R314, R329, R339) -/

section CxlLinks

variable {s u : State} {port : Nat}

theorem exec_cxlLinkUp_outOfReset (hr : Runs s) (hport : port < 2) (hperst : s.pwr.perst.contains port = false)
    (width rate pid : Nat) :
    exec (.cxlLinkUp port width rate pid) s = .next (((((s.set (Reg.CXP_PORT_STATE port) 2).set (Reg.CXP_PORT_WIDTH port)
      width).set (Reg.CXP_PORT_RATE_GTS port) rate).set (Reg.CXP_PORT_PORT_PID port) pid).showPort port true) := by
  have htrains : ¬ (2 ≤ port ∨ s.pwr.perst.contains port = true) :=
    not_or.mpr ⟨Nat.not_le.mpr hport, by simp only [hperst, Bool.false_eq_true, not_false_eq_true]⟩
  rw [exec_cxlLinkUp, execCxlLinkUp, nodeEvt_runs hr, if_neg htrains]
  rfl

theorem exec_cxlLinkDown_up (hr : Runs s) (hup : s.get (Reg.CXP_PORT_STATE port) ≠ 0) :
    exec (.cxlLinkDown port) s = .next (s.keep (s.portDown port 0)) := by
  rw [exec_cxlLinkDown, execCxlLinkDown, nodeEvt_runs hr, if_neg hup]

/-- A stream that fails its integrity check takes its link and every key with it (R339). -/
theorem exec_ideIntegrityFail_port {drop : Tab HostCtx → Tab HostCtx} (hr : Runs s) (hport : port < 2)
    (hdrop : drop = (fun t => (t.map (fun e => (e.1, { e.2 with ideKeyed := false }))).filter
      (fun e => decide (e.2 ≠ HostCtx.fresh))))
    (hu : u = (((s.tallyN .CXP_IDE_FAIL).setB Reg.CXP_STATUS_IDE_FAIL_EVT true).set (Reg.CXP_PORT_IO_IDE port) 0).set
      (Reg.CXP_PORT_MEM_IDE port) 0) :
    exec (.ideIntegrityFail port) s =
      .next (s.keep ((u.modHost fun k => { k with ctx := drop k.ctx }).portDown port 0)) := by
  rw [exec_ideIntegrityFail, execIdeIntegrityFail, nodeEvt_runs hr, if_neg (Nat.not_le.mpr hport), hu, hdrop]

theorem exec_biTimeout_unanswered (hr : Runs s) {pid line : Nat}
    (hlate : s.home.bisnp.any (fun b => decide (b.1 = line ∧ b.2.1 = pid ∧ b.2.2.2 + 2500 ≤ s.now)) = true) :
    exec (.biTimeout pid line) s = .next (s.keep (s.declareLost pid 0)) := by
  rw [exec_biTimeout, execBiTimeout, nodeEvt_runs hr, if_pos hlate]

theorem exec_switchPortDown_runs (hr : Runs s) (pid : Nat) :
    exec (.switchPortDown pid) s = .next (s.keep (s.declareLost pid 0)) := by
  rw [exec_switchPortDown, execSwitchPortDown, nodeEvt_runs hr]

/-! ### CXL_PERST_N (R450) -/

theorem exec_cxlPerst_low (hport : port < 2)
    (hu : u = s.modPwr (fun p => { p with perst := if p.perst.contains port then p.perst else p.perst ++ [port] }))
    (hup : u.get (Reg.CXP_PORT_STATE port) ≠ 0) :
    exec (.cxlPerst port true) s = .next (s.keep (u.portDown port 0)) := by
  rw [exec_cxlPerst, execCxlPerst, anyEvt_next, if_neg (Nat.not_le.mpr hport), if_pos rfl]
  simp only [← hu, if_neg hup]

theorem exec_cxlPerst_high (hport : port < 2)
    (hu : u = s.modPwr (fun p => { p with perst := p.perst.filter (fun x => decide (x ≠ port)) }))
    (hdown : u.get (Reg.CXP_PORT_STATE port) = 0) :
    exec (.cxlPerst port false) s = .next (u.set (Reg.CXP_PORT_STATE port) 1) := by
  rw [exec_cxlPerst, execCxlPerst, anyEvt_next, if_neg (Nat.not_le.mpr hport), if_neg Bool.false_ne_true]
  simp only [← hu, if_pos hdown]
  rw [hu]
  rfl

end CxlLinks

/-- Settles O29: each event is its body, on the running node or on any node, at the branch its conditions choose. -/
theorem cxlPortEventsRun : Obligations.CxlPortEventsRun := by
  refine ⟨fun port width rate pid s hr hport hperst => exec_cxlLinkUp_outOfReset hr hport hperst width rate pid,
    fun port s hr _ hup => exec_cxlLinkDown_up hr hup,
    fun port drop u s hr hport hdrop hu => exec_ideIntegrityFail_port hr hport hdrop hu,
    fun pid line s hr hlate => exec_biTimeout_unanswered hr hlate,
    fun pid s hr => exec_switchPortDown_runs hr pid,
    fun port u s hport hu hup => exec_cxlPerst_low hport hu hup,
    fun port u s hport hu hdown => exec_cxlPerst_high hport hu hdown⟩

end Sys2Proof.Machine
end

/-! SUPPORT. Coherence messages between nodes (R302, R307 to R312, R320). -/

section
namespace Sys2Proof.Machine

open Sys2Proof

/-- A running node takes a coherence message from another node, and settles what follows. -/
theorem nodeEvt_cohMsg {s : State} (hr : Runs s) (src : Nat) (m : CohMsg) :
    nodeEvt s (fun s => s.cohMsg src m) = .next (s.keep (s.cohTake src m).settled) := nodeEvt_runs hr _

/-- Settles O30: each command but HOLD_EXPIRY is a coherence message, which the node takes as its kind says. -/
theorem coherenceRequestsRun : Obligations.CoherenceRequestsRun :=
  ⟨fun line src s hr =>
      ⟨(exec_rds line src s).trans (nodeEvt_cohMsg hr src (.rds line)),
       (exec_rdo line src s).trans (nodeEvt_cohMsg hr src (.rdo line)),
       (exec_upg line src s).trans (nodeEvt_cohMsg hr src (.upg line)),
       (exec_evs line src s).trans (nodeEvt_cohMsg hr src (.evs line)),
       (exec_grant line src s).trans (nodeEvt_cohMsg hr src (.grant line))⟩,
    fun line data mask tag src s hr =>
      ⟨(exec_wbm line data src s).trans (nodeEvt_cohMsg hr src (.wbm line data)),
       (exec_invWrite line data mask tag src s).trans (nodeEvt_cohMsg hr src (.inv line data mask tag))⟩,
    fun id region expect base pid src s hr =>
      (exec_cas id region expect base pid src s).trans (nodeEvt_cohMsg hr src (.cas id region expect base pid)),
    fun line src fwd s hr =>
      ⟨(exec_snpdata line fwd src s).trans (nodeEvt_cohMsg hr src (.snpData line fwd)),
       (exec_snpinv line fwd src s).trans (nodeEvt_cohMsg hr src (.snpInv line fwd))⟩,
    fun line st data sent src s hr =>
      ⟨(exec_cohRspData line st data src s).trans (nodeEvt_cohMsg hr src (.data line st data)),
       (exec_snpRsp line data sent src s).trans (nodeEvt_cohMsg hr src (.snpRsp line data sent))⟩,
    fun id ok version pubStep line tag src s hr =>
      ⟨(exec_casRsp id ok version pubStep src s).trans (nodeEvt_cohMsg hr src (.casRsp id ok version pubStep)),
       (exec_cohDone line tag src s).trans (nodeEvt_cohMsg hr src (.done line tag))⟩,
    fun line s hr => (exec_holdExpiry line s).trans (nodeEvt_runs hr _)⟩

end Sys2Proof.Machine
end

/-! SUPPORT. Training, replay and retraining of links, and end-to-end acknowledgement (R349, R351 to R353, R360, R361). -/

section
namespace Sys2Proof.Machine

open Sys2Proof

/-! ### Training and replay (R349, R351) -/

section Links

variable {s t : State} {l : Nat}

/-- At four lanes INIT exchange begins (R349). -/
theorem exec_linkTrainingDone_full (hr : Runs s) (hl : l < 8) (htraining : s.get (Reg.OVL_LINK_STATE l) = 1)
    (ht : t = (s.set (Reg.OVL_LINK_STATE l) 2).set (Reg.OVL_LINK_WIDTH l) 4) :
    exec (.linkTrainingDone l 4) s =
      .next (t.emit (.init l 4 (t.get Reg.STEP_EPOCH) (t.flag Reg.STEP_STATUS_RECOVERING))) := by
  have hinTurn : ¬ (s.get (Reg.OVL_LINK_STATE l) ≠ 1 ∨ 8 ≤ l) := by omega
  rw [exec_linkTrainingDone, execLinkTrainingDone, nodeEvt_runs hr, if_neg hinTurn, if_pos (.inl rfl), ht]
  rfl

/-- At two lanes it begins too, with DEGRADE_EVT (R349). -/
theorem exec_linkTrainingDone_half (hr : Runs s) (hl : l < 8) (htraining : s.get (Reg.OVL_LINK_STATE l) = 1)
    (ht : t = (((s.set (Reg.OVL_LINK_STATE l) 2).set (Reg.OVL_LINK_WIDTH l) 2).setB Reg.OVL_STATUS_DEGRADE_EVT
      true).faultEvent) :
    exec (.linkTrainingDone l 2) s =
      .next (s.keep (t.emit (.init l 2 (t.get Reg.STEP_EPOCH) (t.flag Reg.STEP_STATUS_RECOVERING)))) := by
  have hinTurn : ¬ (s.get (Reg.OVL_LINK_STATE l) ≠ 1 ∨ 8 ≤ l) := by omega
  rw [exec_linkTrainingDone, execLinkTrainingDone, nodeEvt_runs hr, if_neg hinTurn, if_pos (.inr rfl), ht]
  simp only [decide_true, State.when_true]

/-- With any other number of lanes the link goes down (R349). -/
theorem exec_linkTrainingDone_down (hr : Runs s) (hl : l < 8) (htraining : s.get (Reg.OVL_LINK_STATE l) = 1) {n : Nat}
    (hfour : n ≠ 4) (htwo : n ≠ 2) :
    exec (.linkTrainingDone l n) s = .next (s.keep (s.set (Reg.OVL_LINK_STATE l) 0).settleLinks) := by
  have hinTurn : ¬ (s.get (Reg.OVL_LINK_STATE l) ≠ 1 ∨ 8 ≤ l) := by omega
  rw [exec_linkTrainingDone, execLinkTrainingDone, nodeEvt_runs hr, if_neg hinTurn, if_neg (not_or.mpr ⟨hfour, htwo⟩)]

theorem exec_replayTimeout_late (hr : Runs s) {f : SentFlit} {fs : List SentFlit} (hf : (s.link l).replay = f :: fs)
    (hup : s.linkUp l = true) (hlate : (s.link l).ackTick + tACK ≤ s.now) :
    exec (.replayTimeout l) s = .next (s.keep (s.replayFrom l f.seq)) := by
  rw [exec_replayTimeout, execReplayTimeout, nodeEvt_runs hr, hf]
  simp only [if_pos (And.intro hup hlate)]

/-! ### Retraining (R352, R353) -/

section Retrain

variable {before : Nat} (hr : Runs s) (hup : s.linkUp l = true) (hmust : s.mustRetrain l = true)
  (hbefore : before = if s.now < (s.link l).retrainEnd + cleanRun then (s.link l).retrains else 0)
include hr hup hmust hbefore

/-- A link that must retrain does, and counts it, or fails past RETRAIN_MAX (R352). -/
theorem exec_fastRetrainStart_must :
    exec (.fastRetrainStart l) s = .next (s.keep
      (if s.get Reg.OVL_CFG_RETRAIN_MAX ≤ before then s.failLink l
        else (((s.setLink l { s.link l with retrains := before + 1, replayed := none, uncorr := (0, s.now) }).set
          (Reg.OVL_LINK_STATE l) 4).stick (Reg.OVL_LINK_RETRAINS l) 1).tallyN .OVL_RETRAINS)) := by
  have hretrains : (s.linkUp l && s.mustRetrain l) = true := by rw [hup, hmust]; rfl
  rw [exec_fastRetrainStart, execFastRetrainStart, nodeEvt_runs hr, if_pos hretrains, hbefore]

end Retrain

theorem exec_fastRetrainDone_retraining (hr : Runs s) (hstate : s.get (Reg.OVL_LINK_STATE l) = 4) :
    exec (.fastRetrainDone l) s = .next (s.keep
      (((s.setLink l { s.link l with retrainEnd := s.now, ackTick := s.now }).set (Reg.OVL_LINK_STATE l) 3).pumpLink l)) := by
  rw [exec_fastRetrainDone, execFastRetrainDone, nodeEvt_runs hr, if_pos hstate]

theorem exec_freezePatternRx_up (hr : Runs s) (hl : l < 8)
    (hup : s.get (Reg.OVL_LINK_STATE l) = 3 ∨ s.get (Reg.OVL_LINK_STATE l) = 7) :
    exec (.freezePatternRx l) s = .next (s.set (Reg.OVL_LINK_STATE l) 6) := by
  rw [exec_freezePatternRx, execFreezePatternRx, nodeEvt_runs hr, if_pos ⟨hl, hup⟩, State.keep_set]

end Links

/-! ### End-to-end acknowledgement (R360, R361) -/

section EndToEnd

variable {s u : State} {src cls route seq : Nat}

theorem exec_e2eNak_kept (hr : Runs s) {m : Msg}
    (hm : s.ovl.msgs.find? (fun m => decide (m.dst = src ∧ m.cls = cls ∧ m.route = route ∧ m.seq = seq ∧ m.seq ≠ 0)) = some m) :
    exec (.e2eNak src cls route seq) s = .next (s.keep (((s.modOvl fun o => { o with
      msgs := lmod (fun x => decide (x.num = m.num)) (fun x => { x with resent := x.resent + 1 }) o.msgs }).tallyN
        .OVL_E2E_RESENDS).startMsg m)) := by
  rw [exec_e2eNak, execE2eNak, nodeEvt_runs hr]
  simp only [hm]

/-- A message's merge buffer is released when it carries a share that need not run again (R129). -/
theorem exec_e2eAck_runs (hr : Runs s) {hit : Msg → Bool} {merge : Msg → Option OpId}
    (hhit : hit = (fun m => decide (m.dst = src ∧ m.cls = cls ∧ m.route = route ∧ m.seq ≠ 0 ∧ m.seq ≤ seq) && !m.acked))
    (hmerge : merge = (fun m => match m.cargo with
      | .cmd (.transit id _ sh _ _) => (if sh.rerun.isNone then some id else none)
      | _ => none)) :
    exec (.e2eAck src cls route seq) s = .next (s.keep
      ((((s.ovl.msgs.filter hit).filterMap merge).foldl State.releaseMerge (s.ackMsgs src cls route seq)).releaseDue)) := by
  subst hhit hmerge
  exact (exec_e2eAck src cls route seq s).trans (nodeEvt_runs hr _)

/-- The only stream with unacknowledged messages is acknowledged once it is due, as far as its copies allow (R361). -/
theorem exec_e2eAckTimer_due (hr : Runs s) {key t n : Nat} (hstream : s.ovl.ackDue = [(key, t)]) (hdue : t + 50 ≤ s.now)
    (hn : n = s.ackable key) (hsome : n ≠ 0)
    (hu : u = s.modOvl (fun o => { o with
      ackDue := if n = tget 0 o.rxSeq key then tdel o.ackDue key else tput o.ackDue key s.now })) :
    exec .e2eAckTimer s = .next (s.keep
      (u.sendAck (key % 4096) (.e2eAck u.me (key / 4096 % 32) (if key < 131072 then 0 else 1) n))) := by
  rw [exec_e2eAckTimer, execE2eAckTimer, nodeEvt_runs hr, hstream, List.foldl_cons, List.foldl_nil,
    if_neg (Nat.not_lt.mpr hdue)]
  simp only [← hn, if_neg hsome, ← hu]

end EndToEnd

/-- Settles O5: each event is its body on the running node, at the branch its conditions choose. When stage 4 ends behind a
link that is down (`settleLinks`) is the model's reading (assumption 88). -/
theorem linkTimersRun : Obligations.LinkTimersRun := by
  refine ⟨fun l s hr hl htraining => ⟨fun t ht => exec_linkTrainingDone_full hr hl htraining ht,
      fun t ht => exec_linkTrainingDone_half hr hl htraining ht,
      fun n hfour htwo => exec_linkTrainingDone_down hr hl htraining hfour htwo⟩,
    fun l f fs s hr hf hup hlate => exec_replayTimeout_late hr hf hup hlate,
    fun l before s hr hup hmust hbefore => ⟨fun hmany => ?_, fun hfew => ?_⟩,
    fun l s hr hstate => exec_fastRetrainDone_retraining hr hstate,
    fun l s hr hl hup => exec_freezePatternRx_up hr hl hup,
    fun src cls route seq m s hr hm => exec_e2eNak_kept hr hm,
    fun src cls route seq hit merge s hr hhit hmerge => exec_e2eAck_runs hr hhit hmerge,
    fun key t n u s hr hstream hdue hn hsome hu => exec_e2eAckTimer_due hr hstream hdue hn hsome hu⟩
  · rw [exec_fastRetrainStart_must hr hup hmust hbefore, if_pos hmany]
  · rw [exec_fastRetrainStart_must hr hup hmust hbefore, if_neg (Nat.not_le.mpr hfew)]

end Sys2Proof.Machine
end

/-! SUPPORT. The freeze's pin and latch, and the debug port (R402 to R405, R455). -/

section
namespace Sys2Proof.Machine

open Sys2Proof

/-! ### The freeze's pin and latch (R402, R404) -/

section Freeze

variable {s : State}

/-- In STAGE 6, or in a freeze, a freeze condition is set at once (R402). -/
theorem State.askFreeze_now (hawake : s.awake = true) (hnow : s.frozen = true ∨ s.get Reg.CFG_STATUS_STAGE = 6)
    (f : SafeSt → SafeSt) : s.askFreeze f = s.setFreeze f := by
  have hbegins : (s.frozen || decide (s.get Reg.CFG_STATUS_STAGE = 6)) = true := by simpa using hnow
  rw [State.askFreeze, hawake, if_pos hbegins]
  rfl

/-- At an earlier stage the freeze waits for the stage's end (R402). -/
theorem State.askFreeze_later (hawake : s.awake = true) (hfrozen : s.frozen = false)
    (hstage : s.get Reg.CFG_STATUS_STAGE ≠ 6) (f : SafeSt → SafeSt) :
    s.askFreeze f = s.setFreeze (fun k => { f k with freezeWait := true }) := by
  have hwaits : ¬ (s.frozen || decide (s.get Reg.CFG_STATUS_STAGE = 6)) = true := by simp [hfrozen, hstage]
  rw [State.askFreeze, hawake, if_neg hwaits]
  rfl

/-- A node in reset takes no freeze (R405). -/
theorem State.askFreeze_asleep (h : s.awake = false) (f : SafeSt → SafeSt) : s.askFreeze f = s := by
  rw [State.askFreeze, h]
  rfl

/-- FREEZE_N_FALL asks for a freeze by the pin (R402). -/
theorem exec_freezeNFall_asks {t : State} (ht : s.askFreeze (fun k => { k with pinLow := true }) = t) :
    exec .freezeNFall s = .next (s.keep t) := by
  rw [exec_freezeNFall, execFreezeNFall, anyEvt_next, ht]

/-- FREEZE asks for a freeze by the latch, and answers the freeze that then stands (R402, R405). -/
theorem exec_freeze_asks {t : State} (ht : s.askFreeze (fun k => { k with latch := true }) = t) :
    exec .freeze s = .next (s.keep (t.emit (.jtag (b2n t.frozen) 0))) := by
  rw [exec_freeze, execFreeze, anyEvt_next, ht]

/-- FREEZE_N_RISE ends the pin's condition (R404). -/
theorem exec_freezeNRise_ends (s : State) :
    exec .freezeNRise s = .next (s.keep
      (s.setFreeze fun k => { k with pinLow := false, freezeWait := k.freezeWait && (false || k.latch) })) := rfl

/-- RESUME ends the latch's condition, and answers the freeze that then stands (R404, R405). -/
theorem exec_resume_ends {t : State}
    (ht : t = s.setFreeze fun k => { k with latch := false, freezeWait := k.freezeWait && (k.pinLow || false) }) :
    exec .resume s = .next (s.keep (t.emit (.jtag (b2n t.frozen) 0))) := by
  subst ht
  rfl

end Freeze

/-! ### The debug port (R403, R405, R455) -/

section DebugPort

variable {s : State} {addr : Nat}

theorem exec_dbgRead_unfrozen (h : s.frozen = false) : exec (.dbgRead addr) s = .next (s.emit (.jtag 0 1)) := by
  rw [exec_dbgRead, execDbgRead, anyEvt_next, h]
  rfl

section Frozen

variable (hfrozen : s.frozen = true)
include hfrozen

/-- The window is open in every freeze (R403). -/
theorem exec_dbgRead_window (hspace : dbgSpace addr = 0) :
    exec (.dbgRead addr) s = .next (s.emit (.jtag (s.windowUnit 0 (addr % 2 ^ 60 / 64 * 64)) 0)) := by
  rw [exec_dbgRead, execDbgRead, anyEvt_next, hfrozen, if_pos hspace]
  rfl

theorem exec_dbgRead_closed (hspace : dbgSpace addr ≠ 0) (hclosed : s.dbgOpen (dbgSpace addr) = false) :
    exec (.dbgRead addr) s = .next (s.emit (.jtag 0 0)) := by
  rw [exec_dbgRead, execDbgRead, anyEvt_next, hfrozen, if_neg hspace, hclosed]
  rfl

theorem exec_dbgRead_open (hspace : dbgSpace addr ≠ 0) (hopen : s.dbgOpen (dbgSpace addr) = true) :
    exec (.dbgRead addr) s = .next (s.keep
      (((s.draw (2 ^ 512)).2.draw (2 ^ 8)).2.emit (.jtag (s.draw (2 ^ 512)).1 ((s.draw (2 ^ 512)).2.draw (2 ^ 8)).1))) := by
  rw [exec_dbgRead, execDbgRead, anyEvt_next, hfrozen, if_neg hspace, hopen]
  rfl

end Frozen

theorem exec_dbgStatus_answers (s : State) :
    exec .dbgStatus s = .next (s.emit (.jtag (s.windowWord 0 0x1d0000c) 0)) := rfl

theorem exec_idcode_answers (s : State) : exec .idcode s = .next (s.emit (.jtag (s.windowWord 0 0x1d00008) 0)) := rfl

theorem exec_bypass_answers (s : State) :
    exec .bypass s = .next (({ s with pwr := { s.pwr with extest := false } } : State).emit (.jtag 0 0)) := rfl

/-- EXTEST answers the old update register and drives the lands with the new value (R455). -/
theorem exec_extest_answers (value : Nat) (s : State) :
    exec (.extest value) s =
      .next (({ s with pwr := { s.pwr with bscan := value, extest := true } } : State).emit (.jtag s.pwr.bscan 0)) := rfl

theorem exec_samplePreload_answers (value : Nat) {s u : State} (hu : u = (s.draw (2 ^ 64)).2) :
    exec (.samplePreload value) s = .next (s.keep
      (({ u with pwr := { u.pwr with bscan := value, extest := false } } : State).emit (.jtag (s.draw (2 ^ 64)).1 0))) := by
  subst hu
  rfl

end DebugPort

/-- Settles O34: the pin and the latch by what a node makes of an asked freeze, the reads by the address's space and the
debug policy. Assumption 2 (what the other spaces and the lands hold is a free value) and assumption 35 (a closed space
gives no data) are the model's choices. -/
theorem freezeAndDebugPort : Obligations.FreezeAndDebugPort := by
  refine ⟨fun s hawake hnow => ⟨exec_freezeNFall_asks (State.askFreeze_now hawake hnow _), ?latchNow⟩,
    fun s hawake hfrozen hstage => ⟨exec_freezeNFall_asks (State.askFreeze_later hawake hfrozen hstage _), ?latchLater⟩,
    fun s hasleep => ⟨?pinAsleep, exec_freeze_asks (State.askFreeze_asleep hasleep _)⟩,
    fun s => ⟨exec_freezeNRise_ends s, fun u hu => exec_resume_ends hu⟩,
    fun addr s hfrozen => exec_dbgRead_unfrozen hfrozen,
    fun addr s hfrozen => ⟨exec_dbgRead_window hfrozen, exec_dbgRead_closed hfrozen, exec_dbgRead_open hfrozen⟩,
    fun s => ⟨exec_dbgStatus_answers s, exec_idcode_answers s, exec_bypass_answers s,
      fun value => exec_extest_answers value s, fun value u hu => exec_samplePreload_answers value hu⟩⟩
  case latchNow =>
    rintro u rfl
    exact exec_freeze_asks (State.askFreeze_now hawake hnow _)
  case latchLater =>
    rintro u rfl
    exact exec_freeze_asks (State.askFreeze_later hawake hfrozen hstage _)
  case pinAsleep =>
    rw [exec_freezeNFall_asks (State.askFreeze_asleep hasleep _), State.keep_self]

end Sys2Proof.Machine
end

/-! SUPPORT. Amendment records on their way, in the log and at their target (R416 to R423). -/

section
namespace Sys2Proof.Machine

open Sys2Proof

/-! ### A record at the root and elsewhere (R418, R419) -/

section Amending

variable {s : State} {kind : Nat} {raw : List Byte} {slot : StageSlot} {c : Instr}

/-- A node that is not the root passes the record to it (R418). -/
theorem State.amend_elsewhere (h : s.flag Reg.STEP_ROLE_IS_ROOT = false) :
    s.amend kind raw slot c = s.sendMsg slot.part 10 0 (s.get Reg.STEP_ROLE_ROOT_ID) raw.length c := by
  rw [State.amend, h]
  rfl

theorem State.amend_accepted (hroot : s.flag Reg.STEP_ROLE_IS_ROOT = true) (hjudge : s.judge kind raw = none) :
    s.amend kind raw slot c = s.acceptRecord raw slot := by
  rw [State.amend, hroot, hjudge]
  rfl

/-- A record that fails a check is counted, and its slot ends with the first failing REASON (R419). -/
theorem State.amend_refused (hroot : s.flag Reg.STEP_ROLE_IS_ROOT = true) {reason status : Nat}
    (hjudge : s.judge kind raw = some (reason, status)) {u v : State} (hu : u = s.stick Reg.CFG_COUNTS_REFUSED 1)
    (hv : v = if status = 3 ∧ reason = 9 then u.tallyP .SHP_QUOTA_REFUSED slot.part else u) :
    s.amend kind raw slot c =
      v.endSlot { slot := slot, status := status, reason := reason, seq := 0, step := amStep raw } := by
  subst hu hv
  rw [State.amend, hroot, hjudge]
  simp only [State.when, decide_eq_true_eq, Bool.not_true, Bool.false_eq_true, if_false]

/-! ### What a running node makes of each kind's command -/

variable {t : State}

theorem exec_amendWrite_amends (hr : Runs s) (h : s.amend 1 raw slot (.amendWrite raw slot) = t) :
    exec (.amendWrite raw slot) s = .next (s.keep t) := by
  rw [exec_amendWrite, execAmendWrite, nodeEvt_runs hr, h]

theorem exec_amendModelLoad_amends (hr : Runs s) (h : s.amend 2 raw slot (.amendModelLoad raw slot) = t) :
    exec (.amendModelLoad raw slot) s = .next (s.keep t) := by
  rw [exec_amendModelLoad, execAmendModelLoad, nodeEvt_runs hr, h]

theorem exec_amendLinkTrain_amends (hr : Runs s) (h : s.amend 4 raw slot (.amendLinkTrain raw slot) = t) :
    exec (.amendLinkTrain raw slot) s = .next (s.keep t) := by
  rw [exec_amendLinkTrain, execAmendLinkTrain, nodeEvt_runs hr, h]

theorem exec_amendTallyClear_amends (hr : Runs s) (h : s.amend 5 raw slot (.amendTallyClear raw slot) = t) :
    exec (.amendTallyClear raw slot) s = .next (s.keep t) := by
  rw [exec_amendTallyClear, execAmendTallyClear, nodeEvt_runs hr, h]

/-- An IMAGE_STORE without a SEQ is a record on its way; what the device holds does not travel with it (R423). -/
theorem exec_amendImageStore_amends (hr : Runs s) (hseq : amSeq raw = 0) {stored : Option Image}
    (h : s.amend 3 raw slot (.amendImageStore raw slot none) = t) :
    exec (.amendImageStore raw slot stored) s = .next (s.keep t) := by
  rw [exec_amendImageStore, execAmendImageStore, nodeEvt_runs hr, if_pos hseq, h]

end Amending

/-! ### The log, acknowledgements and a stored image (R420, R423) -/

section Log

variable {s u : State} {raw : List Byte} (hr : Runs s)
include hr

section Accepted

variable {mem : List (Nat × List Byte)} {src : Nat}
  (hu : u = (s.flood 0 10 raw.length (some src) (.amendLogAppend raw none [] s.me)).takeAppend raw)
include hu

/-- A record waits at its target to be programmed (R420). -/
theorem exec_amendLogAppend_here (hhere : u.meantHere raw = true) :
    exec (.amendLogAppend raw none mem src) s = .next (s.keep u) := by
  subst hu
  refine (exec_amendLogAppend ..).trans ((nodeEvt_runs hr _).trans ?_)
  simp only [hhere, Bool.not_true, Bool.and_false, Bool.false_eq_true, if_false]

/-- A node that the next record of the chain is not meant for acknowledges it at once (R420). -/
theorem exec_amendLogAppend_elsewhere (hseq : amSeq raw = s.get Reg.CFG_HEAD + 1) (hhere : u.meantHere raw = false) :
    exec (.amendLogAppend raw none mem src) s = .next (s.keep (u.ackAppend (amSeq raw) false)) := by
  subst hu
  refine (exec_amendLogAppend ..).trans ((nodeEvt_runs hr _).trans ?_)
  simp only [hhere, decide_eq_true hseq, Bool.not_false, Bool.and_true, if_true]

end Accepted

theorem exec_amendLogAppend_programmed {a b : Bool} {mem : List (Nat × List Byte)} {src : Nat} {e : Amend}
    (hfirst : s.cfg.log.find? (fun e => !e.appended) = some e) (hraw : e.raw = raw) :
    exec (.amendLogAppend raw (some (a, b)) mem src) s = .next (s.keep (s.programmedLog e a b mem)) := by
  refine (exec_amendLogAppend ..).trans ((nodeEvt_runs hr _).trans ?_)
  simp only [hfirst, if_pos hraw]

theorem exec_amendAppendAck_member (seq src : Nat) (bad : Bool) :
    exec (.amendAppendAck seq bad none src) s = .next (s.keep (s.gotAppendAck seq src bad)) := by
  rw [exec_amendAppendAck, execAmendAppendAck, nodeEvt_runs hr]

/-- A slot's completion shows at its entry node (R418). -/
theorem exec_amendAppendAck_slot (seq src : Nat) (bad : Bool) {d : StageDone} (hentry : d.slot.node = s.me) :
    exec (.amendAppendAck seq bad (some d) src) s = .next (s.keep (s.finishSlot d)) := by
  rw [exec_amendAppendAck, execAmendAppendAck, nodeEvt_runs hr]
  simp only [if_pos hentry]

theorem exec_amendImageStore_programmed {slot : StageSlot} {stored : Option Image} (hseq : amSeq raw ≠ 0)
    (hkind : amKind raw = 3) (htarget : amTarget raw = s.me)
    (hlogged : s.cfg.log.any (fun e => decide (e.raw = raw) && e.appended && !e.stored) = true) :
    exec (.amendImageStore raw slot stored) s = .next (s.keep (s.storedChunk raw stored)) := by
  rw [exec_amendImageStore, execAmendImageStore, nodeEvt_runs hr, if_neg hseq, if_pos ⟨hkind, htarget, hlogged⟩]

end Log

/-- Settles O38: each kind's command by what a node makes of a record (`State.amend`) elsewhere, accepted at the root and
refused there; the log and the image store by their conditions. A slot's completion in AMEND_APPEND_ACK is assumption 38,
the record's opaque body assumption 40, CFG_HEAD moving at receipt assumption 63, and the log's room judged by the root's
own logs assumption 89. -/
theorem amendmentRecordsRun : Obligations.AmendmentRecordsRun := by
  refine ⟨?onTheirWay, ?accepted, ?refused,
    fun raw mem src u s hr hseq hu => ⟨exec_amendLogAppend_here hr hu, exec_amendLogAppend_elsewhere hr hu hseq⟩,
    fun raw a b mem src e s hr hfirst hraw => exec_amendLogAppend_programmed hr hfirst hraw,
    fun seq src bad s hr => ⟨exec_amendAppendAck_member hr seq src bad, fun d hentry => exec_amendAppendAck_slot hr seq src bad hentry⟩,
    fun raw slot stored s hr hseq hkind htarget hlogged => exec_amendImageStore_programmed hr hseq hkind htarget hlogged⟩
  case onTheirWay =>
    intro raw slot s hr hroot
    exact ⟨exec_amendWrite_amends hr (State.amend_elsewhere hroot), exec_amendModelLoad_amends hr (State.amend_elsewhere hroot),
      exec_amendLinkTrain_amends hr (State.amend_elsewhere hroot), exec_amendTallyClear_amends hr (State.amend_elsewhere hroot),
      fun hseq _ => exec_amendImageStore_amends hr hseq (State.amend_elsewhere hroot)⟩
  case accepted =>
    intro raw slot s hr hroot
    exact ⟨fun h => exec_amendWrite_amends hr (State.amend_accepted hroot h),
      fun h => exec_amendModelLoad_amends hr (State.amend_accepted hroot h),
      fun h => exec_amendLinkTrain_amends hr (State.amend_accepted hroot h),
      fun h => exec_amendTallyClear_amends hr (State.amend_accepted hroot h)⟩
  case refused =>
    intro raw slot reason status u v s hr hroot hu hv
    exact ⟨fun h => exec_amendWrite_amends hr (State.amend_refused hroot h hu hv),
      fun h => exec_amendModelLoad_amends hr (State.amend_refused hroot h hu hv),
      fun h => exec_amendLinkTrain_amends hr (State.amend_refused hroot h hu hv),
      fun h => exec_amendTallyClear_amends hr (State.amend_refused hroot h hu hv)⟩

end Sys2Proof.Machine
end
